-- ==== Sys2Proof/Blocks/Queue.lean ====
section
/-! DEFINITION. The state of the Brine queues and of the Ringer (QUE). -/
namespace Sys2Proof

/-- A queue item as stored (Table QUE-2): what the producer gave, the SEQ and TOLL the queue filled in, and whether one
of its words has a bad parity bit (R451). -/
structure QItem where
  typ : Nat
  source : Nat
  seq : Nat
  toll : Nat
  status : Nat
  payload : Bytes
  badParity : Bool := false
  deriving DecidableEq, Repr

/-- One Brine queue (R444, R445): the items from F to W - 1, the positions W, F, R and M (the valid bit of M is the
option), the second copies of the pointers in PTRDUP mode stand in the queue's protection and agree except at an
upset, which the commands carry. -/
structure BQueue where
  /-- Items from F to W − 1, oldest first. -/
  items : List QItem := []
  w : Nat := 0
  f : Nat := 0
  r : Nat := 0
  m : Option Nat := none
  /-- SEQ that the next item receives (BQP_NEXTSEQ). -/
  nextSeq : Nat := 1
  lost : Nat := 0
  /-- SEQ of the last item delivered (Q_SEQ). -/
  lastSeq : Nat := 0
  /-- The 64-byte item window, as last latched (R447). -/
  window : Bytes := List.replicate 64 0
  en : Bool := true
  /-- The mode in force (0 PARITY, 1 PTRDUP) and the one that Q_CTL holds (R452). -/
  modeInForce : Nat := 0
  mode : Nat := 0
  level : Nat := 0
  /-- AVAIL has been below the level since the last signal (R449). -/
  armed : Bool := true
  opStatus : Nat := 0
  deriving DecidableEq, Repr

/-- The states of a Ringer thread (Table QUE-5). -/
inductive ThreadState where
  | dormant | ready | delayed | waiting | running
  deriving DecidableEq, Repr

/-- One Ringer thread (R457). -/
structure Thread where
  st : ThreadState := .dormant
  deadline : Nat := 0
  wake : Nat := 0
  mask : Nat := 0
  /-- Order in which the thread last became READY (R458). -/
  order : Nat := 0
  deriving DecidableEq, Repr

/-- A work item in a class queue (Table QUE-6), with the Ringer's own mark on it. -/
structure WorkItem where
  cls : Nat
  flow : Nat
  ctx : Nat
  kind : Nat
  /-- Full toll counter at enqueue; the item's ENQ field is its low 32 bits. -/
  enq : Nat
  payload : Bytes
  /-- Enqueue order over all classes. -/
  order : Nat
  /-- The handle that GET returned: the item is in service. -/
  handle : Option Nat := none
  /-- An ORDERED item that DONE has marked, with its staged result. -/
  result : Option Bytes := none
  deriving DecidableEq, Repr

/-- One Steward's view of the Ringer: running thread, operation argument, result, staged and taken items. -/
structure StewardWin where
  cur : Option Nat := none
  arg : Nat := 0
  resStatus : Nat := 0
  resValue : Nat := 0
  item : Bytes := List.replicate 32 0
  got : Bytes := List.replicate 32 0
  irq : Bool := false
  /-- The staging buffers of the seven producer ports (R456). -/
  stage : List Bytes := List.replicate 7 (List.replicate 64 0)
  deriving DecidableEq, Repr

/-- The Ringer (R457 to R465). -/
structure Ringer where
  threads : List Thread := List.replicate 256 {}
  stewards : List StewardWin := List.replicate 4 {}
  items : List WorkItem := []
  nextHandle : Nat := 1
  nextOrder : Nat := 1
  budgets : List Nat := [1000, 100, 10000]
  missCount : Nat := 0
  deriving DecidableEq, Repr

end Sys2Proof
end

