-- ==== Sys2Proof/Blocks/Belfry.lean ====
section
/-! DEFINITION. The state of Belfry (BLF): firmware, sessions, records in flash, SMBus. -/
namespace Sys2Proof

/-- A TLS session (R619, R624): its number, the orders outstanding, and the last 64 replies. -/
structure Session where
  id : Nat
  outstanding : List Nat := []
  cache : List (Nat × Bytes) := []
  deriving DecidableEq, Repr

/-- A firmware slot of the flash (R630): how often it has been erased since manufacture, and what has been programmed
into it since. -/
structure FwSlot where
  erased : Nat := 0
  writes : List (Nat × Bytes) := []
  deriving DecidableEq, Repr

/-- The installation record (R622). -/
structure Install where
  anchors : List Bytes := []
  cert : Bytes := []
  ipv4 : Nat := 0
  mask4 : Nat := 0
  gw4 : Nat := 0
  ipv6 : Nat := 0
  plen6 : Nat := 0
  gw6 : Nat := 0
  deriving DecidableEq, Repr

/-- The orders over TLS with their bodies (Table BLF-2). -/
inductive BelfryOrder where
  | health
  | telemetry (n : Nat)
  | powerCap (cap : Nat)
  | governor (ctl vlimit vfixed : Nat)
  | shutdown
  | evict
  | contextStop (c : Nat)
  | reset
  | wake
  | fwStage (off flags : Nat) (data : Bytes)
  | fwApply
  | calWrite (rec_ : Bytes)
  | repairWrite (rec_ : Bytes)
  | recordRead (which : Nat)
  | unitReturn (kind index : Nat)
  | addressSet (writes : List (Nat × Nat))
  | installSet (rec_ : Install)
  deriving DecidableEq, Repr

/-- Belfry. -/
structure Belfry where
  /-- The aux group has been in tolerance for 10 ms and the firmware is verified: Belfry has left reset (R109). -/
  running : Bool := false
  /-- The firmware slot that Belfry runs from until the next power-on reset (R140). -/
  slot : Nat := 0
  digest : Bytes := []
  sessions : List Session := []
  install : Install := {}
  active : Nat := 0
  slots : List FwSlot := List.replicate 2 {}
  /-- The user calibration record and the user repair record, as stored; empty when erased. -/
  cal : Bytes := []
  repair : Bytes := []
  /-- ERROR with UNIT 0 and CAUSE 3 has been raised (R665). -/
  repairFull : Bool := false
  /-- A repair or a retirement not yet appended (R633). -/
  pendingRepairs : List Bytes := []
  eid : Nat := 0
  /-- SPDM: the negotiation reached (0 none, 1 version, 2 capabilities, 3 algorithms), and the transcripts that its
  signatures cover: of the negotiation, of digests and certificates, of measurements. -/
  spdm : Nat := 0
  vca : Bytes := []
  chain : Bytes := []
  meas : Bytes := []
  /-- The last 512 items that TELQ has stored, for TELEMETRY (Table BLF-2). -/
  telq : List QItem := []
  /-- Orders in service that take time: session, request, order code. -/
  waiting : List (Nat × Nat × Nat) := []
  /-- Orders that wait for their turn, in arrival order (R624): session, request, order. -/
  queue : List (Nat × Nat × BelfryOrder) := []
  deriving DecidableEq, Repr

end Sys2Proof
end

