-- ==== Sys2Proof/Codes.lean ====
section
/-! DEFINITION. The catalogues of names: status codes (Table HST-7), mailbox commands (Table HST-3), device states
(Table BOO-1), harvest context states (Table HVS-1). Their numbers stand in Machine/Catalogue. -/
namespace Sys2Proof

/-- The status codes (R616, Table HST-7). -/
inductive Status where
  | ok | pending | refused | busy | preempted | paused
  | illegalOpcode | reservedNonzero | badEnum | staleOperand
  | authFail | notOnCurve | notCanonical | lowOrder | badScalar | sigFail
  | ledgerConflict | floorNotMet | late | recoveryFailed | voided | unmaskIncomplete | assayGate
  | layoutConflict | imageRejected | policyForbids
  | linkDown | postedFail | lateCompletion | markLost | routeStray
  | tamperAbort | locked | uncorrectable | transientRetried | lastingFault
  deriving DecidableEq, Repr

/-- The states of a harvest context (R351, Table HVS-1). -/
inductive CtxState where
  | closed | opened | gathering | tallied | unmasking | settling | released | voided
  /-- Between steps 1 and 7 of R382, while the VOIDED certificate waits to be signed. It is no state of Table HVS-1: the
  context reports the state that it was in (`shownState`). -/
  | voiding
  deriving DecidableEq, Repr

/-- The device states (R133, Table BOO-1). -/
inductive DevState where
  | cold | held | booting | untenanted | tenantedIdle | running | muffled | locked
  deriving DecidableEq, Repr

/-- Who issues a register access: the driver through a function, Belfry, or a Steward. -/
inductive Requester where
  | host (pf : Fin 4)
  | belfry
  | steward (s : Fin 4)
  deriving DecidableEq, Repr

/-- The space an access names: BAR0 of a function, BAR2 of PF0 (Belfry's internal path has the same offsets), Steward
space. -/
inductive Space where
  | bar0 (pf : Fin 4)
  | bar2
  | steward
  deriving DecidableEq, Repr

end Sys2Proof
end

