-- ==== Sys2Proof/Blocks/Host.lean ====
section
/-! DEFINITION. The state of the PCI Express functions (HST): mailbox ring, commands, result cache, MSI-X. -/
namespace Sys2Proof

/-- The mailbox commands with their arguments (Table HST-3). -/
inductive HostCmd where
  | imageLoad (addr len : Nat)
  | imagePartial (addr len ctx : Nat)
  | attest (outAddr outLen nonceLen nonceAddr : Nat)
  | enrollTenant (addr len : Nat)
  | weightsLoad (addr len : Nat)
  | tenantLeave
  | harvestOpen (addr len : Nat)
  | rosterLoad (addr len : Nat)
  | hostIngest (addr len count replyAddr form : Nat)
  | tallyFreeze
  | sharesSubmit (addr len count replyAddr : Nat)
  | settle
  | releaseFetch (resAddr resLen certAddr certLen : Nat)
  | harvestVoid
  | harvestClose
  | quadForm (mask : Nat)
  | quadDissolve
  | muffle
  | wake
  | debugUnlock (addr len : Nat)
  deriving DecidableEq, Repr

/-- What a DMA read of host memory gave: nothing yet, the bytes, or a failure of the read and of its retry (R595). -/
inductive Dma where
  | pending
  | data (bs : Bytes)
  | failed
  deriving DecidableEq, Repr

/-- A command entry presented whole by the driver, waiting for its turn (R600). -/
structure Waiting where
  cmd : HostCmd
  dma : Dma
  deriving DecidableEq, Repr

/-- A command in service or parked, with its sequence number. -/
structure Serving where
  cmd : HostCmd
  seq : Nat
  /-- A DMA read is awaited: once it has failed, it is the retry that is awaited (R595). -/
  awaitDma : Bool := false
  /-- What the command read from the host, while it waits for the DRBG (R497) or for other members. -/
  data : Option Bytes := none
  retried : Bool := false
  /-- The claims of an ATTEST as they stood when it was served, encoded, from key 3 on (R515). -/
  snap : Bytes := []
  /-- Frames of an ingest still undecided, replies written (R607). -/
  open_ : List Nat := []
  decided : Nat := 0
  acked : Nat := 0
  refused : Nat := 0
  receipts : Nat := 0
  deriving DecidableEq, Repr

/-- A command served, as the result cache keeps it (R601). -/
structure Served where
  seq : Nat
  code : Nat
  status : Nat
  result : Bytes
  deriving DecidableEq, Repr

/-- One physical function. -/
structure Fn where
  /-- The mailbox ring: bytes that are not zero, by rising offset (0 to 4,095). -/
  ring : List (Nat × Byte) := []
  damaged : Nat := 0
  expect : Nat := 0
  /-- The T of the last accepted doorbell, while entries up to it wait (R599). -/
  limit : Option Nat := none
  stopped : Bool := false
  waiting : List Waiting := []
  serving : Option Serving := none
  parked : List Serving := []
  cache : List Served := []
  bme : Bool := false
  /-- Memory Space Enable. The table has no row for its write: it is taken as set but in D3hot (DESIGN CHOICE, log entry
  30). -/
  mse : Bool := true
  /-- MSI-X table (1,024 bytes; bytes that differ from their reset value) and pending bits. -/
  msix : List (Nat × Byte) := []
  pba : Nat := 0
  deriving DecidableEq, Repr

end Sys2Proof
end

