-- ==== Sys2Proof/Blocks/Keyhold.lean ====
section
/-! DEFINITION. The state of Keyhold (KEY): KEYREG, the engine key slots, the curve engine, the noise pool and the DRBG
streams. The slot-context table of D1 stands with the Inlets. -/
namespace Sys2Proof

/-- KEYREG's attribute word (Table KEY-3). LIFETIME 0 SINGLE, 1 HARVEST, 2 TENANT, 3 BOOT. -/
structure KeyAttr where
  dest : Nat := 0
  deriveOnly : Bool := false
  encrypt : Bool := false
  sign : Bool := false
  unwrap : Bool := false
  lifetime : Nat := 0
  ctx : Nat := 0
  deriving DecidableEq, Repr

/-- KEYREG (R478): its key, its attribute word and its holder, a Ringer thread. -/
structure KeyReg where
  key : Bytes := List.replicate 32 0
  attr : KeyAttr := {}
  holder : Option Nat := none
  mask : Bytes := List.replicate 32 0
  deriving DecidableEq, Repr

/-- A key in an engine slot (Table KEY-4). The slot stores the key XOR the mask (R484). -/
structure KeySlot where
  engine : Nat
  index : Nat
  key : Bytes
  lifetime : Nat
  ctx : Nat
  mask : Bytes := List.replicate 32 0
  deriving DecidableEq, Repr

/-- The operations of the curve engine (Table KEY-6). -/
inductive CurveOp where
  | x25519 | x25519Pair | p256Ecdh | p384Ecdh | p256Pair | p384Pair | p256Sign | p384Sign | p256Verify | p384Verify
  | ed25519Verify | checkP256 | checkP384 | checkX25519 | checkEd25519
  deriving DecidableEq, Repr

/-- A curve request (R486): its inputs, and a tag that its requester chose. -/
structure CurveReq where
  op : CurveOp
  scalar : Bytes := []
  point : Bytes := []
  msg : Bytes := []
  sig : Bytes := []
  tag : Nat
  /-- The requester, as the unit's arbiter knows it (R486). -/
  who : Nat := 0
  deriving DecidableEq, Repr

/-- The end of a curve operation: its tag, status, output, NONCANONICAL flag, and its time from the start in units of
0.1 µs (R487). -/
structure CurveRes where
  tag : Nat
  status : Status
  out : Bytes
  noncanonical : Bool
  time : Nat
  deriving DecidableEq, Repr

/-- One stream of the DRBG (R495): CTR_DRBG's Key and V, the requests since its last reseed, the toll of that reseed,
and when its reseed fell due. -/
structure DrbgStream where
  inst : Bool := false
  key : Bytes := []
  v : Bytes := []
  requests : Nat := 0
  reseedAt : Nat := 0
  due : Option Nat := none
  /-- A generate request waits since this toll tick (R497), for how many bytes, with the RNG_HEALTH events it has
  raised. -/
  waitSince : Option Nat := none
  waitBytes : Nat := 0
  raised : Nat := 0
  /-- Output of the last request served. -/
  out : Bytes := []
  deriving DecidableEq, Repr

/-- Where KEYREG is loaded from (R478): DRBG stream 0, the derivation engine or a curve-engine result. -/
inductive KeySource where
  | drbg
  | derive (slot : Nat) (salt info : Bytes)
  | curve (tag : Nat)
  deriving DecidableEq, Repr

/-- The last grants of the mutual-exclusion elements whose waiting requesters the model keeps (R76, R77), the oldest last grant
first: KEYREG by its holders, each curve unit by its requesters, the Steward command arbiter by its functions, the element before
the frames' flows by port and 4 + function, the DRBG's reseeds by stream. -/
structure Arbiters where
  keyreg : List Nat := []
  curve : List (List Nat) := List.replicate 9 []
  steward : List Nat := []
  enqueue : List Nat := []
  reseed : List Nat := []
  deriving DecidableEq, Repr

/-- Keyhold. -/
structure Keyhold where
  keyreg : KeyReg := {}
  /-- Loads that wait for KEYREG or, under a holder already granted, for the DRBG (R478, R507). -/
  keyWait : List (Nat × KeySource × KeyAttr) := []
  slots : List KeySlot := []
  /-- The UDS read path is closed (R473). -/
  udsClosed : Bool := false
  /-- Firmware digests as verified at boot: d_rom, d_steward, d_belfry. -/
  fw : List Bytes := []
  identityPub : Bytes := []
  aliasPub : Bytes := []
  aliasCert : Bytes := []
  belfryPub : Bytes := []
  cdi : Bytes := []
  ekeyPub : Bytes := []
  ekeyValid : Bool := false
  /-- The tenant image key (97 bytes), while a tenant is enrolled (R518). -/
  tenantKey : Option Bytes := none
  /-- Curve engine: requests waiting, the operations in the eight X25519 units and in the wide unit, ends not yet taken. -/
  curveWait : List CurveReq := []
  curveUnits : List (Option CurveReq) := List.replicate 9 none
  curveDone : List CurveRes := []
  /-- The private scalar that a P-256 or P-384 key-pair operation left for the one ECDH that follows (R488). -/
  pairScalar : Option Bytes := none
  pairSlots : List (Nat × Bytes) := []
  -- noise and DRBG
  pool : List Bool := []
  credit : Nat := 0
  failcnt : Nat := 0
  windows : Nat := 0
  streams : List DrbgStream := List.replicate 49 {}
  drbgZeroised : Bool := false
  /-- A known-answer test failed once and is to be run again (R662). -/
  katFailed : Bool := false
  deriving DecidableEq, Repr

end Sys2Proof
end

