-- ==== Sys2Proof/Blocks/Number.lean ====
section
/-! DEFINITION. The types of the number formats (FMT): a decoded value, the rounding directions, the numeric mode, the
format codes. -/
namespace Sys2Proof

/-- The rounding directions of NMODE.RND (Table FMT-7). -/
inductive Rnd where
  | nearest | zero | up | down
  deriving DecidableEq, Repr

/-- NMODE (R228, Table FMT-7). -/
structure NMode where
  rnd : Rnd := .nearest
  ftz : Bool := false
  s19t : Bool := false
  passes : Nat := 1
  deriving DecidableEq, Repr

/-- The format codes (R212, Table FMT-1). -/
inductive Fmt where
  | fp32 | fp64 | s19 | s8e4 | s8e5 | s4 | s4b16 | s4b32 | s8b32 | int8 | int4 | int32
  deriving DecidableEq, Repr

/-- A decoded value: a NaN with its sign and its fraction (left-aligned to 52 bits, bit 51 marking a quiet NaN), an
infinity, or the exact finite value (−1)^neg × m × 2^e. -/
inductive FVal where
  | nan (neg : Bool) (frac : Nat)
  | inf (neg : Bool)
  | fin (neg : Bool) (m : Nat) (e : Int)
  deriving DecidableEq, Repr

end Sys2Proof
end

