-- ==== Sys2Proof/Blocks/Pan.lean ====
section
/-! DEFINITION. The state of one Pan (PAN, SEQ, KTL, CRY, GRN) and of the Change fabric (PAN). -/
namespace Sys2Proof

/-- The states of a Pan (R193, Table PAN-1). -/
inductive PanState where
  | unassigned | halted | running | quiescing | quiesced | trapped | retired | returning
  deriving DecidableEq, Repr

/-- One address generator (Table SEQ-1, R334). STRIDE and SSTRIDE are signed 24-bit values. -/
structure AddrGen where
  base : Nat := 0
  stride : Int := 0
  count : Nat := 0
  pos : Nat := 0
  sbase : Nat := 0
  sstride : Int := 0
  deriving DecidableEq, Repr

/-- The fields of KCFG (R247). -/
structure KCfg where
  stat : Fmt := .s19
  str : Fmt := .s19
  openMode : Bool := false
  passes : Nat := 1
  ftz : Bool := false
  deriving DecidableEq, Repr

/-- The fields of KOUT (R259). Fused operation 0 none, 1 add, 2 multiply; row statistics 0 none, 1 NEW, 2 MERGE. -/
structure KOut where
  fmt : Fmt := .fp32
  fused : Nat := 0
  fusedFmt : Fmt := .fp32
  stats : Nat := 0
  nm : NMode := {}
  deriving DecidableEq, Repr

/-- What the SECDED code finds in a word as it is read (R188, R210): a single-bit error, corrected; a double-bit error that
the one retry does not meet again; one that it meets again. -/
inductive Upset where
  | corrected | transient | lasting
  deriving DecidableEq, Repr

/-- The states of a stationary bank (R242, Table KTL-2). -/
inductive BankState where
  | invalid | loading | valid
  deriving DecidableEq, Repr

/-- A stationary bank: its state and the 128 stationary columns with their scale bytes. FP32 operands are held split: hi in
`cols`, lo in `los` (R249). -/
structure Bank where
  st : BankState := .invalid
  cols : List Bytes := []
  los : List Bytes := []
  scales : List Bytes := []
  deriving DecidableEq, Repr

/-- The engines of a Pan with an instruction queue (R332). -/
inductive Engine where
  | kettle | grainer | crystalliser | port
  deriving DecidableEq, Repr

/-- What an engine queue entry does, with the fields its word gave. -/
inductive EngOp where
  | kcfg (c : KCfg)
  | kout (o : KOut)
  | kload (bank : Nat) (gen : Nat) (chan : Option Nat)
  | krun (bank : Nat) (add32 : Bool) (endMode : Nat) (rows : Nat) (src : Option Nat) (fused : Option Nat)
      (cfg : KCfg) (out : KOut)
  | kpass (fp64 : Bool) (rows : Nat) (fused : Option Nat) (out : KOut)
  | gseed (addr : Nat)
  | gexp (left : Nat)
  | gexpLane
  | gstream (chacha : Bool) (gen : Option Nat) (chan : Nat) (nonceAddr : Nat) (ctr : Nat) (len : Nat)
  | cring (sub : Bool) (width : Nat) (chan : Option Nat) (count : Nat)
  | caddItem
  | cfield (op : Nat) (count : Nat)
  | cnoise
  | cdeq (nm : NMode)
  | cfuse (op : Nat) (p64 : Bool) (count : Nat) (nm : NMode)
  | send (chan : Nat) (gen : Nat) (flits : Nat)
  | sigt (chan : Nat) (value : Nat)
  deriving DecidableEq, Repr

/-- An entry of an engine queue: the instruction, its word index, its place in issue order, and the four address
generators as they stood when it issued (every address is known then, R334). -/
structure EngEntry where
  op : EngOp
  pc : Nat
  order : Nat
  ag : List AddrGen
  /-- Channel data taken for it so far. -/
  got : Bytes := []
  /-- A KLOAD whose shift-in has started. -/
  started : Bool := false
  /-- Rows of its work done so far: they stand where the rest is never done (R341, R343). -/
  row : Nat := 0
  deriving DecidableEq, Repr

/-- The instruction that blocks the sequencer (R332), with what its completion needs. -/
inductive Blocked where
  | recv (chan : Nat) (gen : Nat) (d : Nat)
  | waitt (chan : Nat) (d : Nat)
  | halt
  | kdrain
  | fence
  | fencec (d : Nat)
  deriving DecidableEq, Repr

/-- An item of the Change fabric (R198, R202): source, destination, class of content and flits. -/
structure FabItem where
  /-- Source Pan; 0xFF a shared port. -/
  src : Nat
  srcChan : Nat
  ctx : Option Nat
  /-- Route kind (Table PAN-3), destination index, DCHAN and RCHAN. -/
  kind : Nat
  dest : Nat
  dchan : Nat
  rchan : Nat
  token : Bool
  data : Bytes
  deriving DecidableEq, Repr

/-- The commit record of a Crystalliser (R286, Table CRY-5). -/
inductive CommitState where
  | idle | adding | done | backout
  deriving DecidableEq, Repr

structure Commit where
  st : CommitState := .idle
  slot : Nat := 0
  next : Nat := 0
  tile : Bool := false
  /-- The tile that TILE says is computed and not yet acknowledged (R283). -/
  buf : Bytes := []
  deriving DecidableEq, Repr

/-- Where a draw of the noise sampler stands in the procedure of R289: before `u`, in the test of `u`, in the count of `v`,
before the sign, in the test of the whole sample, with a sample to be added. -/
inductive DrawStage where
  | needU | testU | countV | sign | testY | done
  deriving DecidableEq, Repr

/-- The noise sampler between two draws of `uniform` (R289). `bern_exp(n, d)` is at its round `k`; `inner` is not 0 while
the `bern_exp(1, 1)` of its while loop is at that round. -/
structure Sampler where
  stage : DrawStage := .needU
  u : Nat := 0
  v : Nat := 0
  y : Int := 0
  n : Nat := 0
  d : Nat := 1
  k : Nat := 1
  inner : Nat := 0
  deriving DecidableEq, Repr

/-- A ledger-seed entry (R308): seed, operation (true SUB) and tag. -/
structure SeedEntry where
  seed : Bytes
  sub : Bool
  tag : Nat
  deriving DecidableEq, Repr

/-- The reconstruction in progress in a Grainer's store (R307, R319): the owner, the share set by x-coordinate, the result. -/
structure ReconWork where
  owner : Nat
  set_ : List (Nat × Bytes)
  result : Option Bytes := none
  deriving DecidableEq, Repr

/-- One Pan. -/
structure Pan where
  st : PanState := .unassigned
  /-- The state a quiesce request found (R182, R343). -/
  prior : Option PanState := none
  /-- The request comes from a void, a close or a return: the Pan is rewritten and goes to HALTED (R377, R382). -/
  ret : Bool := false
  /-- The request comes from a retirement: once QUIESCED the Pan is RETIRED (R193, R194). -/
  retiring : Bool := false
  ctx : Option Nat := none
  suspect : Bool := false
  need : Nat := 0
  /-- Physical subarrays retired (R191), and the spare rows marked bad: subarray, spare row. -/
  retiredSubs : List Nat := []
  badSpares : List (Nat × Nat) := []
  /-- Row repairs: subarray, row, spare row. -/
  repairs : List (Nat × Nat × Nat) := []
  /-- Logical subarray L is mapped to the L-th entry (R190). -/
  map : List Nat := []
  trapPc : Nat := 0
  trapCode : Nat := 0
  -- sequencer (Table SEQ-1)
  entry : Nat := 0
  pc : Nat := 0
  g : List Nat := List.replicate 32 0
  p : List Bool := List.replicate 8 false
  ag : List AddrGen := List.replicate 4 {}
  nstat : Nat := 0
  cstat : Nat := 0
  prefetch : List Nat := []
  /-- Instruction memory: the words that are not zero, by rising index. -/
  imem : List (Nat × Nat) := []
  blocked : Option Blocked := none
  debugHalt : Bool := false
  /-- Instructions issued so far: the order of the next one (R341). -/
  issueOrder : Nat := 0
  -- Kettle
  kcfg : KCfg := {}
  /-- The configuration after every instruction issued so far (R339). -/
  kcfgIssue : KCfg := {}
  /-- The KOUT in effect, and the one after every instruction issued so far (R339). -/
  kout : KOut := {}
  koutIssue : KOut := {}
  banks : List Bank := List.replicate 2 {}
  /-- Whether each bank will hold a complete shift-in after every Kettle instruction issued so far (R339, cause 0x04). -/
  bankIssue : List Bool := List.replicate 2 false
  kq : List EngEntry := []
  gq : List EngEntry := []
  cq : List EngEntry := []
  pq : List EngEntry := []
  -- memory (R188): bytes that are not zero, by rising logical address; words that read uncorrectable
  mem : List (Nat × Byte) := []
  bad : List Nat := []
  -- fabric port (R200 to R203)
  routes : List (Nat × Nat) := []
  routeCache : List (Nat × Nat) := []
  rxMask : Nat := 0
  rx : List (Nat × List FabItem) := []
  /-- Route writes through the debug path not yet picked up (R207). -/
  routePending : List Nat := []
  -- Grainer (R307, R308, R315)
  progSeed : Bytes := List.replicate 32 0
  seedQ : List SeedEntry := []
  expandTag : Option Nat := none
  expandNext : Nat := 0
  /-- Entries of the tile batch in service (R314), and the tile computed with them and not yet acknowledged (R315). -/
  expandBatch : Nat := 0
  expandTile : Bool := false
  expandBuf : Bytes := []
  recon : Option ReconWork := none
  /-- The mask of the seed and secret stores (R484). -/
  grainMask : Bytes := List.replicate 32 0
  -- Crystalliser (R286, R288)
  commit : Commit := {}
  addItems : List Nat := []
  noiseIssued : Bool := false
  noiseDone : Bool := false
  noiseStart : Nat := 0
  /-- Words of the slice that have received their sample (R290), the sampler, and DRBG output drawn and not yet read. -/
  noiseNext : Nat := 0
  sampler : Sampler := {}
  noiseBuf : Bytes := []
  /-- Work counts of Kettle, Grainer, Crystalliser and sequencer (DBG_PCNT). -/
  pcnt : List Nat := [0, 0, 0, 0]
  /-- KST_STATUS: the last logic self-test needed its rerun. -/
  retriedTest : Bool := false
  deriving DecidableEq, Repr

/-- A ROUTE_SYNC in progress (R204): the Pans whose ports it holds, and why it runs. -/
structure RouteSync where
  pans : List Nat
  deriving DecidableEq, Repr

/-- Stray accounting of one destination Pan (R205). -/
structure Stray where
  last : Option Nat := none
  count : Nat := 0
  reason : Nat := 0
  src : Nat := 0
  schan : Nat := 0
  dchan : Nat := 0
  deriving DecidableEq, Repr

/-- The Change fabric. -/
structure Fabric where
  inflight : List FabItem := []
  sync : Option RouteSync := none
  syncCount : Nat := 0
  strays : List Stray := List.replicate 48 {}
  lastStray : Nat := 0xFF * 2 ^ 48
  deriving DecidableEq, Repr

end Sys2Proof
end

