-- ==== Sys2Proof/Syntax.lean ====
section
/-! DEFINITION. The commands that the block takes: one constructor per row of the table of operations and events, each
with the operands that its sender supplies (what the driver, Belfry, a bus, a pin, a link or a sensor brings). -/
namespace Sys2Proof

/-- A row that a slice's March C− found failing (R654): physical row 0 to 519, word and bit of the first failing cell,
and whether the second test failed too. -/
structure RowFail where
  row : Nat
  word : Nat
  bit : Nat
  lasting : Bool
  deriving DecidableEq, Repr

/-- The commands. -/
inductive Instr where
  /-- R15. A write to a register field that has no row of its own: RW, W1C or W1S fields take effect, with the reserved-bit, unlisted-enum and host-write discard rules applied. -/
  | registerWrite (who : Requester) (sp : Space) (off width v : Nat) (poisoned : Bool)
  /-- R15. A read of an RC field returns its value and clears it to zero as one indivisible action. -/
  | readClear (who : Requester) (sp : Space) (off width : Nat)
  /-- R23. A 32-bit read of the low half of a 64-bit RO or RC register latches the high half, and clears an RC register. -/
  | lowHalfRead (who : Requester) (sp : Space) (off : Nat)
  /-- R21. A write to GOV_VLIMIT is discarded whole, setting LIMIT_ORDER, if it would leave VMIN above VMAX. -/
  | govVlimitWrite (who : Requester) (v : Nat)
  /-- R79. Each 1 µs tick derived from REFCLK_SYS increments the 64-bit toll counter. -/
  | tollTick
  /-- R81. Every 1 ms the governor reads power and Tj, then sets the VDDC setpoint and the brake by the branch rules. -/
  | governorRun (power : Nat) (tj : Int)
  /-- R92. Once per second, while power stays above the cap with the brake at 1/8, a THERMAL event with reason 2 is raised. -/
  | thermalCapRepeat
  /-- R84. An AVSBus transaction ends with its response, CRC check and readback, and is retried once on failure. -/
  | avsTransactionDone (ok : Bool) (mv : Nat)
  /-- R80. Every 100 ms CAD_READING and CAD_CADENCE are updated with coarsened power, Tj and cadence. -/
  | readingUpdate (power : Nat) (tj : Int) (kettle : Nat)
  /-- R135. The aux group rising from below tolerance resets every block and moves the device from COLD to HELD. -/
  | powerOnReset
  /-- R133. The aux group falls below tolerance and the device enters COLD. -/
  | auxPowerLoss
  /-- R109. Belfry verifies its firmware and leaves reset after the aux group has been in tolerance for 10 ms. -/
  | belfryResetRelease
  /-- R135. SYS_RST_N asserted causes a system reset, which loses the tenant and moves the device to HELD. -/
  | sysRstAssert
  /-- R138. SYS_RST_N rising latches the straps and starts the boot sequence, or enters LOCKED if the latch is set. -/
  | sysRstRelease (pos : Fin 4) (bootSrc : Bool) (smb : Fin 4) (cool : Bool)
  /-- R112. Start-up proceeds once every die sensor reads below 80 °C. -/
  | thermalWaitEnd
  /-- R138. A boot step of Table BOO-3 completes and the next step starts. -/
  | bootStepComplete (step : Fin 11) (mask : Nat) (rows : List (Nat × Nat × RowFail))
  /-- R135. PERST_N resets the endpoint and every function, and voids every live context. -/
  | perstAssert
  /-- R144. PCI Express link training completes and the endpoint answers configuration requests. -/
  | pcieLinkUp
  /-- R112. A sensor at 105 °C or more asserts THERMTRIP_N, removes VDDC and zeroises the keys in hardware. -/
  | thermtrip
  /-- R121. VDDK stays below its window for more than 10 µs; this acts as a system reset and Tocsin moves to VBAT. -/
  | vddkLoss
  /-- R121. VDDC stays below its window for more than 10 µs; live contexts are voided, VDDC is removed and the core restarts. -/
  | vddcBrownout
  /-- R111. The on-die sense reads VDDC below 50 mV, which starts the 100 ms hold and completes a pending MUFFLE. -/
  | vddcDischarged
  /-- R111. The core power-off hold ends, VDDC_DSCH goes low, and a held WAKE or a restart may proceed. -/
  | vddcHoldEnd
  /-- R111. No sooner than 10 µs after the hold, VDDC_EN rises again to start VDDC. -/
  | vddcRestart
  /-- R118. VDDC has stayed within ±50 mV of 0.70 V for 1 ms; it is declared good and the glitch detector is armed. -/
  | vddcGood
  /-- R118. VDDC is not good 20 ms after VDDC_EN rises; it is removed and retried once, or start-up halts. -/
  | vddcStartTimeout
  /-- R129. VDDC is not below 50 mV 1 s after VDDC_EN falls, and the device enters LOCKED. -/
  | vddcDischargeFail
  /-- R146. On PF0 in TENANTED-IDLE, puts the Stores in self-refresh and removes VDDC to enter Muffled. -/
  | muffle (pf : Fin 4)
  /-- R149. Starts VDDC, reapplies calibration and repair, zeroes Pan memory and Tally, and exits self-refresh. -/
  | wake (pf : Fin 4)
  /-- R149. The wake steps end, TENANTED-IDLE is entered and WAKE completes, or the wake fails with LASTING_FAULT. -/
  | wakeComplete
  /-- R171. Checks function and state, then DMA-copies a full Ocrath image into the staging region. -/
  | imageLoad (pf : Fin 4) (addr len : Nat) (dma : Dma)
  /-- R175. Checks function and state, then DMA-copies a partial image that replaces the routes and programs of one context. -/
  | imagePartial (pf : Fin 4) (addr len ctx : Nat) (dma : Dma)
  /-- R172. Staging ends; the header, signature, digests, contents and layout are checked, and the apply is started. -/
  | imageStaged
  /-- R173. The apply zero-fills, writes the sections, runs ROUTE_SYNC, rechecks the layout and publishes the measurement. -/
  | imageApply
  /-- R194. A Pan meets the quiesce conditions and enters QUIESCED, and a waiting apply continues. -/
  | panQuiesced (p : Fin 48)
  /-- R182. A Pan has not quiesced within 10 ms; it returns to its previous state and the requester gets BUSY. -/
  | quiesceTimeout (p : Fin 48)
  /-- R204. No item from the synced ports is in flight; caches and receive masks are reloaded and the ports reopen. -/
  | routeSyncDrained
  /-- R200. A fabric item reaches its destination Pan's receive channel or a shared port. -/
  | itemDeliver (n : Nat)
  /-- R205. At the end of a stray millisecond, one ROUTE_STRAY event describes the strays counted in it. -/
  | strayEventFlush (p : Fin 48)
  /-- R207. Within 2 µs of a debug route write, the source port picks the new entry up into its cache. -/
  | routePickup (p : Fin 48) (chan : Fin 64)
  /-- R336. Does nothing. -/
  | nop (p : Fin 48) (w : BitVec 25)
  /-- R336. gD = gA + gB modulo 2^64. -/
  | add (p : Fin 48) (w : BitVec 25)
  /-- R336. gD = gA − gB modulo 2^64. -/
  | sub (p : Fin 48) (w : BitVec 25)
  /-- R336. gD = gA and gB. -/
  | and (p : Fin 48) (w : BitVec 25)
  /-- R336. gD = gA or gB. -/
  | or (p : Fin 48) (w : BitVec 25)
  /-- R336. gD = gA xor gB. -/
  | xor (p : Fin 48) (w : BitVec 25)
  /-- R336. gD = gA shifted left by gB mod 64. -/
  | shl (p : Fin 48) (w : BitVec 25)
  /-- R336. gD = gA shifted right logically by gB mod 64. -/
  | shr (p : Fin 48) (w : BitVec 25)
  /-- R336. gD = low 64 bits of gA × gB. -/
  | mul (p : Fin 48) (w : BitVec 25)
  /-- R336. Adds a sign-extended immediate to gD. -/
  | addi (p : Fin 48) (w : BitVec 25)
  /-- R336. Shifts gD left by 16 bits and inserts the immediate. -/
  | ldi (p : Fin 48) (w : BitVec 25)
  /-- R336. Sets a predicate from an unsigned or signed comparison of two registers. -/
  | cmp (p : Fin 48) (w : BitVec 25)
  /-- R333. Blocking load of 8 bytes from Pan memory into a register. -/
  | ld (p : Fin 48) (w : BitVec 25) (ups : List (Nat × Upset))
  /-- R333. Stores 8 bytes from a register into Pan memory. -/
  | st (p : Fin 48) (w : BitVec 25)
  /-- R342. Jumps to an absolute word index and refetches. -/
  | jmp (p : Fin 48) (w : BitVec 25)
  /-- R342. Branches relative to pc and refetches. -/
  | br (p : Fin 48) (w : BitVec 25)
  /-- R336. Jumps to the word index in a register, trapping ADDRESS at 16,384 or more. -/
  | jr (p : Fin 48) (w : BitVec 25)
  /-- R336. Decrements a register and branches if the result is nonzero. -/
  | loop (p : Fin 48) (w : BitVec 25)
  /-- R336. Waits for every earlier instruction to complete, then the Pan enters HALTED. -/
  | halt (p : Fin 48) (w : BitVec 25)
  /-- R336. Every instruction before a HALT has completed and the Pan enters HALTED. -/
  | haltComplete (p : Fin 48)
  /-- R337. Reads NSTAT, CSTAT, the toll counter, the Pan's rank, its slice or its harvest information into a register. -/
  | rdst (p : Fin 48) (w : BitVec 25)
  /-- R229. Clears the selected sticky NSTAT or CSTAT flags. -/
  | clst (p : Fin 48) (w : BitVec 25)
  /-- R334. Sets an address generator's base, stride and count, and zeroes its position. -/
  | agset (p : Fin 48) (w : BitVec 25)
  /-- R334. Sets an address generator's scale base and scale stride. -/
  | agscl (p : Fin 48) (w : BitVec 25)
  /-- R334. Advances an address generator's position modulo its count. -/
  | agadv (p : Fin 48) (w : BitVec 25)
  /-- R348. Reads an address generator's current row address into a register. -/
  | agrd (p : Fin 48) (w : BitVec 25)
  /-- R203. Sends one item of 1 to 16 flits from memory on an outgoing channel. -/
  | send (p : Fin 48) (w : BitVec 25)
  /-- R336. Blocks until the next data item on a receive channel arrives, then writes it to memory. -/
  | recv (p : Fin 48) (w : BitVec 25)
  /-- R336. The awaited data item arrives, is written to memory, and RECV sets its flit count. -/
  | recvComplete (p : Fin 48)
  /-- R336. Blocks until the next token on a receive channel arrives. -/
  | waitt (p : Fin 48) (w : BitVec 25)
  /-- R336. The awaited token arrives and its value is written to a register. -/
  | waittComplete (p : Fin 48)
  /-- R336. Sends a one-flit token carrying a register value to a Pan route. -/
  | sigt (p : Fin 48) (w : BitVec 25)
  /-- R247. Queues a Kettle configuration of formats, pairing mode and passes. -/
  | kcfg (p : Fin 48) (w : BitVec 25)
  /-- R268. KCFG takes effect after the last row of every earlier KRUN has entered the array, invalidating banks if the configuration changed. -/
  | kcfgApply (p : Fin 48)
  /-- R259. Sets the output format, fused operation, row statistics and output rounding of the Kettle. -/
  | kout (p : Fin 48) (w : BitVec 25)
  /-- R243. Starts a 128-step shift-in into one stationary bank from memory or a channel. -/
  | kload (p : Fin 48) (w : BitVec 25)
  /-- R242. The 128th step of a shift-in completes and the bank becomes VALID. -/
  | shiftInDone (p : Fin 48) (ups : List (Nat × Upset))
  /-- R245. Streams rows against a bank, trapping STALE_OPERAND if the bank is INVALID. -/
  | krun (p : Fin 48) (w : BitVec 25)
  /-- R261. Runs an output-stage pass over a tensor in Pan memory, without the array. -/
  | kpass (p : Fin 48) (w : BitVec 25)
  /-- R246. Blocks until all earlier Kettle results and chain additions are written. -/
  | kdrain (p : Fin 48) (w : BitVec 25)
  /-- R246. Every earlier Kettle result has been written and KDRAIN completes. -/
  | kdrainComplete (p : Fin 48)
  /-- R309. Loads a program seed from Pan memory, with 16 handshakes of seed setup. -/
  | gseed (p : Fin 48) (w : BitVec 25)
  /-- R308. Expands ledger-seed queue entries into the accumulator slice, waiting when the queue is empty. -/
  | gexp (p : Fin 48) (w : BitVec 25)
  /-- R309. Writes keystream of the program seed to memory or a channel. -/
  | gstream (p : Fin 48) (w : BitVec 25)
  /-- R285. Ring addition of words, or, with SRC 2, waits for the next add item and adds a contribution slice. -/
  | cadd (p : Fin 48) (w : BitVec 25)
  /-- R273. Ring subtraction of words. -/
  | csub (p : Fin 48) (w : BitVec 25)
  /-- R275. GF(2^61 − 1) ADD, SUB, MUL, MAC or INV on a count of elements. -/
  | cfield (p : Fin 48) (w : BitVec 25)
  /-- R288. Adds discrete Gaussian noise to the Pan's accumulator slice. -/
  | cnoise (p : Fin 48) (w : BitVec 25)
  /-- R291. At the first toll tick at or after T × 2^j with every sample drawn, CNOISE reports completion. -/
  | cnoiseComplete (p : Fin 48)
  /-- R293. Dequantises the accumulator slice to FP32. -/
  | cdeq (p : Fin 48) (w : BitVec 25)
  /-- R278. Float-lane operation on a count of elements. -/
  | cfuse (p : Fin 48) (w : BitVec 25)
  /-- R336. Blocks until every earlier instruction, memory write and item sent has completed. -/
  | fence (p : Fin 48) (w : BitVec 25)
  /-- R336. Everything before the FENCE has completed and the sequencer moves on. -/
  | fenceComplete (p : Fin 48)
  /-- R349. Blocks until this Pan's posted writes of the epoch are acknowledged or failed. -/
  | fencec (p : Fin 48) (w : BitVec 25)
  /-- R349. FENCEC returns OK, or POSTED_FAIL for a dirty epoch. -/
  | fencecComplete (p : Fin 48)
  /-- R342. Waits for earlier STIs, discards the prefetch buffer and refetches. -/
  | synci (p : Fin 48) (w : BitVec 25)
  /-- R342. Writes an instruction word without changing words already prefetched. -/
  | sti (p : Fin 48) (w : BitVec 25)
  /-- R338. An undefined opcode is issued and traps OPCODE. -/
  | undefinedOpcode (p : Fin 48) (word : BitVec 32)
  /-- R341. An engine instruction traps MEMORY or KIND after issue, and later engine work is discarded. -/
  | engineTrap (p : Fin 48) (e : Engine) (kind : Bool) (word : Nat)
  /-- R265. Keyhold receives an Assay record and accepts only the first one of the Assay step. -/
  | assayRecord (c : Fin 4) (p : Fin 48) (rec : Bytes)
  /-- R287. Every Pan holds DONE for a slot; it becomes ADDED, its receipt is sent, and its slot context is deleted. -/
  | addCommit (c : Fin 4) (slot : Nat) (tally : Option (Nat × Upset))
  /-- R287. A staged read fails twice; Pans subtract what they added and the slot stays STAGING. -/
  | addBackout (c : Fin 4) (slot : Nat) (chunk : Nat) (readFails : Bool)
  /-- R286. The Store controller acknowledges a tile write and NEXT advances past the tile. -/
  | storeWriteAck (p : Fin 48)
  /-- R543. A Store request passes the cipher and the controller, with SECDED correction and a single retry. -/
  | storeAccess (addr : Nat) (data : Option Bytes) (len : Nat) (err : Fin 4)
  /-- R310. Keyhold issues a verified seed with its operation to every Pan's ledger-seed queue. -/
  | ledgerSeedIssue (c : Fin 4)
  /-- R311. A Pan completes an entry; once all Pans have, the mask counts as removed and unmasking may end. -/
  | maskEntryDone (p : Fin 48) (ups : List (Nat × Upset))
  /-- R319. Once t valid shares are held or the phase ends, a reconstruction attempt for an owner starts. -/
  | reconAttemptStart (c : Fin 4) (owner : Nat)
  /-- R321. An attempt ends: limbs are range-checked and the secret is verified, or the next attempt or RECOVERY_FAILED follows. -/
  | reconAttemptDone (c : Fin 4) (owner : Nat) (tally : Option (Nat × Upset))
  /-- R486. A curve-engine operation is queued to an X25519 unit or the wide unit. -/
  | curveRequest (r : CurveReq)
  /-- R487. A curve operation completes at its fixed time with a result, a mismatch or a validation rejection. -/
  | curveOpComplete (unit : Fin 9)
  /-- R356. Checks the parameter block and the policy, then zeroes Tally and the accumulator and starts the Pans. -/
  | harvestOpen (pf : Fin 4) (addr len : Nat) (dma : Dma)
  /-- R362. Checks and installs the signed roster and enters GATHERING. -/
  | rosterLoad (pf : Fin 4) (addr len : Nat) (dma : Dma)
  /-- R605. Submits chunk frames, or a child-result bundle, from host memory for admission. -/
  | hostIngest (pf : Fin 4) (addr len count replyAddr form : Nat) (dma : Dma)
  /-- R369. Stops chunk admission and passes a freeze item through every slot's flow. -/
  | tallyFreeze (pf : Fin 4)
  /-- R369. A slot's freeze point: it stays ADDED or becomes DROPPED, and the last one completes the freeze. -/
  | freezeItemServe (c : Fin 4) (slot : Nat) (tally : Option (Nat × Upset))
  /-- R371. Submits share-batch frames from host memory. -/
  | sharesSubmit (pf : Fin 4) (addr len count replyAddr : Nat) (dma : Dma)
  /-- R372. SHARE_WINDOW of unpaused TALLIED time has passed and the share-submission phase ends. -/
  | shareWindowExpire (c : Fin 4)
  /-- R375. Ends the share phase if TALLIED and parks until the context is released or held. -/
  | settle (pf : Fin 4)
  /-- R376. DMAs the sealed result and the certificate from the release window to host memory. -/
  | releaseFetch (pf : Fin 4) (resAddr resLen certAddr certLen : Nat)
  /-- R382. Voids a live harvest and signs a VOIDED certificate. -/
  | harvestVoid (pf : Fin 4)
  /-- R377. Empties the release window, zeroes Tally and the accumulator, frees partitions and returns the Pans. -/
  | harvestClose (pf : Fin 4)
  /-- R397. Keyhold receives a Pan's step report, and the step ends once every participating Pan has reported. -/
  | stepReport (c : Fin 4) (p : Fin 48) (rec : Bytes)
  /-- R401. Result slices are sealed with HPKE and the certificate is signed, as one step that enters RELEASED. -/
  | resultSeal (c : Fin 4) (tally : Option (Nat × Upset))
  /-- R422. A received Ethernet frame passes the admission steps, is dropped, refused, or placed in an ATOMIC flow, or a PROBE is answered. -/
  | frameReceive (port : Fin 4) (frame : Bytes) (fec : Option Nat)
  /-- R365. A chunk is served in its slot's flow by the rows of Table HVS-8: decrypted, staged and acknowledged, or refused. -/
  | chunkServe (id : Nat) (tally : Option (Nat × Upset))
  /-- R371. A share batch is opened and each record is checked, with its reveal recorded in the ledger. -/
  | shareBatchServe (id : Nat) (tally : Option (Nat × Upset))
  /-- R425. The HPKE context for a chunk 0 or a share batch is set up in Keyhold and its key is loaded. -/
  | slotContextSetup (id : Nat)
  /-- R414. An ARP request for the port's IPv4 address is answered. -/
  | arpRequest (port : Fin 4) (frame : Bytes) (fec : Option Nat)
  /-- R414. A Neighbour Solicitation for the port's IPv6 address is answered. -/
  | neighborSolicitation (port : Fin 4) (frame : Bytes) (fec : Option Nat)
  /-- R414. An ICMP or ICMPv6 echo request is answered. -/
  | echoRequest (port : Fin 4) (frame : Bytes) (fec : Option Nat)
  /-- R435. An Inlet port's link state changes; a LINK_STATE event is raised and, at link-up, gratuitous ARP and NA are sent. -/
  | inletLinkState (port : Fin 4) (st : Fin 3)
  /-- R433. Each second of a live context raises REFUSE_STATS and RECEIPT_BATCH when their counts are nonzero. -/
  | statsSecond
  /-- R464. A hardware enqueue's named wait expires without space, and the enqueue is refused with BUSY. -/
  | enqueueWaitExpire (port : Fin 8)
  /-- R445. An item is stored at W, overwriting the oldest unreleased item when the queue is full. -/
  | queueItemProduce (q : Fin 7) (item : Bytes) (badParity upset : Bool) (lag fLag : Nat)
  /-- R447. A read that includes byte 0 of the item window latches the next item, or the idle item. -/
  | queueItemRead (who : Requester) (q : Fin 7) (lag : Nat) (upset : Bool)
  /-- R448. Q_OP MARK sets the mark at R. -/
  | queueMark (who : Requester) (q : Fin 7) (upset : Bool)
  /-- R448. Q_OP REWIND returns R to the mark, or reports MARK_LOST. -/
  | queueRewind (who : Requester) (q : Fin 7) (lag : Nat) (upset : Bool)
  /-- R448. Q_OP RELEASE frees items up to R. -/
  | queueRelease (who : Requester) (q : Fin 7) (upset : Bool)
  /-- R448. Q_OP RESET discards every visible item and counts them as lost. -/
  | queueReset (who : Requester) (q : Fin 7) (lag : Nat) (upset : Bool)
  /-- R449. A write to Q_CTL sets the level, which may signal at once, and applies MODE on an EN transition. -/
  | qCtlWrite (who : Requester) (q : Fin 7) (v : Nat) (lag : Nat)
  /-- R455. Every 100 ms a TELEMETRY item is produced to TELQ. -/
  | telemetryTick
  /-- R457. Makes a thread READY with a new deadline. -/
  | ringerReady (k : Fin 4) (t : Fin 256) (deadline : Nat)
  /-- R457. Puts a thread on the delay list until its wake time. -/
  | ringerDelay (k : Fin 4) (t : Fin 256) (wake : Nat)
  /-- R457. Makes a thread DORMANT. -/
  | ringerSleep (k : Fin 4) (t : Fin 256)
  /-- R458. Runs the earliest-deadline ready thread on the issuing Steward. -/
  | ringerDispatch (k : Fin 4)
  /-- R461. Makes the running thread wait for work items of the masked classes. -/
  | ringerWait (k : Fin 4) (t : Fin 256) (mask : Nat)
  /-- R462. Takes the earliest eligible work item of the masked classes. -/
  | ringerGet (k : Fin 4) (mask : Nat)
  /-- R463. Removes an item, or marks an ORDERED item done and releases results in flow order. -/
  | ringerDone (k : Fin 4) (handle : Nat)
  /-- R464. Enqueues a work item, or refuses it with BUSY when the class or flow is full. -/
  | ringerEnqueue (k : Fin 4) (item : Bytes)
  /-- R460. A delayed thread's wake time is reached and it moves to READY. -/
  | threadWake (t : Fin 256)
  /-- R478. KEYREG is loaded with a key and its attributes from the DRBG, derivation or the curve engine. -/
  | keyregLoad (holder : Nat) (src : KeySource) (attr : KeyAttr)
  /-- R479. Delivers KEYREG to an engine slot if DEST and usage allow, or refuses with POLICY_FORBIDS. -/
  | keyregDeliver (holder : Nat) (engine : Fin 8) (index : Nat)
  /-- R480. The holder narrows KEYREG attributes; widening them is refused. -/
  | keyregAttrChange (holder : Nat) (attr : KeyAttr)
  /-- R480. The holder releases KEYREG and it is zeroised. -/
  | keyregRelease (holder : Nat)
  /-- R484. At each mask period, every slot and store is re-masked with fresh DRBG bits. -/
  | remaskTick
  /-- R494. A 1,024-bit raw window is tested and absorbed, credited if it passes, counted in TRNG_FAILCNT if not. -/
  | healthWindow (raw : BitVec 1024)
  /-- R495. A generate request on a DRBG stream returns up to 64 KiB, waiting if the stream is due for reseed. -/
  | drbgGenerate (stream : Fin 49) (n : Nat)
  /-- R496. A due stream reseeds once the pool holds 384 credited bits. -/
  | drbgReseed
  /-- R497. A generate wait reaches 10 s, or a further 10 s, and RNG_HEALTH is raised. -/
  | rngWaitTimeout (stream : Fin 49)
  /-- R501. A Tocsin sensor trips: latch, zeroisation, VDDC removal, or a pending latch while on VBAT. -/
  | tamperTrip (sensor : Nat)
  /-- R474. The tamper-counter fuse burn completes; the LOCKED latch is set and a TAMPER event is raised. -/
  | tamperCounterBurn
  /-- R504. The always-on domain arms, checks the mesh, inputs and latch, and records continuity. -/
  | tocsinArm (mesh tamper0 tamper1 : Bool)
  /-- R662. Every 60 s Keyhold runs its known-answer tests, and a second failure is FATAL. -/
  | katTick (pass : Bool)
  /-- R513. Produces signed evidence bound to the verifier nonce and DMAs it with the certificates. -/
  | attest (pf : Fin 4) (outAddr outLen nonceLen nonceAddr : Nat) (dma : Dma)
  /-- R518. Checks the enrolment record, records the tenant image key and creates the Store keys. -/
  | enrollTenant (pf : Fin 4) (addr len : Nat) (dma : Dma)
  /-- R522. Opens the weight key and decrypts a weight or Assay blob into the WEIGHTS partition. -/
  | weightsLoad (pf : Fin 4) (addr len : Nat) (dma : Dma)
  /-- R524. Runs the tenant switch: zeroise tenant keys, scrub the Stores, power-cycle the core. -/
  | tenantLeave (pf : Fin 4)
  /-- R527. Checks a signed unlock token and opens the consented debug and profiling scopes. -/
  | debugUnlock (pf : Fin 4) (addr len : Nat) (dma : Dma)
  /-- R532. Every 1,000 toll ticks every performance counter is snapshotted for coarsened reads. -/
  | counterSnapshot
  /-- R528. Reads Pan memory or sequencer state under INSPECT. -/
  | dbgRead (ups : List (Nat × Upset))
  /-- R535. Debug-halts the selected Pan sequencer under STEP. -/
  | dbgHalt
  /-- R528. Issues one instruction on a debug-halted Pan. -/
  | dbgStep
  /-- R528. Clears a Pan's debug halt. -/
  | dbgResume
  /-- R207. Writes a route entry through the debug route path under ROUTE. -/
  | dbgRouteWrite (entry : Fin 64)
  /-- R550. A Store scrub ends; the scrub keys are zeroised and mismatching pseudo-channels are fenced. -/
  | scrubComplete (mismatch : List Nat)
  /-- R549. A pseudo-channel's return scrub ends and it becomes IN_SERVICE or RETIRED. -/
  | pcReturnDone (pc : Fin 128) (pass : Bool)
  /-- R560. A Carillon link changes between DOWN, TRAINING and UP, with miswiring detected at training. -/
  | carillonLinkState (link : Fin 3) (st : Fin 3) (peer : Fin 4)
  /-- R562. A flit is received: CRC and order checked, acknowledged or NAKed, replay on NAK. -/
  | flitReceive (link : Fin 3) (flit : Bytes)
  /-- R562. No ACK 2 µs after a flit's last transmission, and it is replayed. -/
  | replayTimeout (link : Fin 3)
  /-- R562. A flit is unacknowledged at the end of its 20 µs window; final failure takes the link DOWN. -/
  | replayExhausted (link : Fin 3)
  /-- R563. Every 10th toll tick a TOLL flit is sent on each UP link. -/
  | tollSend
  /-- R563. No toll for 35 µs takes the link DOWN with cause TOLL. -/
  | tollTimeout (link : Fin 3)
  /-- R563. FEC alignment is lost for 5 µs and the link goes DOWN with cause ALIGN. -/
  | alignLoss (link : Fin 3)
  /-- R566. 2 µs after the first record since the last BATCH, a BATCH flit is placed. -/
  | batchTimer (link : Fin 3)
  /-- R567. Forms a Quad by exchanging and verifying evidence with every named position. -/
  | quadForm (pf : Fin 4) (mask : Nat)
  /-- R567. A named link is not UP 10 s into QUAD_FORM, which completes with LINK_DOWN. -/
  | formLinkTimeout
  /-- R567. A FORM record carrying a nonce, evidence or the end of formation is received. -/
  | form (rec : Bytes)
  /-- R568. A MEMBERSHIP record updating the current membership is received. -/
  | membership (rec : Bytes)
  /-- R568. A member has had no control path to the Treble for 1 ms and leaves the membership. -/
  | membershipTimeout (pos : Fin 4)
  /-- R570. Sends DISSOLVE and leaves the formed state, or is BUSY with a live job. -/
  | quadDissolve (pf : Fin 4)
  /-- R570. A DISSOLVE record is received and the member leaves the formed state. -/
  | dissolve (rec : Bytes)
  /-- R572. The Treble and a member exchange signed ephemeral keys and the sealed job key. -/
  | jobKeyExchange (rec : Bytes)
  /-- R575. A Pan item for the POSTED_WRITE, READ or FENCE service is checked and sealed into a record. -/
  | carillonServiceItem (p : Fin 48) (service : Fin 3) (rchan : Fin 64) (item : Bytes)
  /-- R576. A posted-write record is delivered to its target Pan, or failed with a notice. -/
  | postedWrite (rec : Bytes)
  /-- R575. A WRITE_ACK completes a posted write at the initiator. -/
  | writeAck (rec : Bytes)
  /-- R576. A notice fails a posted write, marks its epoch dirty and raises POSTED_FAIL. -/
  | postedNotice (rec : Bytes)
  /-- R577. A remote read request is range-checked and answered with READ_DATA. -/
  | readReq (rec : Bytes) (ups : List (Nat × Upset))
  /-- R577. A read completion is delivered to the initiating Pan. -/
  | readData (rec : Bytes)
  /-- R578. A CLEAR of a dirty epoch is recorded, and the epoch advances once every Pan has cleared it. -/
  | clear (rec : Bytes)
  /-- R574. An EPOCH record is received and K_(e+1) is loaded for the next batch boundary. -/
  | epoch (rec : Bytes)
  /-- R574. Once the old epoch's writes drain, the Treble advances the epoch on every member. -/
  | epochAdvance
  /-- R580. A transfer's 10 µs timeout ends without completion and the transfer fails. -/
  | transferTimeout (kind : Fin 3) (tag : Nat)
  /-- R359. A member receives the HARVEST_OPEN parameter block, checks it and answers. -/
  | quadParams (rec : Bytes)
  /-- R362. A member receives the roster from the Treble and checks it. -/
  | quadRoster (rec : Bytes)
  /-- R378. The Treble receives a member's report that its part of a slot is staged. -/
  | quadStaged (rec : Bytes)
  /-- R378. A member receives GO(i) and issues the add of its part. -/
  | quadGo (rec : Bytes)
  /-- R378. The Treble receives a member's DONE for a slot. -/
  | quadDone (rec : Bytes)
  /-- R378. A member receives ADDED(i), sets ADDED and sends its receipt. -/
  | quadAdded (rec : Bytes)
  /-- R378. A member receives BACKOUT(i) and subtracts what it added. -/
  | quadBackout (rec : Bytes)
  /-- R369. A member applies the Treble's freeze list. -/
  | quadFreezeList (rec : Bytes)
  /-- R379. The Treble receives a share record forwarded from a HOME member. -/
  | quadShareForward (rec : Bytes)
  /-- R324. A member receives a ledger seed from the Treble for expansion. -/
  | quadLedgerSeed (rec : Bytes)
  /-- R379. The Treble receives a member's partial sum and merges it. -/
  | quadPartialSum (rec : Bytes)
  /-- R397. The Treble's Keyhold receives a member Pan's step report. -/
  | quadStepReport (rec : Bytes)
  /-- R405. The Treble receives a member's gate-condition and scope report. -/
  | quadGateReport (rec : Bytes)
  /-- R405. A member stages the sealed result and certificate and acknowledges them. -/
  | quadReleaseCopy (rec : Bytes)
  /-- R405. The Treble receives an acknowledgement, and enters RELEASED once every member has acknowledged. -/
  | quadReleaseAck (rec : Bytes)
  /-- R405. A member receives COMMIT and enters RELEASED with its copy. -/
  | quadCommit (rec : Bytes)
  /-- R380. A member receives VOID and voids its copy of the job harvest. -/
  | quadVoid (rec : Bytes)
  /-- R602. An MMIO write to the ring; a damaged one is dropped, the slot marked DAMAGED and DOORBELL_LOST raised. -/
  | mailboxWrite (pf : Fin 4) (off : Nat) (data : Bytes) (whole bad : Bool)
  /-- R599. A doorbell write serves entries from EXPECT up to T, stopping at a bad entry. -/
  | mbDoorbell (pf : Fin 4) (t : Nat) (single bad : Bool)
  /-- R601. Stores a fresh CMD_DONE for a completed command without rerunning it. -/
  | mbResend (pf : Fin 4) (seq : Nat)
  /-- R595. A DMA read completes, or fails and is retried once before the command's transport failure. -/
  | dmaCompletion (pf : Fin 4) (data : Option Bytes)
  /-- R610. An FLR resets one function's state and voids its live context. -/
  | functionLevelReset (pf : Fin 4)
  /-- R611. Bus Master Enable is cleared, or D3hot is entered; the context pauses and DMA stops. -/
  | busMasterClear (pf : Fin 4) (d3hot : Bool)
  /-- R611. Bus Master Enable is set, or D0 is restored, and the BME pause clears. -/
  | busMasterSet (pf : Fin 4) (d0 : Bool)
  /-- R619. A mutual TLS 1.3 handshake on the management port is accepted or refused. -/
  | tlsHandshake (session : Nat) (anchor : Bytes) (leafP384 chainOk version13 : Bool)
  /-- R625. Returns the 64-byte HEALTH body. -/
  | health (session request : Nat)
  /-- R625. Returns the last 1 to 512 TELQ items. -/
  | telemetry (session request : Nat) (n : Nat)
  /-- R626. Writes GOV_CAP. -/
  | powerCap (session request : Nat) (cap : Nat)
  /-- R626. Writes GOV_CTL, GOV_VLIMIT and GOV_VFIXED together. -/
  | governor (session request : Nat) (ctl vlimit vfixed : Nat)
  /-- R627. Orderly shutdown: evict or scrub, remove VDDC, set the clean-shutdown flag. -/
  | shutdown (session request : Nat)
  /-- R628. Voids every live context and runs the tenant switch. -/
  | evict (session request : Nat)
  /-- R628. Voids one live context with cause PREEMPTED. -/
  | contextStop (session request : Nat) (c : Nat)
  /-- R629. Asserts a system reset with cause BELFRY. -/
  | reset (session request : Nat)
  /-- R149. Belfry's wake order, acting as WAKE. -/
  | wakeOrder (session request : Nat)
  /-- R630. Erases or programs the firmware staging slot. -/
  | fwStage (session request : Nat) (off flags : Nat) (data : Bytes)
  /-- R631. Verifies the staging slot, makes it active and resets the device. -/
  | fwApply (session request : Nat)
  /-- R632. Replaces the user calibration record. -/
  | calWrite (session request : Nat) (rec : Bytes)
  /-- R633. Replaces the user repair record. -/
  | repairWrite (session request : Nat) (rec : Bytes)
  /-- R624. Returns a user record or the installation record as stored. -/
  | recordRead (session request : Nat) (which : Nat)
  /-- R634. Starts the return of a retired Pan or pseudo-channel. -/
  | unitReturn (session request : Nat) (kind index : Nat)
  /-- R635. Writes the Inlet address and port registers and CAR_LINKCTL in one indivisible step. -/
  | addressSet (session request : Nat) (writes : List (Nat × Nat))
  /-- R622. Writes the installation record over TLS and closes every session. -/
  | installSet (session request : Nat) (rec : Install)
  /-- R622. Local SMBus order that writes the installation record while no tenant is enrolled. -/
  | install (rec : Install)
  /-- R638. Local SMBus HEALTH order, which also releases SMB_ALERT_N. -/
  | localHealth
  /-- R638. Local SMBus order that runs SHUTDOWN, or confirms VDDC is off in LOCKED or HELD. -/
  | powerDown
  /-- R636. An MCTP control message: Set or Get Endpoint ID, Get Version or Message Type Support. -/
  | mctpControl (msg : Bytes)
  /-- R636. Belfry answers a read of the SMBus Alert Response Address. -/
  | smbusAlertResponse
  /-- R637. SPDM GET_VERSION request. -/
  | getVersion (msg : Bytes)
  /-- R637. SPDM GET_CAPABILITIES request. -/
  | getCapabilities (msg : Bytes)
  /-- R637. SPDM NEGOTIATE_ALGORITHMS request. -/
  | negotiateAlgorithms (msg : Bytes)
  /-- R637. SPDM GET_DIGESTS request. -/
  | getDigests (msg : Bytes)
  /-- R637. SPDM GET_CERTIFICATE request for slot 0. -/
  | getCertificate (msg : Bytes)
  /-- R637. SPDM CHALLENGE signed with the Belfry TLS key. -/
  | challenge (msg : Bytes)
  /-- R637. SPDM GET_MEASUREMENTS returning the four firmware blocks. -/
  | getMeasurements (msg : Bytes)
  /-- R633. Belfry appends a repair or retirement to the user repair record, compacting it if needed. -/
  | repairAppend
  /-- R651. At each slice interval, or for a scheduled targeted slice, Sweep holds a subarray and saves its content. -/
  | sweepSliceStart
  /-- R654. A slice's March C− ends; rows are repaired or the subarray or Pan retired, the content restored, and BIST_RESULT raised. -/
  | sweepSliceEnd (fails : List RowFail) (lost : List Nat) (corrected : Nat) (scratch : Bool)
  /-- R659. A Kettle logic self-test ends; its signatures are compared, with one rerun, then retirement. -/
  | logicSelfTestDone (p : Fin 48) (pass : Bool)
  /-- R144. PERST_N rises and, once boot step 1 has ended, PCI Express link training of the endpoint begins. -/
  | perstRelease
  /-- R453. The PCI Express link leaves UP and a LINK_STATE event of kind 2 is raised on DEVQ. -/
  | pcieLinkDown
  /-- R453. The Belfry management port's PHY link changes state and a LINK_STATE event of kind 3 is raised. -/
  | belfryPortLink (st : Fin 3)
  /-- R106. An IEEE 1149.1 instruction is loaded through the JTAG port: BYPASS, IDCODE, SAMPLE/PRELOAD, or EXTEST and HIGHZ, which act only while SYS_RST_N is asserted. -/
  | boundaryScanInstruction (ins : Fin 5) (cells : Fin 16)
  /-- R618. A frame reaches the management port: ARP, Neighbour Solicitation and echo are answered, TCP to any other port is reset, and other datagrams are discarded. -/
  | managementPortFrame (frame : Bytes)
  /-- R623. A Belfry message arrives whose header breaks Table BLF-1, which closes the session, or whose ORDER is unlisted, which is answered with ILLEGAL_OPCODE. -/
  | unlistedOrder (session : Nat) (header : Bytes)
  /-- R332. An engine instruction (KRUN, KPASS, GSTREAM, CADD, CFIELD, CFUSE and the like) finishes its work, which frees its queue entry and releases its address generators, so held issue or a waiting KLOAD can proceed. -/
  | engineInstructionComplete (p : Fin 48) (e : Engine) (rows : Nat) (ups : List (Nat × Upset))
  /-- R127. VBAT is removed or falls below 2.3 V, and while VDDK is outside its window the Tocsin always-on domain loses power, so nothing watches the mesh or the inputs. -/
  | vbatLoss (replaced : Bool)
  /-- R359. The Treble receives a member's acceptance or refusal of a Quad-wide parameter block or roster, and opens or loads everywhere or nowhere. -/
  | quadOpenAnswer (rec : Bytes)
  /-- R354. A member receives the Treble's setting or clearing of PAUSED for the Quad-wide context. -/
  | quadPausedFlag (rec : Bytes)
  /-- R576. The Treble receives a member's report that an epoch is dirty and marks it dirty on every member. -/
  | epochDirty (rec : Bytes)
  /-- R397. In SHARD, a member receives the Treble's start of a Settling step, and its Keyhold sends the step token to its Pans on channel 63. -/
  | quadStepToken (rec : Bytes)
  /-- R311. In SHARD, the Treble receives a member's completion of a ledger-seed entry, and the mask then counts as removed. -/
  | quadMaskDone (rec : Bytes)
  /-- R395. In SPLIT, the Treble receives ledger bytes gathered from a HOME member for the gate recount and the ledger digest. -/
  | quadLedgerBytes (rec : Bytes)
  /-- R379. In SPLIT, the owner's HOME member receives a share record's reveal, decides it against its ledger byte and records it. -/
  | quadReveal (rec : Bytes) (tally : Option (Nat × Upset))
  deriving DecidableEq, Repr

end Sys2Proof
end

