-- ==== Sys2Proof/Machine/Format.lean ====
section
/-! DEFINITION. Number formats and conversions (FMT, R212 to R240). Every operation works on exact values and rounds
once; it answers the result's bits and the NSTAT flags it sets (Table FMT-8), as a mask. -/
namespace Sys2Proof.Machine

open Sys2Proof (Byte Bytes Rnd NMode Fmt FVal)

/-! NSTAT flags (Table FMT-8). -/
def fInvalid : Nat := 1
def fDivzero : Nat := 2
def fOverflow : Nat := 4
def fUnderflow : Nat := 8
def fInexact : Nat := 16
def fFlushed : Nat := 32
def fSaturated : Nat := 64

/-- The union of two flag masks. -/
def fOr (a b : Nat) : Nat := Nat.lor a b

/-- The rounding direction that a code names (Table FMT-7). -/
def rndOf : Nat → Rnd
  | 0 => .nearest
  | 1 => .zero
  | 2 => .up
  | _ => .down

/-- NMODE from its byte (Table FMT-7). -/
def nmodeOf (b : Nat) : NMode :=
  { rnd := rndOf (b % 4), ftz := bitOf b 2, s19t := bitOf b 3, passes := b / 16 % 4 }

/-- The format that a code names; codes 0xC to 0xF are not listed (R212). -/
def fmtOf : Nat → Option Fmt
  | 0 => some .fp32 | 1 => some .fp64 | 2 => some .s19 | 3 => some .s8e4 | 4 => some .s8e5 | 5 => some .s4
  | 6 => some .s4b16 | 7 => some .s4b32 | 8 => some .s8b32 | 9 => some .int8 | 10 => some .int4 | 11 => some .int32
  | _ => none

/-- Bits of one element as stored (Table FMT-1; S19 in its 32-bit container). -/
def fmtBits : Fmt → Nat
  | .fp32 | .s19 | .int32 => 32
  | .fp64 => 64
  | .s8e4 | .s8e5 | .s8b32 | .int8 => 8
  | .s4 | .s4b16 | .s4b32 | .int4 => 4

/-- Block size of a block-scaled format (R222); none for the others. -/
def fmtBlock : Fmt → Option Nat
  | .s4b16 => some 16
  | .s4b32 | .s8b32 => some 32
  | _ => none

/-- Number of significant bits of a natural number. -/
def bitLen (n : Nat) : Nat := if n = 0 then 0 else n.log2 + 1

/-- Shift a magnitude so that its unit is 2^q: quotient, and whether it is below, at or above half a unit over it
(0 exact, 1 below half, 2 half, 3 above half). -/
def scaleTo (m : Nat) (e q : Int) : Nat × Nat :=
  if q ≤ e then (m * 2 ^ (e - q).toNat, 0)
  else
    let d := 2 ^ (q - e).toNat
    let r := m % d
    (m / d, if r = 0 then 0 else if 2 * r < d then 1 else if 2 * r = d then 2 else 3)

/-- One rounding of a magnitude's quotient by direction (sign taken into account). -/
def roundInc (rnd : Rnd) (neg : Bool) (q : Nat) (rest : Nat) : Nat :=
  match rnd with
  | .nearest => if rest = 3 || (rest = 2 && q % 2 = 1) then q + 1 else q
  | .zero => q
  | .up => if rest ≠ 0 && !neg then q + 1 else q
  | .down => if rest ≠ 0 && neg then q + 1 else q

/-- Round m × 2^e to `prec` significant bits, no finer than the unit 2^qmin: the rounded integer, its unit, and whether
the value changed. -/
def roundMag (rnd : Rnd) (neg : Bool) (m : Nat) (e : Int) (prec : Nat) (qmin : Option Int) : Nat × Int × Bool :=
  let q0 : Int := e + bitLen m - prec
  let q := match qmin with
    | some k => max q0 k
    | none => q0
  let (n, rest) := scaleTo m e q
  (roundInc rnd neg n rest, q, rest ≠ 0)

/-- m × 2^e < 2^k. -/
def belowPow (m : Nat) (e k : Int) : Bool := m = 0 || decide (e + bitLen m ≤ k)

/-- Round to odd (R231): truncate, and set the lowest kept bit when a discarded bit was nonzero. -/
def roundOdd (m : Nat) (e : Int) (prec : Nat) (qmin : Int) : Nat × Int :=
  let q := max (e + bitLen m - prec) qmin
  let (n, rest) := scaleTo m e q
  (if rest ≠ 0 && n % 2 = 0 then n + 1 else n, q)

/-! IEEE binary formats: exponent width `eb`, fraction width `mb` (FP32 8 and 23, FP64 11 and 52, S19 8 and 10). -/

def biasOf (eb : Nat) : Int := 2 ^ (eb - 1) - 1

/-- Decode IEEE bits. -/
def decodeIeee (eb mb bits : Nat) : FVal :=
  let s := bitOf bits (eb + mb)
  let x := bits / 2 ^ mb % 2 ^ eb
  let f := bits % 2 ^ mb
  if x = 2 ^ eb - 1 then (if f = 0 then .inf s else .nan s (f * 2 ^ (52 - mb)))
  else if x = 0 then .fin s f (1 - biasOf eb - mb)
  else .fin s (f + 2 ^ mb) (x - biasOf eb - mb)

/-- Largest finite value of an IEEE format, as bits without sign. -/
def maxFinite (eb mb : Nat) : Nat := (2 ^ eb - 1) * 2 ^ mb - 1

/-- Encode a value in an IEEE format, with one rounding (R214, R230): the bits and the flags. Tininess is detected
after rounding; with `ftz` a tiny result becomes a zero of the same sign. A NaN is delivered quiet, and a signalling one
sets INVALID (R215). -/
def encodeIeee (eb mb : Nat) (rnd : Rnd) (ftz : Bool) (v : FVal) : Nat × Nat :=
  let sgn (s : Bool) : Nat := b2n s * 2 ^ (eb + mb)
  match v with
  | .nan s f => (sgn s + (2 ^ eb - 1) * 2 ^ mb + Nat.lor (f / 2 ^ (52 - mb)) (2 ^ (mb - 1)), if bitOf f 51 then 0 else fInvalid)
  | .inf s => (sgn s + (2 ^ eb - 1) * 2 ^ mb, 0)
  | .fin s m e =>
    if m = 0 then (sgn s, 0)
    else
      let (n, q, inx) := roundMag rnd s m e (mb + 1) (some (1 - biasOf eb - mb))
      let (nu, qu, inxu) := roundMag rnd s m e (mb + 1) none
      let tiny := belowPow nu qu (1 - biasOf eb)
      if tiny && ftz then (sgn s, fFlushed + fUnderflow + fInexact)
      else if !(belowPow n q (biasOf eb + 1)) then
        let toInf := match rnd with
          | .nearest => true
          | .zero => false
          | .up => !s
          | .down => s
        (sgn s + (if toInf then (2 ^ eb - 1) * 2 ^ mb else maxFinite eb mb), fOverflow + fInexact)
      else
        -- n × 2^q with n ≤ 2^(mb+1): subnormal when n < 2^mb
        let bits := if n < 2 ^ mb then n
          else
            let (n', q') := if n = 2 ^ (mb + 1) then (2 ^ mb, q + 1) else (n, q)
            n' - 2 ^ mb + (q' + mb + biasOf eb).toNat * 2 ^ mb
        (sgn s + bits, (if inx then fInexact else 0) + (if tiny && (inx || inxu) && inx then fUnderflow else 0))

def fp32Of (bits : Nat) : FVal := decodeIeee 8 23 bits
def fp64Of (bits : Nat) : FVal := decodeIeee 11 52 bits

/-- An S19 container: its low 13 bits are ignored (R216). -/
def s19Of (bits : Nat) : FVal := decodeIeee 8 10 (bits / 2 ^ 13)

def toFp32 (rnd : Rnd) (ftz : Bool) (v : FVal) : Nat × Nat := encodeIeee 8 23 rnd ftz v
def toFp64 (rnd : Rnd) (ftz : Bool) (v : FVal) : Nat × Nat := encodeIeee 11 52 rnd ftz v

/-- The default NaN (R215). -/
def defaultNaN : FVal := .nan false (2 ^ 51)

def isNaN : FVal → Bool
  | .nan _ _ => true
  | _ => false

def isSNaN : FVal → Bool
  | .nan _ f => !(bitOf f 51)
  | _ => false

/-- A NaN made quiet, its sign and payload kept (R215). -/
def quiet : FVal → FVal
  | .nan s f => .nan s (Nat.lor f (2 ^ 51))
  | v => v

def isZero : FVal → Bool
  | .fin _ m _ => m == 0
  | _ => false

def signOf : FVal → Bool
  | .nan s _ => s
  | .inf s => s
  | .fin s _ _ => s

def negV : FVal → FVal
  | .nan s f => .nan (!s) f
  | .inf s => .inf (!s)
  | .fin s m e => .fin (!s) m e

/-- Flush a subnormal input of an IEEE format with least normal 2^emin (R230). -/
def flushIn (ftz : Bool) (emin : Int) (v : FVal) : FVal × Nat :=
  match v with
  | .fin s m e => if ftz && m ≠ 0 && belowPow m e emin then (.fin s 0 0, fFlushed) else (v, 0)
  | _ => (v, 0)

def flush32 (ftz : Bool) (v : FVal) : FVal × Nat := flushIn ftz (-126) v
def flush64 (ftz : Bool) (v : FVal) : FVal × Nat := flushIn ftz (-1022) v

/-- An operand decoded to FP32 by a rounding direction (R237): of the flags of that rounding, FLUSHED and OVERFLOW alone
(R229); a NaN keeps its bits, so that the operation that consumes it sees a signalling one. -/
def decodeFp32 (rnd : Rnd) (ftz : Bool) (v : FVal) : FVal × Nat :=
  match v with
  | .fin .. =>
    let (b, f) := toFp32 rnd ftz v
    (fp32Of b, (if bitOf f 2 then fOverflow else 0) + if bitOf f 5 then fFlushed else 0)
  | v => (v, 0)

/-- The intermediate FP32 of a conversion from FP64 in more than one step (R231): rounded to odd, the largest finite value
for one that overflows, 2^-149 for one below the subnormal range, neither flushed nor saturated. -/
def oddFp32 : FVal → FVal
  | .fin s m e =>
    if m = 0 then .fin s 0 0
    else
      let (n, q) := roundOdd m e 24 (-149)
      if belowPow n q 128 then .fin s n q else .fin s (2 ^ 24 - 1) 104
  | v => v

/-- A finite value as an integer multiple of 2^e, for an e at or below its own unit. -/
def atUnit (neg : Bool) (m : Nat) (e q : Int) : Int :=
  let a : Int := (m * 2 ^ (e - q).toNat : Nat)
  if neg then -a else a

/-- The value of an integer multiple of 2^q; `z` is the sign of an exact zero. -/
def ofUnit (i q : Int) (z : Bool) : FVal := if i = 0 then .fin z 0 0 else .fin (decide (i < 0)) i.natAbs q

/-- INVALID when a signalling NaN is among the operands (R215). -/
def snanFlag (l : List FVal) : Nat := if l.any isSNaN then fInvalid else 0

/-- The first NaN operand, quiet (R215). -/
def firstNaN (l : List FVal) : Option FVal := (l.find? isNaN).map quiet

/-- Exact sum; a NaN is the first NaN operand, and ∞ − ∞ is the default NaN with INVALID. -/
def addV (rnd : Rnd) (x y : FVal) : FVal × Nat :=
  match firstNaN [x, y] with
  | some v => (v, snanFlag [x, y])
  | none =>
    match x, y with
    | .inf a, .inf b => if a = b then (.inf a, 0) else (defaultNaN, fInvalid)
    | .inf a, _ => (.inf a, 0)
    | _, .inf b => (.inf b, 0)
    | .fin a m e, .fin b n f =>
      let q := min e f
      let i := atUnit a m e q + atUnit b n f q
      (ofUnit i q (if m = 0 && n = 0 && a = b then a else rnd = .down), 0)
    | v, _ => (v, 0)

/-- Exact product; ∞ × 0 is the default NaN with INVALID. -/
def mulV (x y : FVal) : FVal × Nat :=
  match firstNaN [x, y] with
  | some v => (v, snanFlag [x, y])
  | none =>
    let s := signOf x != signOf y
    match x, y with
    | .fin _ m e, .fin _ n f => (.fin s (m * n) (e + f), 0)
    | a, b => if isZero a || isZero b then (defaultNaN, fInvalid) else (.inf s, 0)

/-- fusedMultiplyAdd before rounding (R215). -/
def fmaV (rnd : Rnd) (x y z : FVal) : FVal × Nat :=
  match firstNaN [x, y, z] with
  | some v => (v, snanFlag [x, y, z])
  | none =>
    let (p, f1) := mulV x y
    if isNaN p then (p, f1) else addV rnd p z

/-- Compare two numbers: 0 equal, 1 less, 2 greater; none when unordered. -/
def cmpV (x y : FVal) : Option Nat :=
  match x, y with
  | .nan _ _, _ | _, .nan _ _ => none
  | .inf a, .inf b => some (if a = b then 0 else if a then 1 else 2)
  | .inf a, _ => some (if a then 1 else 2)
  | _, .inf b => some (if b then 2 else 1)
  | .fin a m e, .fin b n f =>
    let q := min e f
    let i := atUnit a m e q
    let j := atUnit b n f q
    some (if i = j then 0 else if i < j then 1 else 2)

/-- minimumNumber and maximumNumber (IEEE 754-2019): a number wins over a NaN, and −0 is below +0. -/
def minmaxV (wantMax : Bool) (x y : FVal) : FVal × Nat :=
  let fl := snanFlag [x, y]
  if isNaN x && isNaN y then (quiet x, fl)
  else if isNaN x then (y, fl)
  else if isNaN y then (x, fl)
  else match cmpV x y with
    | some 1 => (if wantMax then y else x, fl)
    | some 2 => (if wantMax then x else y, fl)
    | _ => (if signOf x = signOf y then x else if signOf x = wantMax then y else x, fl)

/-- A value rounded to an integer in a direction: the integer and whether it changed. -/
def toInt (rnd : Rnd) (neg : Bool) (m : Nat) (e : Int) : Int × Bool :=
  let (n, rest) := scaleTo m e 0
  let r := roundInc rnd neg n rest
  (if neg then -(r : Int) else r, rest ≠ 0)

/-- convertToInteger to INT32 (R214, R215): the 32 bits and the flags. -/
def toInt32 (rnd : Rnd) (v : FVal) : Nat × Nat :=
  match v with
  | .nan _ _ => (0, fInvalid)
  | .inf s => (if s then 2 ^ 31 else 2 ^ 31 - 1, fInvalid)
  | .fin s m e =>
    let (i, inx) := toInt rnd s m e
    if i < -(2 ^ 31) then (2 ^ 31, fInvalid)
    else if i ≥ 2 ^ 31 then (2 ^ 31 - 1, fInvalid)
    else (unsigned 32 i, if inx then fInexact else 0)

/-- Conversion to a short integer of `w` bits, saturating (R225). -/
def toShortInt (w : Nat) (rnd : Rnd) (v : FVal) : Nat × Nat :=
  let top : Int := 2 ^ (w - 1) - 1
  let bot : Int := -(2 ^ (w - 1))
  match v with
  | .nan _ _ => (0, fInvalid)
  | .inf s => (unsigned w (if s then bot else top), fSaturated + fInexact)
  | .fin s m e =>
    let (i, inx) := toInt rnd s m e
    if i < bot then (unsigned w bot, fSaturated + fInexact)
    else if top < i then (unsigned w top, fSaturated + fInexact)
    else (unsigned w i, if inx then fInexact else 0)

/-- Conversion to S19 by NMODE.S19T (R217): the 32-bit container and the flags. -/
def toS19 (trunc ftz : Bool) (v : FVal) : Nat × Nat :=
  match v with
  | .nan s f =>
    ((b2n s * 2 ^ 18 + 255 * 2 ^ 10 + 2 ^ 9 + f / 2 ^ 42 % 2 ^ 9) * 2 ^ 13, if bitOf f 51 then 0 else fInvalid)
  | .fin s m e =>
    let (b, fl) := encodeIeee 8 10 (if trunc then .zero else .nearest) ftz (.fin s m e)
    (b * 2 ^ 13, if trunc && bitOf fl 2 then fl - fOverflow else fl)
  | .inf s => ((encodeIeee 8 10 .nearest false (.inf s)).1 * 2 ^ 13, 0)

/-- Decode S8E4 (m = 3, bias 8) or S8E5 (m = 2, bias 16) (R218). -/
def s8Of (mw : Nat) (bias : Int) (c : Nat) : FVal :=
  if c % 256 = 0x80 then defaultNaN
  else
    let s := bitOf c 7
    let e := c % 128 / 2 ^ mw
    let f := c % 2 ^ mw
    if e = 0 then .fin s f (1 - bias - mw) else .fin s (f + 2 ^ mw) (e - bias - mw)

/-- Conversion to S8E4 or S8E5 (R219). -/
def toS8 (mw : Nat) (bias : Int) (rnd : Rnd) (v : FVal) : Nat × Nat :=
  let big (s : Bool) : Nat := b2n s * 128 + 0x7F
  match v with
  | .nan _ f => (0x80, if bitOf f 51 then 0 else fInvalid)
  | .inf s => (big s, fSaturated)
  | .fin s m e =>
    if m = 0 then (0, 0)
    else
      let (n, q, inx) := roundMag rnd s m e (mw + 1) (some (1 - bias - mw))
      let (nu, qu, _) := roundMag rnd s m e (mw + 1) none
      let tiny := belowPow nu qu (1 - bias)
      let eb : Nat := 7 - mw
      let fl := (if inx then fInexact else 0) + (if tiny && inx then fUnderflow else 0)
      if n = 0 then (0, fl)
      else if n < 2 ^ mw then (b2n s * 128 + n, fl)
      else
        let (n', q') := if n = 2 ^ (mw + 1) then (2 ^ mw, q + 1) else (n, q)
        let x := q' + mw + bias
        if x > 2 ^ eb - 1 then (big s, fSaturated + fInexact)
        else (b2n s * 128 + x.toNat * 2 ^ mw + (n' - 2 ^ mw), fl)

/-- The S4 magnitudes in quarters (Table FMT-5). -/
def s4Quarters : List Nat := [0, 1, 2, 4, 6, 8, 12, 16]

/-- Decode S4 (R220); 0b1000 reads as zero. -/
def s4Of (c : Nat) : FVal :=
  let m := s4Quarters.getD (c % 8) 0
  .fin (bitOf c 3 && m ≠ 0) m (-2)

/-- The greatest S4 magnitude code whose value is at most m × 2^e. -/
def s4Floor (m : Nat) (e : Int) : Nat :=
  ((List.range 8).filter fun k =>
    let q := min e (-2)
    s4Quarters.getD k 0 * 2 ^ (-2 - q).toNat ≤ m * 2 ^ (e - q).toNat).foldl max 0

/-- Conversion to S4 (R221). -/
def toS4 (rnd : Rnd) (v : FVal) : Nat × Nat :=
  let enc (s : Bool) (k : Nat) : Nat := if k = 0 then 0 else b2n s * 8 + k
  match v with
  | .nan _ _ => (0, fInvalid)
  | .inf s => (enc s 7, fSaturated + fInexact)
  | .fin s m e =>
    let k := s4Floor m e
    let q := min e (-3)
    let x := m * 2 ^ (e - q).toNat
    let lo := s4Quarters.getD k 0 * 2 ^ (-2 - q).toNat
    if x = lo then (enc s k, 0)
    else if k = 7 then (enc s 7, fSaturated + fInexact)
    else
      let hi := s4Quarters.getD (k + 1) 0 * 2 ^ (-2 - q).toNat
      let pick := match rnd with
        | .nearest => if 2 * x < lo + hi then k else if lo + hi < 2 * x then k + 1 else if k % 2 = 0 then k else k + 1
        | .zero => k
        | .up => if s then k else k + 1
        | .down => if s then k + 1 else k
      (enc s pick, fInexact)

/-- Scale a value by 2^k. -/
def scaleV (k : Int) : FVal → FVal
  | .fin s m e => .fin s m (e + k)
  | v => v

/-- Decode one element of a format; `sc` is the block's scale byte where the format has one (R222). -/
def decodeElem (f : Fmt) (sc : Nat) (c : Nat) : FVal :=
  match f with
  | .fp32 => fp32Of c
  | .fp64 => fp64Of c
  | .s19 => s19Of c
  | .s8e4 => s8Of 3 8 c
  | .s8e5 => s8Of 2 16 c
  | .s4 => s4Of c
  | .s4b16 | .s4b32 => if sc = 0xFF then defaultNaN else scaleV (sc - 127) (s4Of c)
  | .s8b32 => if sc = 0xFF then defaultNaN else scaleV (sc - 127) (s8Of 3 8 c)
  | .int8 => ofUnit (signed 8 c) 0 false
  | .int4 => ofUnit (signed 4 c) 0 false
  | .int32 => ofUnit (signed 32 c) 0 false

/-- Element `i` of a packed row of elements of `w` bits (4, 8, 32 or 64): 4-bit elements low nibble first (Table FMT-1). -/
def rowElem (w : Nat) (row : Bytes) (i : Nat) : Nat :=
  if w = 4 then (byteAt row (i / 2)) / 16 ^ (i % 2) % 16 else leAt row (i * (w / 8)) (w / 8)

/-- Pack codes of `w` bits into bytes (the inverse of rowElem). -/
def packRow (w : Nat) : List Nat → Bytes
  | [] => []
  | a :: rest =>
    if w = 4 then
      match rest with
      | [] => [BitVec.ofNat 8 (a % 16)]
      | b :: r => BitVec.ofNat 8 (a % 16 + b % 16 * 16) :: packRow w r
    else leBytes (w / 8) a ++ packRow w rest

/-- Convert a value to a format that is not block-scaled (R214, R217, R219, R221, R225, R231), flags included. -/
def encodeElem (f : Fmt) (nm : NMode) (v : FVal) : Nat × Nat :=
  match f with
  | .fp32 => toFp32 nm.rnd nm.ftz v
  | .fp64 => toFp64 nm.rnd nm.ftz v
  | .s19 => toS19 nm.s19t nm.ftz v
  | .s8e4 => toS8 3 8 nm.rnd v
  | .s8e5 => toS8 2 16 nm.rnd v
  | .s4 | .s4b16 | .s4b32 => toS4 nm.rnd v
  | .s8b32 => toS8 3 8 nm.rnd v
  | .int8 => toShortInt 8 nm.rnd v
  | .int4 => toShortInt 4 nm.rnd v
  | .int32 => toInt32 nm.rnd v

/-- Compare magnitudes of finite values: |m × 2^e| ≤ |n × 2^f|. -/
def magLe (m : Nat) (e : Int) (n : Nat) (f : Int) : Bool :=
  let q := min e f
  m * 2 ^ (e - q).toNat ≤ n * 2 ^ (f - q).toNat

/-- The scale byte of an output block (R224): M the largest magnitude, V the largest element magnitude. -/
def blockScale (f : Fmt) (vals : List FVal) : Nat :=
  let bad := vals.any fun v => match v with
    | .fin _ _ _ => false
    | _ => true
  if bad then 0xFF
  else
    let mx := vals.foldl (fun (a : Nat × Int) v => match v with
      | .fin _ m e => if magLe a.1 a.2 m e then (m, e) else a
      | _ => a) (0, 0)
    if mx.1 = 0 then 127
    else
      let vm : Nat := if f = .s8b32 then 240 else 4
      -- the least k with mx ≤ vm × 2^k
      let k0 : Int := mx.2 + bitLen mx.1 - bitLen vm
      let k := if magLe mx.1 mx.2 vm (k0 - 1) then k0 - 1 else if magLe mx.1 mx.2 vm k0 then k0 else k0 + 1
      (max 0 (min 254 (127 + k))).toNat

/-- One output block in a block-scaled format: its scale byte, its element codes, the flags (R224). A signalling NaN of a NaN block is consumed (R215). -/
def encodeBlock (f : Fmt) (nm : NMode) (vals : List FVal) : Nat × List Nat × Nat :=
  let sc := blockScale f vals
  if sc = 0xFF then (sc, vals.map fun _ => 0, snanFlag vals)
  else
    let r := vals.map fun v => encodeElem f nm (scaleV (127 - sc) v)
    (sc, r.map (·.1), r.foldl (fun a x => fOr a x.2) 0)

/-- The hi and lo parts of an FP32 operand as S19 containers (R232), hi saturating where it would overflow; FLUSHED of a
flushed operand, and INVALID of a signalling NaN (R217). -/
def splitHiLo (ftz : Bool) (v0 : FVal) : Nat × Nat × Nat :=
  let (v, fl) := flush32 ftz v0
  match v with
  | .fin s m e =>
    let (b, f1) := encodeIeee 8 10 .nearest false (.fin s m e)
    let hi := if bitOf f1 2 then b2n s * 2 ^ 18 + maxFinite 8 10 else b
    let lo := (addV .nearest v (negV (decodeIeee 8 10 hi))).1
    (hi * 2 ^ 13, (encodeIeee 8 10 .nearest false lo).1 * 2 ^ 13, fl)
  | v =>
    let (hi, f1) := toS19 false false v
    (hi, 0, fOr fl f1)

/-- A row of 128 FP32 operands split (R232, R249): the rows of hi and of lo containers, and the flags. -/
def splitRow (ftz : Bool) (row : Bytes) : Bytes × Bytes × Nat :=
  let r := (List.range 128).map fun i => splitHiLo ftz (fp32Of (rowElem 32 row i))
  (r.flatMap fun x => leBytes 4 x.1, r.flatMap fun x => leBytes 4 x.2.1, r.foldl (fun a x => fOr a x.2.2) 0)

end Sys2Proof.Machine
end

