-- ==== Sys2Proof/Machine/KettleMath.lean ====
section
/-! DEFINITION. The arithmetic of the Kettle array and its output stage (KTL, R241 to R261), on rows of bytes. -/
namespace Sys2Proof.Machine

open Sys2Proof (Byte Bytes Rnd NMode Fmt FVal KCfg KOut)

/-- Packing factor of a format's operand class (Table KTL-1). -/
def packing : Fmt → Nat
  | .s8e4 | .s8e5 | .s8b32 | .int8 => 4
  | .s4 | .s4b16 | .s4b32 | .int4 => 8
  | _ => 1

/-- Packing factor of a configuration: in open pairing the smaller of the two (R241). -/
def cfgPacking (c : KCfg) : Nat := min (packing c.stat) (packing c.str)

/-- INT8 or INT4. -/
def isIntFmt (f : Fmt) : Bool := f = .int8 || f = .int4

/-- The integer path (R247, R269). -/
def intPath (c : KCfg) : Bool := isIntFmt c.stat && isIntFmt c.str

/-- The pairings of Table KTL-3 (R247). -/
def pairingListed (c : KCfg) : Bool :=
  let openable (f : Fmt) : Bool := [Fmt.s19, .s8e4, .s8e5, .s4, .int8, .int4].contains f
  let matchable (f : Fmt) : Bool := openable f || [Fmt.s4b16, .s4b32, .s8b32].contains f
  if c.openMode then c.stat ≠ c.str && openable c.stat && openable c.str && c.passes = 1
  else c.stat = c.str && ((matchable c.stat && c.passes = 1) || (c.stat = .fp32 && 1 ≤ c.passes && c.passes ≤ 3))

/-- Group size of a float pairing (R250). -/
def groupSize (c : KCfg) : Nat := (fmtBlock c.stat).getD 16

/-- Elements in one row of an operand, and their bytes. -/
def tileDepth (c : KCfg) : Nat := 128 * cfgPacking c
def operandRowBytes (c : KCfg) (f : Fmt) : Nat := tileDepth c * fmtBits f / 8

/-- Scale bytes that go with one row of an operand: none for a format without scales (R223). -/
def scaleRowBytes (c : KCfg) (f : Fmt) : Nat :=
  match fmtBlock f with
  | some b => tileDepth c / b
  | none => 0

/-- Decode one row of an operand other than FP32 to exact values, with the flags of flushed inputs (R227, R230). -/
def decodeRow (c : KCfg) (f : Fmt) (row scales : Bytes) : List FVal × Nat :=
  let vs := (List.range (tileDepth c)).map fun i =>
    let sc := match fmtBlock f with
      | some b => byteAt scales (i / b)
      | none => 0
    let v := decodeElem f sc (rowElem (fmtBits f) row i)
    if f = .s19 then flush32 c.ftz v else (v, 0)
  (vs.map (·.1), vs.foldl (fun a x => fOr a x.2) 0)

/-- The exact product of two K-form values (R250, R253): value and flags. -/
def kProduct (x y : FVal) : FVal × Nat :=
  if isNaN x || isNaN y then (defaultNaN, snanFlag [x, y]) else mulV x y

/-- The leading-bit position of a finite value's magnitude (meaningful when it is not zero). -/
def leadBit : FVal → Option Int
  | .fin _ m e => if m = 0 then none else some (e + bitLen m - 1)
  | _ => none

/-- A finite product truncated toward −∞ to the unit 2^q: the integer, and whether a bit was lost (R251). -/
def truncTo (q : Int) : FVal → Int × Bool
  | .fin s m e =>
    let (n, rest) := scaleTo m e q
    if s then (-(n : Int) - (if rest ≠ 0 then 1 else 0), rest ≠ 0) else ((n : Int), rest ≠ 0)
  | _ => (0, false)

/-- The sum of one group of products (R251, R253): the value, and the flags INVALID and INEXACT it sets. -/
def groupSum (ps : List (FVal × Nat)) : FVal × Nat :=
  let fl := ps.foldl (fun a x => fOr a x.2) 0
  let vs := ps.map (·.1)
  let infs := vs.filterMap fun v => match v with
    | .inf s => some s
    | _ => none
  if infs.contains true && infs.contains false then (defaultNaN, fOr fl fInvalid)
  else if vs.any isNaN then (defaultNaN, fl)
  else match infs with
    | s :: _ => (.inf s, fl)
    | [] =>
      match (vs.filterMap leadBit).foldl (fun (a : Option Int) b => match a with
          | none => some b
          | some x => some (max x b)) none with
      | none => (.fin false 0 0, fl)
      | some l =>
        let q := l - 39
        let ts := vs.map (truncTo q)
        let sum := ts.foldl (fun a x => a + x.1) 0
        (ofUnit sum q false, if ts.any (·.2) then fOr fl fInexact else fl)

/-- Add a group sum into the FP32 column accumulator, rounding once to nearest (R252). -/
def accAdd (acc : Nat × Nat) (g : FVal × Nat) : Nat × Nat :=
  let (v, f1) := addV .nearest (fp32Of acc.1) g.1
  let v := if isNaN v then defaultNaN else v
  let (b, f2) := toFp32 .nearest false v
  (b, fOr (fOr acc.2 g.2) (fOr f1 f2))

/-- The products of one pass over two rows of values, in reduction order: pass 1 hi·hi, pass 2 hi·lo and lo·hi together,
pass 3 lo·lo (R249); for other pairings the single pass multiplies the values. -/
def passGroups (g : Nat) (prods : List (List (FVal × Nat))) : List (List (FVal × Nat)) :=
  (List.range ((prods.length + g - 1) / g)).map fun k => ((prods.drop (k * g)).take g).flatten

/-- The float reduction of one output over the groups of its products (R250 to R252). -/
def floatReduce (start : Nat) (groups : List (List (FVal × Nat))) : Nat × Nat :=
  groups.foldl (fun a gr => accAdd a (groupSum gr)) (start, 0)

/-- Products index by index, one each. -/
def single (a b : List FVal) : List (List (FVal × Nat)) := (a.zip b).map fun p => [kProduct p.1 p.2]

/-- The groups of one output in multi-pass mode, in pass order (R249): a pass-2 group holds both products of each index. -/
def splitGroups (c : KCfg) (hx lx hw lw : List FVal) : List (List (FVal × Nat)) :=
  let g := groupSize c
  let p1 := passGroups g (single hx hw)
  let p2 := passGroups g (((hx.zip lw).zip (lx.zip hw)).map fun q => [kProduct q.1.1 q.1.2, kProduct q.2.1 q.2.2])
  let p3 := passGroups g (single lx lw)
  p1 ++ (if 2 ≤ c.passes then p2 else []) ++ (if 3 ≤ c.passes then p3 else [])

/-- A row of S19 containers as values. -/
def s19Row (row : Bytes) : List FVal := (List.range 128).map fun i => s19Of (rowElem 32 row i)

/-- The integer reduction of one output (R258): INT32 modulo 2^32, OVERFLOW when the exact sum leaves the range. -/
def intReduce (start : Nat) (xs ws : List Int) : Nat × Nat :=
  let s := (xs.zip ws).foldl (fun (a : Int) p => a + p.1 * p.2) (signed 32 start)
  (unsigned 32 s, if s < -(2 ^ 31) || 2 ^ 31 ≤ s then fOverflow else 0)

/-- The integer codes of one row. -/
def intRow (c : KCfg) (f : Fmt) (row : Bytes) : List Int :=
  (List.range (tileDepth c)).map fun i => signed (fmtBits f) (rowElem (fmtBits f) row i)

/-- One streamed row against a bank: the 128 accumulators as 32-bit words, and the flags. `start` holds the 128 start
values: zeros (NEW) or the partials read from memory (ADD32). A bank of FP32 operands holds them split as its shift-in left
them (R249). -/
def arrayRow (c : KCfg) (b : Bank) (row scales : Bytes) (start : List Nat) : List Nat × Nat :=
  if intPath c then
    let xs := intRow c c.str row
    let r := (List.range 128).map fun j => intReduce (start.getD j 0) xs (intRow c c.stat (b.cols.getD j []))
    (r.map (·.1), r.foldl (fun a x => fOr a x.2) 0)
  else if c.stat = .fp32 then
    let (h, l, f0) := splitRow c.ftz row
    let hx := s19Row h
    let lx := s19Row l
    let r := (List.range 128).map fun j =>
      floatReduce (start.getD j 0) (splitGroups c hx lx (s19Row (b.cols.getD j [])) (s19Row (b.los.getD j [])))
    (r.map (·.1), r.foldl (fun a x => fOr a x.2) f0)
  else
    let (xs, f0) := decodeRow c c.str row scales
    let r := (List.range 128).map fun j =>
      let (ws, f1) := decodeRow c c.stat (b.cols.getD j []) (b.scales.getD j [])
      let (v, f2) := floatReduce (start.getD j 0) (passGroups (groupSize c) (single xs ws))
      (v, fOr f1 f2)
    (r.map (·.1), r.foldl (fun a x => fOr a x.2) f0)

/-- A bank filled by a complete shift-in, and the NSTAT flags of the split of FP32 operands (R242, R249). -/
def fillBank (c : KCfg) (cols : List (Bytes × Bytes)) : Bank × Nat :=
  if c.stat = .fp32 then
    let r := cols.map fun x => splitRow c.ftz x.1
    ({ st := .valid, cols := r.map (·.1), los := r.map (·.2.1), scales := cols.map (·.2) }, r.foldl (fun a x => fOr a x.2.2) 0)
  else ({ st := .valid, cols := cols.map (·.1), scales := cols.map (·.2) }, 0)

/-- Step 2 of R259: the fused element-wise add or multiply in FP32; 0 none. -/
def fusedStep (o : KOut) (v : FVal) (t : FVal) : FVal × Nat :=
  if o.fused = 0 then (v, 0)
  else
    let (a, f1) := flush32 o.nm.ftz v
    let (t0, f0) := if o.fusedFmt = .fp64 then flush64 o.nm.ftz t else (t, 0)
    let (b, f2) := decodeFp32 o.nm.rnd o.nm.ftz t0
    let (r, f3) := if o.fused = 1 then addV o.nm.rnd a b else mulV a b
    let (bits, f4) := toFp32 o.nm.rnd o.nm.ftz r
    (fp32Of bits, fOr (fOr (fOr f0 f1) f2) (fOr f3 f4))

/-- An FP64 sum rounded once to nearest (R260): bits and flags. -/
def sum64 (a : Nat) (v : FVal) : Nat × Nat :=
  let (r, f1) := addV .nearest (fp64Of a) v
  let (b, f2) := toFp64 .nearest false r
  (b, fOr f1 f2)

/-- The sum of a row in ascending column order: the first value widened, each further one added (R260). -/
def rowSum : List FVal → Nat × Nat
  | [] => (0, 0)
  | v :: vs => vs.foldl (fun a x => let (b, f) := sum64 a.1 x; (b, fOr a.2 f)) (toFp64 .nearest false v)

/-- MAX of a row by maximumNumber over its numbers, and the first column that equals it, +0 and −0 being equal (R260);
none where every value is a NaN. -/
def rowMax (vs : List FVal) : Option (FVal × Nat) :=
  match vs.filter fun v => !isNaN v with
  | [] => none
  | v :: rest =>
    let m := rest.foldl (fun a x => (minmaxV true a x).1) v
    some (m, vs.findIdx fun x => cmpV x m == some 0)

/-- A row-statistics record (Table KTL-5): MAX and INDEX as stored, SUM as FP64 bits; and the flags of its operations. -/
def rowStats (merge : Option (Nat × Nat × Nat)) (vs : List FVal) : (Nat × Nat × Nat) × Nat :=
  let best := rowMax vs
  let (sum, f0) := rowSum vs
  let fl := fOr f0 (snanFlag vs)
  match merge with
  | none =>
    match best with
    | some (v, i) => (((toFp32 .nearest false v).1, i, sum), fl)
    | none => ((0x7FC00000, 0xFFFFFFFF, sum), fl)
  | some (om, oi, os) =>
    let (s2, f1) := sum64 os (fp64Of sum)
    let fl := fOr fl (fOr f1 (snanFlag [fp32Of om]))
    match best with
    | none => ((om, oi, s2), fl)
    | some (v, i) =>
      let vb := (toFp32 .nearest false v).1
      if isNaN (fp32Of om) then ((vb, i, s2), fl)
      else match cmpV (fp32Of om) v with
        | some 1 => ((vb, i, s2), fl)
        | some 0 => ((om, min oi i, s2), fl)
        | _ => ((om, oi, s2), fl)

/-- The 16 bytes of a row-statistics record. -/
def statsBytes (r : Nat × Nat × Nat) : Bytes := leBytes 4 r.1 ++ leBytes 4 r.2.1 ++ leBytes 8 r.2.2

/-- Read a row-statistics record. -/
def statsOf (b : Bytes) : Nat × Nat × Nat := (leAt b 0 4, leAt b 4 4, leAt b 8 8)

/-- Step 4 of R259 on one row of values: element bytes, scale bytes and flags. -/
def outRow (o : KOut) (vs : List FVal) : Bytes × Bytes × Nat :=
  match fmtBlock o.fmt with
  | some b =>
    let blocks := (List.range ((vs.length + b - 1) / b)).map fun k => encodeBlock o.fmt o.nm ((vs.drop (k * b)).take b)
    (packRow (fmtBits o.fmt) (blocks.map (·.2.1)).flatten, blocks.map fun x => BitVec.ofNat 8 x.1,
      blocks.foldl (fun a x => fOr a x.2.2) 0)
  | none =>
    let r := vs.map (encodeElem o.fmt o.nm)
    (packRow (fmtBits o.fmt) (r.map (·.1)), [], r.foldl (fun a x => fOr a x.2) 0)

/-- The output format is reached from FP64 in more than one step (R231): neither FP32 nor FP64, and no fused operation forms
an FP32 value first. -/
def narrowsTo (o : KOut) : Bool := o.fused == 0 && o.fmt != .fp32 && o.fmt != .fp64

/-- What step 4 converts (R230, R231): the values with subnormals flushed, or the FP64 sources rounded to odd. -/
def outSources (o : KOut) (wide : Option (List FVal)) (ws : List FVal) : List FVal × Nat :=
  match wide with
  | some l => if narrowsTo o then (l.map oddFp32, 0) else flushAll ws
  | none => flushAll ws
where
  flushAll (ws : List FVal) : List FVal × Nat :=
    let r := ws.map (flush32 o.nm.ftz)
    (r.map (·.1), r.foldl (fun a x => fOr a x.2) 0)

/-- Steps 2 to 4 of the output stage on one row (R259 to R261): `vs` the 128 values, `wide` the FP64 values they come from in
a pass over FP64, `ts` the fused operands, `old` the existing statistics record. Answers element bytes, scale bytes, the
statistics record, and the flags. -/
def outputStage (o : KOut) (vs : List FVal) (wide : Option (List FVal)) (ts : List FVal) (old : Nat × Nat × Nat) :
    Bytes × Bytes × (Nat × Nat × Nat) × Nat :=
  let r := (List.range vs.length).map fun i => fusedStep o (vs.getD i (.fin false 0 0)) (ts.getD i (.fin false 0 0))
  let ws := r.map (·.1)
  let fl := r.foldl (fun a x => fOr a x.2) 0
  let (st, f1) := if o.stats = 0 then (old, 0) else rowStats (if o.stats = 2 then some old else none) ws
  let (xs, f2) := outSources o wide ws
  let (eb, sb, f3) := outRow o xs
  (eb, sb, st, fOr (fOr fl f1) (fOr f2 f3))

/-- The values of a row of FP64 that an output-stage pass reads (R261): converted to FP32 by NMODE.RND, the FP64 values that a
conversion in more than one step starts from, and the flags of what is used. -/
def passInput (o : KOut) (xs : List Nat) : List FVal × List FVal × Nat :=
  let fl := xs.map fun x => flush64 o.nm.ftz (fp64Of x)
  let r := fl.map fun v => toFp32 o.nm.rnd o.nm.ftz v.1
  let f0 := fl.foldl (fun a x => fOr a x.2) 0
  (r.map fun x => fp32Of x.1, fl.map (·.1), if narrowsTo o && o.stats == 0 then f0 else r.foldl (fun a x => fOr a x.2) f0)

/-- Step 1 of R259: the values of a row of accumulators. On the integer path convertFromInt rounds in NMODE.RND. -/
def stageInput (c : KCfg) (o : KOut) (accs : List Nat) : List FVal × Nat :=
  if intPath c then
    let r := accs.map fun a => toFp32 o.nm.rnd false (ofUnit (signed 32 a) 0 false)
    (r.map fun x => fp32Of x.1, r.foldl (fun a x => fOr a x.2) 0)
  else (accs.map fp32Of, 0)

/-- Chain an FP32 accumulator into an FP64 accumulator (R254, R279). -/
def chain64 (acc64 acc32 : Nat) : Nat × Nat :=
  let (v, f1) := addV .nearest (fp64Of acc64) (fp32Of acc32)
  let v := if isNaN v then defaultNaN else v
  let (b, f2) := toFp64 .nearest false v
  (b, fOr f1 f2)

/-- The bytes of one result row (Table SEQ-5). -/
def resultRowBytes (endMode : Nat) (o : KOut) : Nat :=
  match endMode with
  | 0 => 512
  | 1 => 1024
  | _ => 128 * fmtBits o.fmt / 8

/-- Scale bytes of one FINAL result row. -/
def resultScaleBytes (o : KOut) : Nat :=
  match fmtBlock o.fmt with
  | some b => 128 / b
  | none => 0

end Sys2Proof.Machine
end

