-- ==== Sys2Proof/Machine/CryMath.lean ====
section
/-! DEFINITION. The arithmetic of the Crystalliser: ring words, GF(2^61 − 1), the float lanes, dequantisation and the
discrete Gaussian sampler (CRY, R273 to R294). -/
namespace Sys2Proof.Machine

open Sys2Proof (Byte Bytes Rnd NMode Fmt FVal Sampler DrawStage)

/-- Ring ADD and SUB of width `w` (R273). -/
def ringAdd (w x y : Nat) : Nat := (x + y) % 2 ^ w
def ringSub (w x y : Nat) : Nat := (x % 2 ^ w + 2 ^ w - y % 2 ^ w) % 2 ^ w
def ringOp (sub : Bool) (w x y : Nat) : Nat := if sub then ringSub w x y else ringAdd w x y

/-- The field prime (R275). -/
def fieldP : Nat := 2 ^ 61 - 1

/-- Square and multiply on the binary digits of the exponent, `fuel` of them. -/
def powMod (m : Nat) : Nat → Nat → Nat → Nat
  | 0, _, _ => 1 % m
  | fuel + 1, b, e =>
    let r := powMod m fuel (b * b % m) (e / 2)
    if e % 2 = 1 then r * b % m else r

/-- The inverse in the field; 0 for 0 (R275). -/
def fieldInv (a : Nat) : Nat := powMod fieldP 61 (a % fieldP) (fieldP - 2)

/-- A field operation (R275): result and CSTAT flags (bit 0 REDUCED, bit 1 ZERO_INVERSE). Operations 0 ADD, 1 SUB,
2 MUL, 3 MAC, 4 INV. -/
def fieldOp (op a b c : Nat) : Nat × Nat :=
  let red (l : List Nat) : Nat := if l.any (fieldP ≤ ·) then 1 else 0
  match op with
  | 0 => ((a % fieldP + b % fieldP) % fieldP, red [a, b])
  | 1 => ((a % fieldP + (fieldP - b % fieldP)) % fieldP, red [a, b])
  | 2 => (a % fieldP * (b % fieldP) % fieldP, red [a, b])
  | 3 => ((a % fieldP * (b % fieldP) + c % fieldP) % fieldP, red [a, b, c])
  | _ => (fieldInv a, red [a] + if a % fieldP = 0 then 2 else 0)

/-- Dequantise one ring word (R293): FP32 bits and NSTAT flags. -/
def dequantWord (w : Nat) (nm : NMode) (scale : Nat) (zp : Int) (word : Nat) : Nat × Nat :=
  let d := signed w word - zp
  if d = 0 then (0, 0)
  else toFp32 nm.rnd nm.ftz (mulV (ofUnit d 0 false) (fp32Of scale)).1

/-- Integer square root by descent on `fuel` bits. -/
def isqrt (n : Nat) : Nat → Nat → Nat
  | 0, acc => acc
  | k + 1, acc => if (acc + 2 ^ k) * (acc + 2 ^ k) ≤ n then isqrt n k (acc + 2 ^ k) else isqrt n k acc

/-! ### The sampler of R289

One step of the sampler is one draw of `uniform`, so a Pan's noise can stop at any draw and go on there. -/

/-- Bits and bytes of a draw of uniform(d): the bits that d − 1 takes, in whole bytes read as one little-endian integer (R289
does not say how: DESIGN CHOICE, log entry 25). -/
def uniformBits (d : Nat) : Nat := bitLen (d - 1)
def uniformBytes (d : Nat) : Nat := (uniformBits d + 7) / 8

/-- The parameter t of gauss(a, b). -/
def gaussT (a b : Nat) : Nat := isqrt (a / b) 32 0 + 1

/-- bern_exp(n, d) begins. -/
def startBern (st : DrawStage) (n d : Nat) (z : Sampler) : Sampler :=
  { z with stage := st, n := n, d := d, k := 1, inner := if d < n then 1 else 0 }

/-- The bound of the draw that the sampler takes next. -/
def sampleBound (a b : Nat) (z : Sampler) : Nat :=
  match z.stage with
  | .needU => gaussT a b
  | .sign => 2
  | .done => 1
  | _ => if z.inner ≠ 0 then z.inner else z.d * z.k

/-- A laplace sample y reaches the last test; a draw whose intermediate passes 256 bits is discarded and redrawn. -/
def testSample (a b : Nat) (y : Int) : Sampler :=
  let t := gaussT a b
  let i : Int := (y.natAbs * b * t : Nat) - (a : Int)
  let n := i.natAbs * i.natAbs
  if 2 ^ 256 ≤ n then {} else startBern .testY n (2 * a * b * t * t) { y := y }

/-- A bern_exp of the sampler has ended. -/
def bernEnds (r : Bool) (z : Sampler) : Sampler :=
  match z.stage with
  | .testU => if r then startBern .countV 1 1 { z with v := 0 } else {}
  | .countV => if r then startBern .countV 1 1 { z with v := z.v + 1 } else { z with stage := .sign }
  | .testY => if r then { stage := .done, y := z.y } else {}
  | _ => z

/-- The sampler takes the value x of its draw. -/
def sampleTake (a b : Nat) (z : Sampler) (x : Nat) : Sampler :=
  match z.stage with
  | .needU => startBern .testU x (gaussT a b) { u := x }
  | .sign =>
    let m := z.u + gaussT a b * z.v
    if x = 1 ∧ m = 0 then {} else testSample a b (if x = 0 then (m : Int) else -(m : Int))
  | .done => z
  | _ =>
    if z.inner ≠ 0 then
      if x < 1 then { z with inner := z.inner + 1 }
      else if z.inner % 2 = 0 then bernEnds false z
      else { z with n := z.n - z.d, inner := if z.d < z.n - z.d then 1 else 0 }
    else if z.n ≤ x then bernEnds (z.k % 2 == 1) z
    else if 2 ^ 256 ≤ z.d * (z.k + 1) then {}
    else { z with k := z.k + 1 }

/-- One candidate of the draw: taken where it lies below the bound, drawn anew where it does not. -/
def sampleStep (a b : Nat) (z : Sampler) (bs : Bytes) : Sampler :=
  let d := sampleBound a b z
  let x := leNat (bs.take (uniformBytes d)) % 2 ^ uniformBits d
  if x < d then sampleTake a b z x else z

end Sys2Proof.Machine
end

