-- ==== Sys2Proof/Config.lean ====
section
/-! DEFINITION. What one part or one installation fixes (fuses, factory records, the SKU's constants), and the free values:
constants with no body, so that no proof can rest on a number for them. -/
namespace Sys2Proof.Config

/-- A free value: what the spec leaves open at its n-th use, as bits to be cut to width. -/
opaque freeValue : Nat → Nat

/-- A byte of a Store that nothing has written under the keys and the map in force, by generation and address (R518:
unpredictable). -/
opaque storeByte : Nat → Nat → Byte

/-- Progress of a scrub in sixteenths, by generation of the keys and toll counter: the spec gives the whole scrub its time and no
count of the units written at an instant (STO_STATUS.SCRUB_PCT). DESIGN CHOICE (log entry 68). -/
opaque scrubProgress : Nat → Nat → Nat

/-- UDS, the device unique secret of the fuses (R472): 32 bytes. -/
opaque uds : Bytes

/-- Factory trim code of a Pan's delay-trim group (R86), cut to 0 to 63 where it is used. -/
opaque factoryTrim : Nat → Nat → Nat

/-- The noise source's conditioning mode of the factory calibration fuse (R492): true for von Neumann. -/
opaque vonNeumann : Bool

/-- The factory calibration fuse field and the factory repair map, whose digests the evidence carries (Table ATT-2). -/
opaque factoryCal : Bytes
opaque factoryRepair : Bytes

/-- Factory repairs (R472): remapped rows (Pan, subarray, row, spare) and retired subarrays (Pan, subarray). -/
opaque factoryRows : List (Nat × Nat × Nat × Nat)
opaque factoryRetired : List (Nat × Nat)

/-- The two Pan sites of the 50 that the fuses leave disabled (R51, R472): the second counts the sites without the first. -/
opaque spareFirst : Fin 50
opaque spareSecond : Fin 49

/-- Site s is one of the 48 enabled ones. -/
def siteEnabled (s : Nat) : Bool :=
  s != spareFirst.val && s != (if spareSecond.val < spareFirst.val then spareSecond.val else spareSecond.val + 1)

/-- The enabled sites in rising order: the enabled Pans take them in that order (PAN, Model). -/
def enabledSites : List Nat := (List.range 50).filter siteEnabled

/-- The Pan enable map of the fuses: bit s for Pan site s, exactly 48 of 50 set (R51, R472), and the site that Pan p stands
at. -/
def panEnable : Nat := (enabledSites.map fun s => 2 ^ s).sum
def panSite (p : Nat) : Nat := enabledSites.getD p 0

/-- Debug-lock state of the fuses (R472). -/
opaque debugLock : Nat

/-- Tamper counter burnt before the model's history begins is State's; MAC addresses from fuses: Inlet ports 0 to 3, and
Belfry's port as 4 (R412, R618). -/
opaque mac : Nat → Nat

/-- Device Serial Number of the configuration space (R592). -/
opaque serial : Nat

/-- Whether the contents of a firmware slot verify under Scellavin's key (R140): slot, erasures, what was programmed. -/
opaque fwVerifies : Nat → Nat → List (Nat × Bytes) → Bool

/-- SHA-384 of a component of a firmware slot's contents: 0 Steward, 1 Belfry (R475). -/
opaque fwDigest : Nat → Nat → List (Nat × Bytes) → Nat → Bytes

/-- d_rom, the SHA-384 of the boot ROM (R475). -/
opaque romDigest : Bytes

/-- The identity certificate that Scellavin issued, DER, kept in flash (R476), and the certificate of the Belfry TLS key
(R620). -/
opaque identityCert : Bytes
opaque belfryCert : Bytes

/-- The fields of the identity certificate that R677 copies: subject and notBefore as DER, and the bytes of its
subjectKeyIdentifier. -/
opaque identitySubject : Bytes
opaque identityNotBefore : Bytes
opaque identitySki : Bytes

/-- Whether a certificate chain verifies (X.509 path checks under RFC 5280): identity certificate under Scellavin's root;
alias certificate under an identity certificate (R514). -/
opaque identityChainOk : Bytes → Bool
opaque aliasChainOk : Bytes → Bytes → Bool

/-- The alias public key and the four TcbInfo digests (M_fw, d_rom, d_steward, d_belfry) that an alias certificate
carries (R514). -/
opaque certKey : Bytes → Bytes
opaque certFwids : Bytes → List Bytes

/-- Whether an X.509 certificate names a P-384 public key as its subject's, and which key (R622). -/
opaque certNames : Bytes → Bytes → Bool

/-- The digest of Scellavin's root certificate, with which an SPDM certificate chain begins (DSP0274), and the numbers that
Belfry's SPDM and MCTP responders give where the spec names none: the versions of an MCTP message type, CTExponent,
DataTransferSize, MaxSPDMmsgSize and the four bytes of a ResponseNotReady. -/
opaque rootDigest : Bytes
opaque mctpVersions : Nat → Bytes
opaque spdmLimit : Nat → Nat
opaque spdmNotReady : Bytes

/-- The installation record as RECORD_READ returns it (R624): trust anchors, certificate, addresses. The spec gives it no
layout. -/
opaque installForm : List Bytes → Bytes → List Nat → Bytes

/-- Flits that the routers on the way from a source to a destination hold for one channel beside the item at its head
(R199: the spec gives the buffering of a router no size). -/
opaque pathFlits : Nat → Nat → Nat

/-- The signatures of the Kettle logic self-test and the trace data of an instruction (R455: as the trace scope
defines), by Pan and word. -/
opaque traceData : Nat → Nat → Bytes

/-- Which of the results that R278 allows, those within 2 units in the last place, exp2 and log2 give on an ordinary
operand: operation, operand with rounding direction and FTZ. -/
opaque transcend : Nat → Nat → Nat

end Sys2Proof.Config
end

