-- ==== Sys2Proof/Blocks/Carillon.lean ====
section
/-! DEFINITION. The state of Carillon (CAR): links, formation and membership, the job with its keys and epochs, transfers. -/
namespace Sys2Proof

/-- A flit in a replay buffer (R562): header KIND, SEQ, payload, and how often it has been replayed. -/
structure CarFlit where
  kind : Nat
  seq : Nat
  payload : Bytes
  replays : Nat := 0
  deriving DecidableEq, Repr

/-- One link (R560 to R563). State 0 DOWN, 1 TRAINING, 2 UP. -/
structure CarLink where
  st : Nat := 0
  cause : Nat := 0
  peer : Nat := 0
  peerValid : Bool := false
  relaying : Bool := false
  /-- UP again in a job, which it carries from the boundary after the next epoch switch on (R581). -/
  returning : Bool := false
  /-- The peer announced a wrong position: no retraining before a system reset (R558). -/
  miswired : Bool := false
  txSeq : Nat := 0
  /-- SEQ expected next from the peer; the highest SEQ it has received in order is one less. -/
  rxSeq : Nat := 0
  nakSent : Bool := false
  /-- At most 1,024 flits (R562). -/
  replay : List CarFlit := []
  /-- Flits, with their SEQ, that wait for room in the replay buffer: KIND, SEQ, payload. -/
  waiting : List (Nat × Nat × Bytes) := []
  /-- Received payload that does not yet form a whole record (R564). -/
  rx : Bytes := []
  /-- Records sent since the last BATCH (R566). -/
  sinceBatch : Nat := 0
  /-- The peer's last TOLL: its formed set, its membership view, its epoch (R563). -/
  peerFormed : Nat := 0
  peerMembers : Nat := 0
  peerEpoch : Nat := 0
  deriving DecidableEq, Repr

/-- A formation in progress (R567). -/
structure Forming where
  mask : Nat
  /-- Nonces: ours per position, theirs per position. -/
  nonces : List (Nat × Bytes) := []
  peerNonces : List (Nat × Bytes) := []
  /-- Positions that our evidence has gone to, and positions whose evidence has passed. -/
  sent : Nat := 0
  passed : Nat := 0
  linksUp : Bool := false
  /-- At the lowest position: the members of which every pair has passed. -/
  reports : Nat := 0
  deriving DecidableEq, Repr

/-- A transfer awaiting its completion (R575 to R580). Kind 0 posted write, 1 read, 2 control record. -/
structure Transfer where
  kind : Nat
  tag : Nat
  pan : Nat := 0
  rchan : Nat := 0
  peer : Nat
  /-- Link it left on; 3 where it found none. -/
  link : Nat
  epoch : Nat
  /-- The 10 µs timeout has started (R580). -/
  timing : Bool := false
  resent : Bool := false
  /-- SEQ of its last flit on its link. -/
  last : Nat := 0
  /-- A control record's message, for its one resend. -/
  body : Bytes := []
  deriving DecidableEq, Repr

/-- The live job (R571). -/
structure Job where
  ctx : Nat
  /-- Harvest ID. -/
  hid : Bytes := []
  epoch : Nat := 1
  dirty : Bool := false
  /-- Every Pan of the job on every member has cleared the dirty epoch (R578); known at the Treble. -/
  cleared : Bool := false
  /-- Job key J, in D7 (R572). -/
  key : Bytes := []
  /-- An advance waits for its reason (R573): wanted by a returning link or a SEQ limit. -/
  wantAdvance : Bool := false
  /-- Pans that have sent CLEAR of the epoch: (position, Pan), at the Treble. -/
  clears : List (Nat × Nat) := []
  /-- Pans of this member that wait for the completion of their CLEAR, with the RCHAN. -/
  clearWait : List (Nat × Nat) := []
  /-- Posted writes of the epoch that this device has issued and not yet counted as failed (R581). -/
  writes : Nat := 0
  /-- Next SEQ per destination in this epoch. -/
  txSeq : List (Nat × Nat) := []
  /-- Records that wait for an epoch with SEQ to spare (R573): type, destination, tag, body. -/
  waitSeq : List (Nat × Nat × Nat × Bytes) := []
  /-- WRITE_ACKs sent that their link has not yet acknowledged (R580): peer, tag, link. -/
  owed : List (Nat × Nat × Nat) := []
  /-- K_e of the previous epoch is kept until a BATCH under the new one has come from these positions (R574). -/
  oldEpoch : Option Nat := none
  batchAwait : List Nat := []
  /-- Ephemeral keys of the job-key exchange per member: position, private scalar, public key (R572). -/
  eph : List (Nat × Bytes × Bytes) := []
  keyed : List Nat := []
  /-- Answers to the parameter block or the roster in hand (R359, R362): position and status code. -/
  answers : List (Nat × Nat) := []
  /-- The parameter block or the roster that waits for every member's acceptance. -/
  held : Bytes := []
  /-- At the Treble: the members that a cause of their own pauses (R354). -/
  pausedBy : List Nat := []
  deriving DecidableEq, Repr

/-- Carillon. -/
structure Carillon where
  links : List CarLink := List.replicate 3 {}
  formed : Bool := false
  formedSet : Nat := 0
  members : Nat := 0
  forming : Option Forming := none
  job : Option Job := none
  transfers : List Transfer := []
  /-- Plain records sent per position (SEQ outside a job). -/
  plainSeq : List (Nat × Nat) := []
  /-- SEQ expected next per source and epoch: key 4 × epoch + source (R565). -/
  rxSeq : List (Nat × Nat) := []
  /-- Sources whose next record sets the expected SEQ anew, after a link loss (log entry 37). -/
  resync : List Nat := []
  /-- Records early in their pair's order, held (R565): key as above, SEQ, record. -/
  early : List (Nat × Nat × Bytes) := []
  /-- Records received whole and in order for this device, not yet served, oldest first. -/
  inbox : List Bytes := []
  /-- Segments received of a message longer than a record: source × 256 + message, bytes. -/
  parts : List (Nat × Bytes) := []
  /-- Sealed records discarded: outside a job, or with a tag that fails (R565). -/
  discarded : Nat := 0
  pfailLast : Nat := 0
  /-- From the peers' evidence checked in the formation: position, alias public key, SHA-384 of the identity key. -/
  peerIds : List (Nat × Bytes × Bytes) := []
  deriving DecidableEq, Repr

end Sys2Proof
end

