-- ==== Sys2Proof/Blocks/Inlet.lean ====
section
/-! DEFINITION. The state of the Inlets (INL): ports, frames waiting for their flow, the ORDERED reply flows. -/
namespace Sys2Proof

/-- How to address the reply to a frame (R431): MAC, tag, IP and UDP fields of the frame answered, as received. -/
structure ReplyAddr where
  smac : Bytes := []
  dmac : Bytes := []
  tag : Option Nat := none
  v6 : Bool := false
  src : Bytes := []
  dst : Bytes := []
  dscp : Nat := 0
  sport : Nat := 0
  dport : Nat := 0
  deriving DecidableEq, Repr

/-- A frame that has passed admission up to its credit (R422): where it came from (port 0 to 3, or 4 + function for the host
path), its record index there, context, slot or holder, and the Vezil frame. -/
structure Frame where
  id : Nat := 0
  port : Nat
  index : Nat := 0
  ctx : Nat
  slot : Nat
  share : Bool
  bytes : Bytes
  /-- Bytes that it holds in the receive buffer (R428). -/
  len : Nat := 0
  addr : ReplyAddr := {}
  /-- The HPKE context that Keyhold has set up for a chunk 0 or a share batch (R425): key, base nonce, receipt key. -/
  hpke : Option (Bytes × Bytes × Bytes) := none
  deriving DecidableEq, Repr

/-- Where a part's last staged chunk came from, for its receipt (R429, R431, R607): port, record index, TAG, address. -/
structure Origin where
  port : Nat
  index : Nat
  tag : Nat
  addr : ReplyAddr
  deriving DecidableEq, Repr

/-- One Inlet port. Link state 0 DOWN, 1 TRAINING, 2 UP. -/
structure Port where
  link : Nat := 0
  loopbackFail : Bool := false
  /-- Frames that hold receive-buffer space while they wait for the credits of step 9 (R428), oldest first. -/
  waiting : List Frame := []
  /-- The second that the next two counts belong to, frames taken at the MAC in it (R434), direct replies in it (R430). -/
  second : Nat := 0
  taken : Nat := 0
  direct : Nat := 0
  deriving DecidableEq, Repr

/-- The Inlets. -/
structure Inlets where
  ports : List Port := List.replicate 4 {}
  /-- Frames admitted and not yet decided. -/
  frames : List Frame := []
  /-- Host-path frames that wait for their credit (R606). -/
  hostWaiting : List Frame := []
  nextFrame : Nat := 1
  /-- The second of the toll counter in which the events of R433 were last due. -/
  statsAt : Nat := 0
  deriving DecidableEq, Repr

end Sys2Proof
end

