-- ==== Sys2Proof/Blocks/Harvest.lean ====
section
/-! DEFINITION. The state of a harvest context (HVS, LDG, GRN): parameters, roster, ledger, contributions, shares,
reconstruction, masks, Settling, result and certificate. -/
namespace Sys2Proof

/-- An entry of the slot-context table (R424) with what the slot's staging holds (R366). -/
structure SlotCtx where
  slot : Nat
  key : Bytes
  baseNonce : Bytes
  receiptKey : Bytes
  enc : Bytes
  mask : Bytes := List.replicate 32 0
  /-- COUNT of the part, as bound in the HPKE info. -/
  count : Nat
  /-- Store physical address of the reservation, and its length in bytes. -/
  base : Nat
  len : Nat
  /-- H_c per staged chunk. -/
  digests : List (Nat × Bytes) := []
  /-- Where the part's last staged chunk came from; none for a child result. -/
  last : Option Origin := none
  deriving DecidableEq, Repr

/-- A share record accepted (Table GRN-3): owner, holder, kind, x-coordinate, Y limbs as bytes. -/
structure Share where
  owner : Nat
  holder : Nat
  kind : Nat
  x : Nat
  y : Bytes
  deriving DecidableEq, Repr

/-- Reconstruction of one owner's secret (R319 to R321). -/
structure Recon where
  owner : Nat
  attempts : Nat := 0
  /-- x-coordinates of the shares that the attempt in progress uses. -/
  running : Option (List Nat) := none
  secret : Option Bytes := none
  deriving DecidableEq, Repr

/-- A mask issued (R310, R311): its tag, owner, neighbour (the owner itself for a self mask), operation, and the Pans
that have completed it. -/
structure MaskEntry where
  tag : Nat
  owner : Nat
  neighbour : Nat
  sub : Bool
  seed : Bytes
  done : List (Nat × Nat) := []
  removed : Bool := false
  deriving DecidableEq, Repr

/-- Progress of a slot's add. At the Treble of a Quad-wide harvest it also collects the members' reports (R378). -/
structure AddState where
  slot : Nat
  /-- The add has been issued here, or granted to the slot's HOME. -/
  issued : Bool := false
  /-- DONE has been reported to the Treble. -/
  reported : Bool := false
  /-- Positions whose part is staged, and positions that have reported DONE. -/
  staged : List Nat := []
  memberDone : List Nat := []
  deriving DecidableEq, Repr

/-- The counters of Table LDG-3 that count ledger bytes (R394). -/
structure LedgerCounts where
  survivors : Nat := 0
  dropped : Nat := 0
  failed : Nat := 0
  needed : Nat := 0
  resolved : Nat := 0
  deriving DecidableEq, Repr

/-- One harvest context. -/
structure Ctx where
  st : CtxState := .closed
  /-- The state that a void in progress has left (R382). -/
  was : CtxState := .closed
  /-- HOLD of HCX_STATE: the status holding SETTLING, or the cause of VOIDED. -/
  hold : Nat := 0
  pauseBme : Bool := false
  pauseLink : Bool := false
  /-- PAUSED as the Treble has set it on this member (R354). -/
  pauseQuad : Bool := false
  quad : Bool := false
  mode : Nat := 0
  /-- The HARVEST_OPEN parameter block, whole (R355). -/
  block : Bytes := []
  /-- V of this member, in words (R355); its rank, and the members by position. -/
  words : Nat := 0
  rank : Nat := 0
  ranks : List Nat := []
  /-- Claim 22: the members' positions with the digests of their identity keys, as at the open. -/
  ids : List (Nat × Bytes) := []
  /-- The Treble's toll counter as this member last heard of it, and its own at that moment (claim 20). -/
  tollRef : Option (Nat × Nat) := none
  /-- Image measurement, policy measurement and the five digests recorded at the open (R179). -/
  meas : Bytes := []
  polMeas : Bytes := []
  digests : List Bytes := []
  /-- POLICY as at the open. -/
  policy : Bytes := []
  /-- The most permissive debug scopes in force since the open (R47). -/
  debug : Nat := 0
  /-- The accumulator lies in Pan memory (R281, R282). -/
  onChip : Bool := true
  roster : Bytes := []
  rosterDigest : Bytes := List.replicate 48 0
  /-- Ledger bytes in Tally that are not zero, by rising slot (R389). -/
  ledger : List (Nat × Nat) := []
  /-- At the Treble of a SPLIT harvest: the bytes of slots homed elsewhere, as it knows them (R379, R395). -/
  gathered : List (Nat × Nat) := []
  counts : LedgerCounts := {}
  slots : List SlotCtx := []
  receipts : List (Nat × Bytes) := []
  /-- Where the receipt of an ADDED slot went (R297), and receipts that wait for room in their reply flow (R368): slot,
  destination, MAC. -/
  origins : List (Nat × Origin) := []
  owed : List (Nat × Origin × Bytes) := []
  adds : List AddState := []
  /-- Weights other than 1 and certificate digests of child results, by slot (R406). -/
  weights : List (Nat × Nat) := []
  children : List (Nat × Bytes) := []
  /-- Freeze: a TALLY_FREEZE is in progress, with the slots whose freeze point has passed (R369). -/
  freezing : Bool := false
  frozen : List Nat := []
  frozenUpTo : Nat := 0
  /-- The survivor count was below the floor at the freeze (R370). -/
  floorMiss : Bool := false
  /-- The share window runs (R372), and the toll ticks of unpaused TALLIED time still left in it. -/
  windowOn : Bool := false
  windowLeft : Nat := 0
  shares : List Share := []
  conflicts : Nat := 0
  issuedCount : Nat := 0
  removedCount : Nat := 0
  recons : List Recon := []
  masks : List MaskEntry := []
  nextTag : Nat := 1
  /-- Ledger seeds of the Treble that wait for room in the Pans' queues: tag, operation, seed (R308, R324). -/
  seedWait : List (Nat × Bool × Bytes) := []
  /-- Partial sums received and merged, by member (R379). -/
  merged : List Nat := []
  /-- Settling step in progress (Table LDG-4); 0 before the first. -/
  step : Nat := 0
  /-- Step reports accepted in the step: (member, Pan, report). -/
  reports : List (Nat × Nat × Bytes) := []
  lastReports : List (Nat × Nat × Bytes) := []
  /-- Positions of Pans whose noise was missing as they ended step 2 (R399). -/
  noiseLacks : List Nat := []
  assay : Option Bytes := none
  assayMet : Bool := false
  /-- Sealed result (kept in STAGING under the tenant key) and certificate, as the release window holds them. -/
  result : Bytes := []
  resultDigest : Bytes := []
  cert : Bytes := []
  /-- While a void waits for its signature: Tally's bytes as they stood at the void (R404), and the members whose bytes the
  Treble still gathers (R395). -/
  kept : Option (List (Nat × Nat)) := none
  gather : List Nat := []
  /-- A copy staged by a Quad member before COMMIT (R405), and the members that have acknowledged. -/
  staged : Option (Bytes × Bytes) := none
  acks : List Nat := []
  /-- Slot and origin of the ingest frames that a void has left without their answer (R607). -/
  lostReplies : List (Nat × Origin) := []
  /-- Members' gate reports (R405): position, conditions, scopes; and the result slices of their Pans (R401). -/
  gateReports : List (Nat × Nat × Nat) := []
  memberData : List (Nat × Bytes) := []
  /-- Refusals per status of the second (Table QUE-4), contribution receipts of the second (R433). -/
  refusals : List Nat := List.replicate 7 0
  receiptsSent : Nat := 0
  deriving DecidableEq, Repr

end Sys2Proof
end

