-- ==== Sys2Proof/Blocks/Image.lean ====
section
/-! DEFINITION. The state of the Ocrath image (IMG). -/
namespace Sys2Proof

/-- The image in force: the measured header bytes, the measured records of the table in order, and the bodies. -/
structure Loaded where
  header : Bytes
  records : List Bytes
  policy : Bytes
  layout : Bytes
  routes : List (Nat × Bytes)
  programs : List (Nat × Bytes)
  consts : Bytes
  meas : Bytes
  polMeas : Bytes
  deriving DecidableEq, Repr

/-- An image command in service (Table IMG-10): the file staged, the context of a partial load, its phase. -/
structure ImgLoad where
  pf : Nat
  partialCtx : Option Nat
  /-- Length that the command names. -/
  len : Nat
  file : Bytes
  /-- 0 staging (step 2), 1 staged and not yet checked, 2 checked: quiescing, 3 quiesced: written, ROUTE_SYNC awaited. -/
  phase : Nat
  /-- The command was cut off from its host by a reset, and runs to its end without a completion (R184). -/
  orphan : Bool := false
  deriving DecidableEq, Repr

/-- The image block. STATE 0 NONE, 1 LOADING, 2 LOADED, 3 PARTIAL. -/
structure Image where
  st : Nat := 0
  target : Nat := 0
  section_ : Nat := 0xFF
  detail : Nat := 0
  status : Nat := 0
  full : Nat := 0
  partial_ : Nat := 0
  /-- The image in force: published by step 9 of its load (R172). -/
  loaded : Option Loaded := none
  /-- What step 8 of the load in progress has written and step 9 has not published yet. -/
  next : Option Loaded := none
  /-- The LAYOUT by which the Store partitions are placed (R173): it outlives the image. -/
  placed : Bytes := []
  load : Option ImgLoad := none
  deriving DecidableEq, Repr

end Sys2Proof
end

