-- ==== Sys2Proof/Blocks/Out.lean ====
section
/-! DEFINITION. What the device sends out of itself: the model's own record of it, oldest first. -/
namespace Sys2Proof

/-- Something that left the device. -/
inductive Out where
  /-- A DMA read of host memory was asked for (R595). -/
  | dmaRead (pf addr len : Nat)
  /-- A DMA write to host memory. -/
  | dmaWrite (pf addr : Nat) (data : Bytes)
  /-- The zero-length read that makes a command's writes visible (R596). -/
  | dmaFlush (pf : Nat)
  /-- An MSI-X vector was signalled (R594). -/
  | msix (pf vector : Nat)
  /-- Belfry's interrupt for TELQ (R449). -/
  | belfryIrq
  /-- An AVSBus transaction: kind (0 Status read, 1 setpoint write, 2 readback) and setpoint in mV. -/
  | avs (kind mv : Nat)
  /-- An Ethernet frame left an Inlet port. -/
  | frame (port : Nat) (data : Bytes)
  /-- A flit left a Carillon link. -/
  | flit (link : Nat) (data : Bytes)
  /-- A record was handed to Carillon for a position: header, body and tag. -/
  | record (pos : Nat) (data : Bytes)
  /-- A message left on a TLS session, and a session was closed. -/
  | belfry (session : Nat) (data : Bytes)
  | tlsAlert (session : Nat)
  | sessionClosed (session : Nat)
  /-- A frame left Belfry's management port. -/
  | mgmt (data : Bytes)
  /-- A message left on SMBus. -/
  | smbus (data : Bytes)
  /-- What a register access returned: to the driver's function, to Belfry (4) or to a Steward (5 + s). -/
  | read (who : Nat) (width value : Nat)
  /-- The answer to a Store request inside the device: status, and the data of a read (R543 to R545). -/
  | store (status : Nat) (data : Bytes)
  /-- The boundary-scan register selected at TDO (R106). -/
  | jtag (reg value : Nat)
  deriving DecidableEq, Repr

end Sys2Proof
end

