-- ==== Sys2Proof/Blocks/Power.lean ====
section
/-! DEFINITION. The state of the supply, reset and boot logic (PKG, BOO), of the cadence block and its governor (CAD), and
of Tocsin's always-on domain (KEY). -/
namespace Sys2Proof

/-- What the VDDC sequencing is doing (R111, R118). -/
inductive VddcState where
  /-- VDDC_EN and VDDC_DSCH are low. -/
  | off
  /-- VDDC_EN is high and VDDC is not good yet. -/
  | starting
  /-- VDDC is good (step 3 of Table PKG-10). -/
  | good
  /-- VDDC_EN low, VDDC_DSCH high, the sense not below 50 mV yet (steps 1 and 2 of R111). -/
  | discharging
  /-- The 100 ms hold (step 3 of R111). -/
  | hold
  deriving DecidableEq, Repr

/-- Why VDDC was removed: the cases of R111. -/
inductive VddcWhy where
  | none | tenantSwitch | brownout | startRetry | muffle | shutdown | thermtrip | tocsin | fatal | startFailed | systemReset
  deriving DecidableEq, Repr

/-- Who asked for a transition that completes later. -/
inductive Asker where
  | host (pf : Nat) (seq : Nat)
  | belfry (session : Nat) (request : Nat)
  | device
  deriving DecidableEq, Repr

/-- Pins and supplies (PKG). The pins are named as Table PKG-5 names them; a pin ending in N is asserted when false. -/
structure Power where
  auxOk : Bool := true
  sysRstN : Bool := false
  perstN : Bool := false
  vddcEn : Bool := false
  vddcDsch : Bool := false
  thermtripN : Bool := true
  smbAlertN : Bool := true
  vddkOk : Bool := true
  vbatOk : Bool := true
  refclkOk : Bool := true
  /-- Strap pins as the board sets them, and as latched at the last rising edge of SYS_RST_N (R108). -/
  posPin : Nat := 0
  bootSrcPin : Nat := 0
  smbAddrPin : Nat := 0
  pos : Nat := 0
  bootSrc : Nat := 0
  smbAddr : Nat := 0
  vddc : VddcState := .off
  why : VddcWhy := .none
  /-- Starts of VDDC tried in this sequence (R118). -/
  tries : Nat := 0
  /-- The boot or the wake waits for the end of the hold (R130, R153). -/
  restartDue : Bool := false
  /-- The boundary-scan instruction loaded (R106): 0 BYPASS, 1 IDCODE, 2 SAMPLE/PRELOAD, 3 EXTEST, 4 HIGHZ; and the levels that the
  chain's cells hold for the output pins that the model holds, bit 0 SMB_ALERT_N, 1 THERMTRIP_N, 2 VDDC_EN, 3 VDDC_DSCH. -/
  jtag : Nat := 1
  chain : Nat := 0
  deriving DecidableEq, Repr

/-- A tenant switch in progress (Table ATT-7): its last step done, who asked, and whether it found the core off. -/
structure TenantSwitch where
  step : Nat
  by_ : Asker
  coreOff : Bool
  deriving DecidableEq, Repr

/-- A wake in progress (Table BOO-7). -/
structure Wake where
  /-- Last step done; 0 while the hold of R111 is awaited (R153). -/
  step : Nat
  by_ : Asker
  deriving DecidableEq, Repr

/-- Device state, boot and long-running transitions (BOO). -/
structure Device where
  st : DevState := .held
  bootStep : Nat := 0
  step8a : Bool := false
  step8b : Bool := false
  halted : Bool := false
  fail : Nat := 0
  scrubbed : Bool := false
  fwSlot : Nat := 0
  fwFallback : Bool := false
  calRejected : Bool := false
  repairRejected : Bool := false
  vddcRetry : Bool := false
  bootTime : Nat := 0
  /-- Toll count and thermal wait that DEV_BOOT_TIME subtracts (R139). -/
  bootStart : Nat := 0
  thermWait : Bool := false
  waitStart : Nat := 0
  waited : Nat := 0
  switch : Option TenantSwitch := none
  wake : Option Wake := none
  /-- MUFFLE in progress: who asked (R146). -/
  muffling : Option Asker := none
  /-- SHUTDOWN in progress, and done (R627). -/
  shutting : Option Asker := none
  shutDown : Bool := false
  /-- A scrub was in progress when SHUTDOWN was served: it counts as SHUTDOWN's own (R643). -/
  shutScrub : Bool := false
  /-- The core was lost to a second failed start (R149): commands that need it complete with LASTING_FAULT. -/
  coreDead : Bool := false
  /-- A tamper event was latched in Muffled and no WAKE or Belfry order has met it yet (R151). -/
  muffledTamper : Bool := false
  /-- PCI Express link state (0 DOWN, 1 TRAINING, 2 UP) and Belfry port state. -/
  pcie : Nat := 0
  belfryPort : Nat := 0
  deriving DecidableEq, Repr

/-- An AVSBus transaction waiting for its response (R84, R85). -/
structure AvsTx where
  /-- 0 Status read, 1 setpoint write, 2 readback. -/
  kind : Nat
  value : Nat
  /-- It has failed once: a second failure is for good. -/
  retried : Bool := false
  /-- The setpoint has been written a second time, by this write or by the one before this readback. -/
  rewritten : Bool := false
  /-- The first Status read of a VDDC start (Table PKG-10, step 4). -/
  first : Bool := false
  deriving DecidableEq, Repr

/-- The cadence block (CAD). Setpoints in units of 5 mV. -/
structure Cad where
  toll : Nat := 0
  vset : Nat := 140
  /-- 0 none, 1 half, 2 a quarter, 3 an eighth. -/
  brake : Nat := 0
  throttleT : Bool := false
  throttleP : Bool := false
  /-- The last run found Tj at 95 °C or more (R678). -/
  hot : Bool := false
  /-- Power stayed above the cap with the brake at 1/8 at the last run (R92); power and Tj of that run. -/
  capUnmet : Bool := false
  lastPower : Nat := 0
  lastTj : Int := 0
  avsFault : Bool := false
  goodRuns : Nat := 0
  /-- A transaction of the run in progress has failed for good (R85). -/
  runBad : Bool := false
  /-- The governor has started its runs (step 4 of Table PKG-10). -/
  running : Bool := false
  avs : List AvsTx := []
  readPower : Nat := 0
  readTj : Int := 0
  readKettle : Nat := 0
  /-- User offset in effect per (Pan × 8 + group), where not zero (R87), and the boot's copy for a wake. -/
  trims : List (Nat × Nat) := []
  /-- The user calibration record as the boot found it, which the evidence measures (R88, R632). -/
  calRecord : Bytes := []
  deriving DecidableEq, Repr

/-- Tocsin's always-on domain, the LOCKED latch and the tamper counter (R474, R499 to R504). -/
structure Tocsin where
  /-- The domain has not lost its power since it was last armed (R504). -/
  unbroken : Bool := true
  armed : Bool := false
  /-- The sensor latch: a trip latched and not yet counted. -/
  latch : Option Nat := none
  cause : Nat := 0
  causeState : Nat := 0
  continuity : Bool := false
  cleanFlag : Bool := false
  cleanRead : Bool := false
  therm : Bool := false
  dischargeFail : Bool := false
  lockedLatch : Bool := false
  count : Nat := 0
  /-- Response in progress: steps 1 to 3 of Table KEY-8 done, the burn of step 4 awaited. -/
  burning : Bool := false
  mesh : Bool := false
  light : Bool := false
  tamper0 : Bool := false
  tamper1 : Bool := false
  deriving DecidableEq, Repr

end Sys2Proof
end

