-- ==== Sys2Proof/Blocks/Store.lean ====
section
/-! DEFINITION. The state of the Stores (STO). -/
namespace Sys2Proof

/-- A pseudo-channel (Table STO-3): state 0 IN_SERVICE, 1 FENCED, 2 RETIRED, 3 RETURNING; its last cause. -/
structure PseudoChannel where
  st : Nat := 2
  cause : Nat := 0
  deriving DecidableEq, Repr

/-- What the D0 slots hold (R544). -/
inductive StoreKey where
  | none | tenant | scrub | test
  deriving DecidableEq, Repr

/-- The Stores. The contents are kept as plaintext under the keys in force: `mem` lists the bytes written since the keys
or the map last changed, by rising Store physical address; `zeros` the ranges [lo, hi) zero-filled since; any other byte
is unpredictable (R518) and reads as a free value of `gen` and its address. -/
structure Stores where
  pcs : List PseudoChannel := List.replicate 128 {}
  stripe : List Nat := []
  trained : Nat := 0
  selfRefresh : Bool := false
  key : StoreKey := .none
  gen : Nat := 0
  mem : List (Nat × Byte) := []
  zeros : List (Nat × Nat) := []
  /-- Data units condemned (R545), by index A div 64. -/
  bad : List Nat := []
  /-- 0 idle, 1 full scrub, 2 return scrub. -/
  scrub : Nat := 0
  /-- No tenant has been enrolled since the last completed scrub began (R643). -/
  scrubFresh : Bool := false
  /-- Pseudo-channels in a return (R549), with who asked for it. -/
  returning : List Nat := []
  deriving DecidableEq, Repr

end Sys2Proof
end

