-- ==== Sys2Proof/Blocks/Sweep.lean ====
section
/-! DEFINITION. The state of Sweep, of the built-in self-test and of the fault log (FLT), and of the DBG block (ATT). -/
namespace Sys2Proof

/-- A slice in progress (R654): the Pan, the physical subarray, what the scratch buffer holds: the bytes saved by
offset, and the words saved lost (by word index within the subarray). -/
structure Slice where
  pan : Nat
  sub : Nat
  targeted : Bool
  saved : List (Nat × Byte) := []
  lost : List Nat := []
  deriving DecidableEq, Repr

/-- What waits for a subarray that Sweep holds, other than the instructions of its Pan (R209): a debug read (Pan, address), a
READ_REQ record, a partial sum (context, member, bytes), the backout of a slot on order of a member, and the device's own
(context, slot, chunk, whether a staged read fails again). -/
inductive HeldOp where
  | debugRead (pan addr : Nat) (ups : List (Nat × Upset))
  | readReq (rec_ : Bytes) (ups : List (Nat × Upset))
  | partialSum (ctx src : Nat) (data : Bytes)
  | backout (ctx src slot : Nat)
  | addBackout (ctx slot chunk : Nat) (fails : Bool)
  deriving DecidableEq, Repr

/-- Sweep, BIST and ERR. -/
structure Sweep where
  pos : Nat := 0
  passes : Nat := 0
  slice : Option Slice := none
  /-- What waits for the slice in progress, oldest first. -/
  held : List HeldOp := []
  lastPan : Nat := 0
  lastSub : Nat := 0
  targets : List (Nat × Nat) := []
  deferred : Bool := false
  quick : Bool := false
  last : Nat := 0
  panRetired : Nat := 0
  subRetired : Nat := 0
  rowsRepaired : Nat := 0
  /-- Pans whose scratch buffer is to be tested at their next slice (R670). -/
  scratchTest : List Nat := []
  classes : List Nat := [0, 0, 0, 0]
  written : Nat := 0
  /-- The error log: entries of 32 bytes by index 0 to 255. -/
  log : List (Nat × Bytes) := []
  /-- Fault counts per unit: (UNIT × 256 + INDEX, TRANSIENT, LASTING). -/
  units : List (Nat × Nat × Nat) := []
  /-- Logic self-tests running: Pans, and those that failed once (R659). -/
  testing : List Nat := []
  failedOnce : List Nat := []
  deriving DecidableEq, Repr

/-- The DBG block (ATT): the scopes open, the result of the last operation, and the counter snapshot of R532. -/
structure Debug where
  scope : Nat := 0
  status : Nat := 0
  data : Nat := 0
  deriving DecidableEq, Repr

end Sys2Proof
end

