-- ==== Sys2Proof/RegName.lean ====
section
/-! DEFINITION. The names of the device's registers (the register tables of the spec's chapters 03, 05, 06, 07, 15 to 21
and 23) and the access codes of Table SCO-3. -/
namespace Sys2Proof

/-- Access codes of a register field (R15, Table SCO-3; RSV is R16). -/
inductive Access where
  | rw | ro | rc | w1c | w1s | wo | rsv
  deriving DecidableEq, Repr

/-- One field of a register: its bits [hi:lo], its access code, its reset value, and the values its definition lists
(inclusive ranges; none means that every value is listed, R17). -/
structure RegField where
  hi : Nat
  lo : Nat
  acc : Access
  rst : Nat := 0
  listed : List (Nat × Nat) := []
  deriving DecidableEq, Repr

/-- The registers, by the names of the spec's tables. A register that the tables repeat (per Pan, port, queue, function,
link, Steward, or as an array of words) has one name here and an instance number beside it. -/
inductive Reg where
  | devId | devIdcode | devState | devBoot | devBootTime | devResetCause | devErr | govCtl | govCap
  | govVlimit | govVfixed | govStatus | cadReading | cadCadence | cadEvt | cadErr | tollCount | trimSel
  | trimVal | imgState | imgStatus | imgVersion | imgCompiler | imgCount | imgMeas | imgPolmeas | imgErr
  | panStatus | panSite | panMem | panSpare | panEcc | panTrap | panErr | chgStatus | chgStrayTotal
  | chgSyncCount | chgStrayLast | chgErr | chgStrayPan | stoStatus | stoMap | stoPcsel | stoPc | stoPcecc
  | stoRdbytes | stoWrbytes | stoErr | carQuad | carEpoch | carLink | carLinkctl | carReplay | carDowns
  | carPosted | carPfailLast | carDirty | carTxbytes | carRxbytes | carErr | inlPstat | inlPctl | inlPvid
  | inlUdpport | inlMac | inlIpv4 | inlIpv60 | inlIpv61 | inlIpv62 | inlIpv63 | inlRetry | inlRxFrames
  | inlRxBytes | inlTxFrames | inlDrop | inlReply | inlFec | inlCtx | inlStray | inlErr | khdStatus | khdMask
  | khdFailcnt | khdWindows | khdCurve | khdReject | khdRngwait | khdEkey | khdErr | tocStatus | tocCause
  | tocCount | tocSense | tocTherm | tocErr | rgrEnqA | rgrEnqO | rgrEnqF | rgrRefuse | rgrDispatch | rgrMiss
  | rgrErr | sweepCtl | sweepStatus | sweepPos | sweepPasses | sweepLast | bistCount | kstStatus | bistErr
  | errClass | errLogHead | errUsel | errUcnt | errErr | dbgState | dbgSel | dbgAddr | dbgCmd | dbgStat
  | dbgData | dbgRoute | dbgPcnt | dbgErr | hcxState | hcxHid | hcxCmd | hcxErr | mbDoorbell | mbExpect
  | mbResend | mbStatus | mbDamaged | mbLost | rwState | rwResultLen | rwCertLen | rwDigest | qCtl | qOp
  | qOpstat | qLost | qEvt | qSeq | qErr | bqpStat | bqpLost | bqpNextseq | rngCur | rngHead | rngArg
  | rngCmd | rngRes | rngBudget | rngQfill | rngMiss | rngErr
  deriving DecidableEq, Repr

end Sys2Proof
end

