-- ==== Sys2Proof/Machine/State.lean ====
section
/-! DEFINITION. The state of the device, the reasons a command can stop, and the state after reset. -/
namespace Sys2Proof.Machine

open Sys2Proof

/-- Why a command stops with a fault. -/
inductive Fault where
  /-- Raised by STORE_ACCESS at an address beyond the capacity of the Stores, where R540 maps nothing. Safe: the model
  stops. -/
  | storeAddress (addr : Nat)
  deriving DecidableEq, Repr

/-- Why a command is refused. -/
inductive Refusal where
  /-- Raised by an arm of exec whose command has no meaning yet. Safe: the model stops. -/
  | notModelled (mnemonic : String)
  deriving DecidableEq, Repr

/-- The device. -/
structure State where
  /-- Register fields that a program writes (RW) and sticky or counting fields held in place (W1C), as the whole value of
  the register instance, where it differs from the reset value. Registers that mirror other state are not listed. -/
  regs : List (Reg × Nat × Nat) := []
  /-- The latched high halves of R23: register, instance, requester, value. -/
  latched : List (Reg × Nat × Nat × Nat) := []
  /-- Performance counters (R37, R531), live, and as last snapshotted (R532). -/
  perf : List (Reg × Nat × Nat) := []
  perfSnap : List (Reg × Nat × Nat) := []
  power : Power := {}
  dev : Device := {}
  cad : Cad := {}
  toc : Tocsin := {}
  img : Image := {}
  pans : List Pan := List.replicate 48 {}
  fabric : Fabric := {}
  ctxs : List Ctx := List.replicate 4 {}
  /-- The greatest HARVEST_ID accepted since the enrolment key was generated, plus one; 0 for none (R358). -/
  lastHid : Nat := 0
  inlets : Inlets := {}
  /-- EVQ0 to EVQ3, DEVQ, TELQ, TRCQ (Table QUE-1). -/
  queues : List BQueue := List.replicate 4 ({} : BQueue) ++ [({ mode := 1, modeInForce := 1 } : BQueue), ({} : BQueue), ({ en := false } : BQueue)]
  ringer : Ringer := {}
  keyhold : Keyhold := {}
  /-- The last grants of the shared resources (R76). -/
  arb : Arbiters := {}
  stores : Stores := {}
  /-- Weight blobs in force (R522): context, BLOB_ID, offset, length, digest. -/
  blobs : List (Nat × Nat × Nat × Nat × Bytes) := []
  car : Carillon := {}
  fns : List Fn := List.replicate 4 {}
  belfry : Belfry := {}
  sweep : Sweep := {}
  dbg : Debug := {}
  /-- The commands that wait, first in, first out. -/
  pending : List Instr := []
  /-- What has left the device: the model's own record. -/
  out : List Out := []
  /-- How many free values have been drawn: the model's own. -/
  free : Nat := 0
  deriving DecidableEq, Repr

/-- The device right after reset: the aux group in tolerance, SYS_RST_N asserted, the device HELD, every register at its
reset value but the cause of this reset, the queue empty. -/
def State.reset : State := { regs := [(.devResetCause, 0, 1)] }

end Sys2Proof.Machine
end

