-- ==== Sys2Proof/Machine/Arbiter.lean ====
section
/-! DEFINITION. The mutual-exclusion elements (CAD, R75 to R77): which of the requesters that contend an element grants. -/
namespace Sys2Proof.Machine

open Sys2Proof

/-- The requester that an element grants of those that contend (R76): one that it has never granted, else the one whose last
grant is the oldest. `last` holds the requesters it has granted, the oldest last grant first. Among contenders never granted the
choice is unspecified: the first named is taken (DESIGN CHOICE, log entry 16). -/
def contender (last cs : List Nat) : Option Nat :=
  match cs.find? fun r => !last.contains r with
  | some r => some r
  | none => last.find? fun r => cs.contains r

/-- The last grants of an element after it has granted `r`. -/
def granted (last : List Nat) (r : Nat) : List Nat := (last.filter fun x => x != r) ++ [r]

/-- The Steward command arbiter has granted function `n`. -/
def State.grantFn (s : State) (n : Nat) : State := { s with arb := { s.arb with steward := granted s.arb.steward n } }

/-- The element before the frames' flows has granted path `p`: a port, or 4 + a function. -/
def State.grantPath (s : State) (p : Nat) : State := { s with arb := { s.arb with enqueue := granted s.arb.enqueue p } }

/-- The element of curve unit `u` has granted requester `r`. -/
def State.grantUnit (s : State) (u r : Nat) : State :=
  { s with arb := { s.arb with curve := updAt s.arb.curve u fun l => granted l r } }

/-- KEYREG's element has granted holder `h`. -/
def State.grantKey (s : State) (h : Nat) : State := { s with arb := { s.arb with keyreg := granted s.arb.keyreg h } }

/-- The DRBG engine's element has granted stream `n` a reseed. -/
def State.grantStream (s : State) (n : Nat) : State := { s with arb := { s.arb with reseed := granted s.arb.reseed n } }

end Sys2Proof.Machine
end

