-- ==== Sys2Proof/Machine/Catalogue.lean ====
section
/-! DEFINITION. The numbers of the catalogues: status codes (Table HST-7), device states (DEV_STATE), context states (Table
HVS-1), Pan states (Table PAN-1), mailbox command codes (Table HST-3), event types (Table HST-8), ERROR's unit codes
(R454). -/
namespace Sys2Proof.Machine

open Sys2Proof

/-- Table HST-7. -/
def statusCode : Status → Nat
  | .ok => 0x0000 | .pending => 0x0001 | .refused => 0x0010 | .busy => 0x0011 | .preempted => 0x0012
  | .paused => 0x0013 | .illegalOpcode => 0x0020 | .reservedNonzero => 0x0021 | .badEnum => 0x0022
  | .staleOperand => 0x0023 | .authFail => 0x0030 | .notOnCurve => 0x0031 | .notCanonical => 0x0032
  | .lowOrder => 0x0033 | .badScalar => 0x0034 | .sigFail => 0x0035 | .ledgerConflict => 0x0040
  | .floorNotMet => 0x0041 | .late => 0x0042 | .recoveryFailed => 0x0043 | .voided => 0x0044
  | .unmaskIncomplete => 0x0045 | .assayGate => 0x0046 | .layoutConflict => 0x0050 | .imageRejected => 0x0051
  | .policyForbids => 0x0052 | .linkDown => 0x0060 | .postedFail => 0x0061 | .lateCompletion => 0x0062
  | .markLost => 0x0063 | .routeStray => 0x0064 | .tamperAbort => 0x0070 | .locked => 0x0071
  | .uncorrectable => 0x0080 | .transientRetried => 0x0081 | .lastingFault => 0x0082

/-- DEV_STATE.STATE. COLD and HELD have no code of their own: the register stands at its reset value 0x1 (DEV_STATE). -/
def devCode : DevState → Nat
  | .cold | .held | .booting => 1
  | .untenanted => 2 | .tenantedIdle => 3 | .running => 4 | .muffled => 5 | .locked => 6

/-- Table HVS-1. -/
def ctxCode : CtxState → Nat
  | .closed => 0 | .opened => 1 | .gathering => 2 | .tallied => 3 | .unmasking => 4 | .settling => 5
  | .released => 6 | .voided | .voiding => 7

/-- A harvest is live in OPEN to SETTLING (R351). -/
def ctxLive : CtxState → Bool
  | .opened | .gathering | .tallied | .unmasking | .settling => true
  | _ => false

/-- Table PAN-1. -/
def panCode : PanState → Nat
  | .unassigned => 0 | .halted => 1 | .running => 2 | .quiescing => 3 | .quiesced => 4 | .trapped => 5
  | .retired => 6 | .returning => 7

/-- Table HST-3. -/
def cmdCode : HostCmd → Nat
  | .imageLoad .. => 0x01 | .imagePartial .. => 0x02 | .attest .. => 0x03 | .enrollTenant .. => 0x04
  | .weightsLoad .. => 0x05 | .tenantLeave => 0x06 | .harvestOpen .. => 0x10 | .rosterLoad .. => 0x11
  | .hostIngest .. => 0x12 | .tallyFreeze => 0x13 | .sharesSubmit .. => 0x14 | .settle => 0x15
  | .releaseFetch .. => 0x16 | .harvestVoid => 0x17 | .harvestClose => 0x18 | .quadForm .. => 0x20
  | .quadDissolve => 0x21 | .muffle => 0x30 | .wake => 0x31 | .debugUnlock .. => 0x40

/-- The commands marked PF0 in Table HST-3. -/
def cmdPf0 : HostCmd → Bool
  | .imageLoad .. | .imagePartial .. | .enrollTenant .. | .tenantLeave | .quadForm .. | .quadDissolve | .muffle | .wake
  | .debugUnlock .. => true
  | _ => false

/-- Every status. -/
def allStatus : List Status :=
  [.ok, .pending, .refused, .busy, .preempted, .paused, .illegalOpcode, .reservedNonzero, .badEnum, .staleOperand, .authFail,
   .notOnCurve, .notCanonical, .lowOrder, .badScalar, .sigFail, .ledgerConflict, .floorNotMet, .late, .recoveryFailed, .voided,
   .unmaskIncomplete, .assayGate, .layoutConflict, .imageRejected, .policyForbids, .linkDown, .postedFail, .lateCompletion,
   .markLost, .routeStray, .tamperAbort, .locked, .uncorrectable, .transientRetried, .lastingFault]

/-- The status of a code that a record carries; REFUSED for a code that none has. -/
def statusOf (n : Nat) : Status := (allStatus.find? fun t => statusCode t == n).getD .refused

end Sys2Proof.Machine
end

