-- ==== Sys2Proof/Machine/Mem.lean ====
section
/-! DEFINITION. Byte memories in canonical form: a list of (address, byte) pairs, addresses strictly rising, no entry equal
to what an unlisted address reads as. Pan memory, mailbox rings and MSI-X tables read zero where nothing is listed. -/
namespace Sys2Proof.Machine

open Sys2Proof (Byte Bytes)

/-- What an unlisted address of a Pan memory, a ring or a saved subarray reads as (R173, R661: zero). -/
def memDefault : Byte := 0

/-- The canonical form: strictly rising addresses from `lo` on, no entry equal to the default. -/
def Memory.wfFrom (lo : Nat) : List (Nat × Byte) → Bool
  | [] => true
  | (a, b) :: r => decide (lo ≤ a) && decide (b ≠ memDefault) && Memory.wfFrom (a + 1) r

/-- The canonical form. -/
def Memory.wf (m : List (Nat × Byte)) : Bool := Memory.wfFrom 0 m

/-- One byte. -/
def Memory.read (m : List (Nat × Byte)) (k : Nat) : Byte := ((m.find? fun c => c.1 == k).map (·.2)).getD memDefault

/-- One byte written: the cells below it, its own, the cells above it; writing the default removes the entry. -/
def Memory.write (m : List (Nat × Byte)) (k : Nat) (v : Byte) : List (Nat × Byte) :=
  (m.filter fun c => decide (c.1 < k)) ++ (if v = memDefault then [] else [(k, v)]) ++ m.filter fun c => decide (k < c.1)

/-- `n` bytes from an address on. -/
def Memory.readN (m : List (Nat × Byte)) (k : Nat) : Nat → Bytes
  | 0 => []
  | n + 1 => Memory.read m k :: Memory.readN m (k + 1) n

/-- A byte string written from an address on. -/
def Memory.writeN (m : List (Nat × Byte)) (k : Nat) : Bytes → List (Nat × Byte)
  | [] => m
  | b :: bs => Memory.writeN (Memory.write m k b) (k + 1) bs

/-- The bytes of the range [lo, hi) set to the default. -/
def Memory.clear (m : List (Nat × Byte)) (lo hi : Nat) : List (Nat × Byte) :=
  m.filter fun c => decide (c.1 < lo) || decide (hi ≤ c.1)

end Sys2Proof.Machine
end

