-- ==== Sys2Proof/Machine/RegMap.lean ====
section
/-! DEFINITION. The register map: where each register stands, how wide it is, and its fields with their access codes,
reset values and listed values, from the register tables of the spec's chapters. A reset value the tables give as fuse,
strap, image or AON stands here as 0; what such a field reads comes from the state (RegView). -/
namespace Sys2Proof.Machine

open Sys2Proof (Reg RegField Access)

/-- The address zones in which registers stand: BAR2 of PF0 (Belfry reaches the same offsets, R90), the context space
BAR0 of a function (Table HST-2), the reader registers of a queue (Table QUE-7), and Steward space (Table QUE-9). -/
inductive Zone where
  | bar2 | bar0 | queue | stew
  deriving DecidableEq, Repr

/-- Where a register stands: zone, offset of its first instance, width in bits, number of instances and stride. -/
structure RegPlace where
  zone : Zone
  off : Nat
  width : Nat
  count : Nat
  stride : Nat
  deriving DecidableEq, Repr

/-- The place of each register (register captions of the spec). -/
def regPlace : Reg → RegPlace
  | .devId => ⟨.bar2, 0x0, 32, 1, 0x4⟩
  | .devIdcode => ⟨.bar2, 0x4, 32, 1, 0x4⟩
  | .devState => ⟨.bar2, 0x8, 32, 1, 0x4⟩
  | .devBoot => ⟨.bar2, 0xC, 32, 1, 0x4⟩
  | .devBootTime => ⟨.bar2, 0x10, 32, 1, 0x4⟩
  | .devResetCause => ⟨.bar2, 0x14, 32, 1, 0x4⟩
  | .devErr => ⟨.bar2, 0x18, 32, 1, 0x4⟩
  | .govCtl => ⟨.bar2, 0x10000, 32, 1, 0x4⟩
  | .govCap => ⟨.bar2, 0x10004, 32, 1, 0x4⟩
  | .govVlimit => ⟨.bar2, 0x10008, 32, 1, 0x4⟩
  | .govVfixed => ⟨.bar2, 0x1000C, 32, 1, 0x4⟩
  | .govStatus => ⟨.bar2, 0x10010, 32, 1, 0x4⟩
  | .cadReading => ⟨.bar2, 0x10014, 32, 1, 0x4⟩
  | .cadCadence => ⟨.bar2, 0x10018, 32, 1, 0x4⟩
  | .cadEvt => ⟨.bar2, 0x1001C, 32, 1, 0x4⟩
  | .cadErr => ⟨.bar2, 0x10020, 32, 1, 0x4⟩
  | .tollCount => ⟨.bar2, 0x10040, 64, 1, 0x8⟩
  | .trimSel => ⟨.bar2, 0x10048, 32, 1, 0x4⟩
  | .trimVal => ⟨.bar2, 0x1004C, 32, 1, 0x4⟩
  | .imgState => ⟨.bar2, 0x20000, 32, 1, 0x4⟩
  | .imgStatus => ⟨.bar2, 0x20004, 32, 1, 0x4⟩
  | .imgVersion => ⟨.bar2, 0x20008, 32, 1, 0x4⟩
  | .imgCompiler => ⟨.bar2, 0x2000C, 32, 1, 0x4⟩
  | .imgCount => ⟨.bar2, 0x20010, 32, 1, 0x4⟩
  | .imgMeas => ⟨.bar2, 0x20040, 32, 12, 0x4⟩
  | .imgPolmeas => ⟨.bar2, 0x20080, 32, 12, 0x4⟩
  | .imgErr => ⟨.bar2, 0x200C0, 32, 1, 0x4⟩
  | .panStatus => ⟨.bar2, 0x30000, 32, 48, 0x100⟩
  | .panSite => ⟨.bar2, 0x30004, 32, 48, 0x100⟩
  | .panMem => ⟨.bar2, 0x30008, 32, 48, 0x100⟩
  | .panSpare => ⟨.bar2, 0x3000C, 32, 48, 0x100⟩
  | .panEcc => ⟨.bar2, 0x30010, 32, 48, 0x100⟩
  | .panTrap => ⟨.bar2, 0x30014, 32, 48, 0x100⟩
  | .panErr => ⟨.bar2, 0x3F000, 32, 1, 0x4⟩
  | .chgStatus => ⟨.bar2, 0x40000, 32, 1, 0x4⟩
  | .chgStrayTotal => ⟨.bar2, 0x40004, 32, 1, 0x4⟩
  | .chgSyncCount => ⟨.bar2, 0x40008, 32, 1, 0x4⟩
  | .chgStrayLast => ⟨.bar2, 0x40010, 64, 1, 0x8⟩
  | .chgErr => ⟨.bar2, 0x400F0, 32, 1, 0x4⟩
  | .chgStrayPan => ⟨.bar2, 0x40100, 32, 48, 0x4⟩
  | .stoStatus => ⟨.bar2, 0x50000, 32, 1, 0x4⟩
  | .stoMap => ⟨.bar2, 0x50004, 32, 1, 0x4⟩
  | .stoPcsel => ⟨.bar2, 0x50010, 32, 1, 0x4⟩
  | .stoPc => ⟨.bar2, 0x50014, 32, 1, 0x4⟩
  | .stoPcecc => ⟨.bar2, 0x50018, 64, 1, 0x8⟩
  | .stoRdbytes => ⟨.bar2, 0x50020, 64, 1, 0x8⟩
  | .stoWrbytes => ⟨.bar2, 0x50028, 64, 1, 0x8⟩
  | .stoErr => ⟨.bar2, 0x500F0, 32, 1, 0x4⟩
  | .carQuad => ⟨.bar2, 0x60000, 32, 1, 0x4⟩
  | .carEpoch => ⟨.bar2, 0x60004, 32, 1, 0x4⟩
  | .carLink => ⟨.bar2, 0x60010, 32, 3, 0x4⟩
  | .carLinkctl => ⟨.bar2, 0x60020, 32, 1, 0x4⟩
  | .carReplay => ⟨.bar2, 0x60030, 64, 1, 0x8⟩
  | .carDowns => ⟨.bar2, 0x60038, 32, 1, 0x4⟩
  | .carPosted => ⟨.bar2, 0x60040, 64, 1, 0x8⟩
  | .carPfailLast => ⟨.bar2, 0x60048, 64, 1, 0x8⟩
  | .carDirty => ⟨.bar2, 0x60050, 32, 1, 0x4⟩
  | .carTxbytes => ⟨.bar2, 0x60060, 64, 1, 0x8⟩
  | .carRxbytes => ⟨.bar2, 0x60068, 64, 1, 0x8⟩
  | .carErr => ⟨.bar2, 0x600F0, 32, 1, 0x4⟩
  | .inlPstat => ⟨.bar2, 0x70000, 32, 4, 0x400⟩
  | .inlPctl => ⟨.bar2, 0x70004, 32, 4, 0x400⟩
  | .inlPvid => ⟨.bar2, 0x70008, 32, 4, 0x400⟩
  | .inlUdpport => ⟨.bar2, 0x7000C, 32, 4, 0x400⟩
  | .inlMac => ⟨.bar2, 0x70010, 64, 4, 0x400⟩
  | .inlIpv4 => ⟨.bar2, 0x70018, 32, 4, 0x400⟩
  | .inlIpv60 => ⟨.bar2, 0x70020, 32, 4, 0x400⟩
  | .inlIpv61 => ⟨.bar2, 0x70024, 32, 4, 0x400⟩
  | .inlIpv62 => ⟨.bar2, 0x70028, 32, 4, 0x400⟩
  | .inlIpv63 => ⟨.bar2, 0x7002C, 32, 4, 0x400⟩
  | .inlRetry => ⟨.bar2, 0x70030, 32, 4, 0x400⟩
  | .inlRxFrames => ⟨.bar2, 0x70100, 64, 4, 0x400⟩
  | .inlRxBytes => ⟨.bar2, 0x70108, 64, 4, 0x400⟩
  | .inlTxFrames => ⟨.bar2, 0x70110, 64, 4, 0x400⟩
  | .inlDrop => ⟨.bar2, 0x70120, 64, 4, 0x400⟩
  | .inlReply => ⟨.bar2, 0x70128, 64, 4, 0x400⟩
  | .inlFec => ⟨.bar2, 0x70130, 64, 4, 0x400⟩
  | .inlCtx => ⟨.bar2, 0x71000, 32, 1, 0x4⟩
  | .inlStray => ⟨.bar2, 0x71004, 32, 1, 0x4⟩
  | .inlErr => ⟨.bar2, 0x71008, 32, 1, 0x4⟩
  | .khdStatus => ⟨.bar2, 0x80000, 32, 1, 0x4⟩
  | .khdMask => ⟨.bar2, 0x80004, 32, 1, 0x4⟩
  | .khdFailcnt => ⟨.bar2, 0x80008, 32, 1, 0x4⟩
  | .khdWindows => ⟨.bar2, 0x80010, 64, 1, 0x8⟩
  | .khdCurve => ⟨.bar2, 0x80018, 64, 1, 0x8⟩
  | .khdReject => ⟨.bar2, 0x80020, 32, 1, 0x4⟩
  | .khdRngwait => ⟨.bar2, 0x80024, 32, 1, 0x4⟩
  | .khdEkey => ⟨.bar2, 0x80040, 32, 8, 0x4⟩
  | .khdErr => ⟨.bar2, 0x800F0, 32, 1, 0x4⟩
  | .tocStatus => ⟨.bar2, 0x90000, 32, 1, 0x4⟩
  | .tocCause => ⟨.bar2, 0x90004, 32, 1, 0x4⟩
  | .tocCount => ⟨.bar2, 0x90008, 32, 1, 0x4⟩
  | .tocSense => ⟨.bar2, 0x9000C, 32, 1, 0x4⟩
  | .tocTherm => ⟨.bar2, 0x90010, 32, 1, 0x4⟩
  | .tocErr => ⟨.bar2, 0x900F0, 32, 1, 0x4⟩
  | .rgrEnqA => ⟨.bar2, 0xA0000, 64, 1, 0x8⟩
  | .rgrEnqO => ⟨.bar2, 0xA0008, 64, 1, 0x8⟩
  | .rgrEnqF => ⟨.bar2, 0xA0010, 64, 1, 0x8⟩
  | .rgrRefuse => ⟨.bar2, 0xA0018, 64, 1, 0x8⟩
  | .rgrDispatch => ⟨.bar2, 0xA0020, 64, 1, 0x8⟩
  | .rgrMiss => ⟨.bar2, 0xA0028, 64, 1, 0x8⟩
  | .rgrErr => ⟨.bar2, 0xA0040, 32, 1, 0x4⟩
  | .sweepCtl => ⟨.bar2, 0xB0000, 32, 1, 0x4⟩
  | .sweepStatus => ⟨.bar2, 0xB0004, 32, 1, 0x4⟩
  | .sweepPos => ⟨.bar2, 0xB0008, 32, 1, 0x4⟩
  | .sweepPasses => ⟨.bar2, 0xB0010, 64, 1, 0x8⟩
  | .sweepLast => ⟨.bar2, 0xB0018, 64, 1, 0x8⟩
  | .bistCount => ⟨.bar2, 0xB0020, 64, 1, 0x8⟩
  | .kstStatus => ⟨.bar2, 0xB0028, 64, 1, 0x8⟩
  | .bistErr => ⟨.bar2, 0xB00F0, 32, 1, 0x4⟩
  | .errClass => ⟨.bar2, 0xC0000, 32, 4, 0x4⟩
  | .errLogHead => ⟨.bar2, 0xC0010, 32, 1, 0x4⟩
  | .errUsel => ⟨.bar2, 0xC0020, 32, 1, 0x4⟩
  | .errUcnt => ⟨.bar2, 0xC0028, 64, 1, 0x8⟩
  | .errErr => ⟨.bar2, 0xC00F0, 32, 1, 0x4⟩
  | .dbgState => ⟨.bar2, 0xE0000, 32, 1, 0x4⟩
  | .dbgSel => ⟨.bar2, 0xE0004, 32, 1, 0x4⟩
  | .dbgAddr => ⟨.bar2, 0xE0008, 64, 1, 0x8⟩
  | .dbgCmd => ⟨.bar2, 0xE0010, 32, 1, 0x4⟩
  | .dbgStat => ⟨.bar2, 0xE0014, 32, 1, 0x4⟩
  | .dbgData => ⟨.bar2, 0xE0018, 64, 1, 0x8⟩
  | .dbgRoute => ⟨.bar2, 0xE0020, 64, 1, 0x8⟩
  | .dbgPcnt => ⟨.bar2, 0xE0040, 64, 4, 0x8⟩
  | .dbgErr => ⟨.bar2, 0xE00F0, 32, 1, 0x4⟩
  | .hcxState => ⟨.bar0, 0x0, 32, 1, 0x4⟩
  | .hcxHid => ⟨.bar0, 0x10, 32, 4, 0x4⟩
  | .hcxCmd => ⟨.bar0, 0x20, 32, 1, 0x4⟩
  | .hcxErr => ⟨.bar0, 0xF0, 32, 1, 0x4⟩
  | .mbDoorbell => ⟨.bar0, 0x401000, 32, 1, 0x4⟩
  | .mbExpect => ⟨.bar0, 0x401004, 32, 1, 0x4⟩
  | .mbResend => ⟨.bar0, 0x401008, 32, 1, 0x4⟩
  | .mbStatus => ⟨.bar0, 0x40100C, 32, 1, 0x4⟩
  | .mbDamaged => ⟨.bar0, 0x401010, 64, 1, 0x8⟩
  | .mbLost => ⟨.bar0, 0x401018, 32, 1, 0x4⟩
  | .rwState => ⟨.bar0, 0xC00000, 32, 1, 0x4⟩
  | .rwResultLen => ⟨.bar0, 0xC00008, 64, 1, 0x8⟩
  | .rwCertLen => ⟨.bar0, 0xC00010, 32, 1, 0x4⟩
  | .rwDigest => ⟨.bar0, 0xC00040, 32, 12, 0x4⟩
  | .qCtl => ⟨.queue, 0x0, 32, 1, 0x4⟩
  | .qOp => ⟨.queue, 0x4, 32, 1, 0x4⟩
  | .qOpstat => ⟨.queue, 0x8, 32, 1, 0x4⟩
  | .qLost => ⟨.queue, 0xC, 32, 1, 0x4⟩
  | .qEvt => ⟨.queue, 0x10, 32, 1, 0x4⟩
  | .qSeq => ⟨.queue, 0x14, 32, 1, 0x4⟩
  | .qErr => ⟨.queue, 0x18, 32, 1, 0x4⟩
  | .bqpStat => ⟨.stew, 0x1E000040, 32, 7, 0x100⟩
  | .bqpLost => ⟨.stew, 0x1E000044, 32, 7, 0x100⟩
  | .bqpNextseq => ⟨.stew, 0x1E000048, 32, 7, 0x100⟩
  | .rngCur => ⟨.stew, 0x1F000000, 32, 4, 0x1000⟩
  | .rngHead => ⟨.stew, 0x1F000004, 32, 4, 0x1000⟩
  | .rngArg => ⟨.stew, 0x1F000008, 64, 4, 0x1000⟩
  | .rngCmd => ⟨.stew, 0x1F000010, 32, 4, 0x1000⟩
  | .rngRes => ⟨.stew, 0x1F000018, 64, 4, 0x1000⟩
  | .rngBudget => ⟨.stew, 0x1F008000, 32, 3, 0x4⟩
  | .rngQfill => ⟨.stew, 0x1F008010, 64, 1, 0x8⟩
  | .rngMiss => ⟨.stew, 0x1F008018, 64, 1, 0x8⟩
  | .rngErr => ⟨.stew, 0x1F008020, 32, 1, 0x4⟩

/-- The fields of each register, highest bits first (register tables of the spec). -/
def regFields : Reg → List RegField
  | .devId =>
    [⟨31, 16, .ro, 16640, []⟩, ⟨15, 8, .ro, 160, []⟩, ⟨7, 0, .ro, 1, []⟩]
  | .devIdcode =>
    [⟨31, 0, .ro, 68160669, []⟩]
  | .devState =>
    [⟨31, 5, .rsv, 0, []⟩, ⟨4, 4, .ro, 0, []⟩, ⟨3, 0, .ro, 1, []⟩]
  | .devBoot =>
    [⟨31, 23, .rsv, 0, []⟩, ⟨22, 21, .ro, 0, []⟩, ⟨20, 20, .ro, 0, []⟩,
     ⟨19, 16, .ro, 0, []⟩, ⟨15, 14, .rsv, 0, []⟩, ⟨13, 13, .ro, 0, []⟩,
     ⟨12, 12, .ro, 0, []⟩, ⟨11, 11, .ro, 0, []⟩, ⟨10, 10, .ro, 0, []⟩,
     ⟨9, 9, .ro, 0, []⟩, ⟨8, 8, .ro, 0, []⟩, ⟨7, 0, .ro, 0, []⟩]
  | .devBootTime =>
    [⟨31, 0, .ro, 0, []⟩]
  | .devResetCause =>
    [⟨31, 8, .rsv, 0, []⟩, ⟨7, 7, .w1c, 0, []⟩, ⟨6, 6, .w1c, 0, []⟩,
     ⟨5, 5, .w1c, 0, []⟩, ⟨4, 4, .w1c, 0, []⟩, ⟨3, 3, .w1c, 0, []⟩,
     ⟨2, 2, .w1c, 0, []⟩, ⟨1, 1, .w1c, 0, []⟩, ⟨0, 0, .w1c, 0, []⟩]
  | .devErr =>
    [⟨31, 2, .rsv, 0, []⟩, ⟨1, 1, .w1c, 0, []⟩, ⟨0, 0, .w1c, 0, []⟩]
  | .govCtl =>
    [⟨31, 2, .rsv, 0, []⟩, ⟨1, 1, .rw, 0, []⟩, ⟨0, 0, .rw, 1, []⟩]
  | .govCap =>
    [⟨31, 7, .rsv, 0, []⟩, ⟨6, 0, .rw, 80, [(30, 80)]⟩]
  | .govVlimit =>
    [⟨31, 16, .rsv, 0, []⟩, ⟨15, 8, .rw, 170, [(110, 170)]⟩, ⟨7, 0, .rw, 110, [(110, 170)]⟩]
  | .govVfixed =>
    [⟨31, 8, .rsv, 0, []⟩, ⟨7, 0, .rw, 140, [(110, 170)]⟩]
  | .govStatus =>
    [⟨31, 14, .rsv, 0, []⟩, ⟨13, 13, .ro, 0, []⟩, ⟨12, 12, .ro, 0, []⟩,
     ⟨11, 11, .ro, 0, []⟩, ⟨10, 10, .ro, 0, []⟩, ⟨9, 8, .ro, 0, []⟩,
     ⟨7, 0, .ro, 140, []⟩]
  | .cadReading =>
    [⟨31, 24, .rsv, 0, []⟩, ⟨23, 16, .ro, 0, []⟩, ⟨15, 10, .rsv, 0, []⟩,
     ⟨9, 0, .ro, 0, []⟩]
  | .cadCadence =>
    [⟨31, 12, .rsv, 0, []⟩, ⟨11, 0, .ro, 0, []⟩]
  | .cadEvt =>
    [⟨31, 4, .rsv, 0, []⟩, ⟨3, 3, .w1c, 0, []⟩, ⟨2, 2, .w1c, 0, []⟩,
     ⟨1, 1, .w1c, 0, []⟩, ⟨0, 0, .w1c, 0, []⟩]
  | .cadErr =>
    [⟨31, 4, .rsv, 0, []⟩, ⟨3, 3, .w1c, 0, []⟩, ⟨2, 2, .w1c, 0, []⟩,
     ⟨1, 1, .w1c, 0, []⟩, ⟨0, 0, .w1c, 0, []⟩]
  | .tollCount =>
    [⟨63, 0, .ro, 0, []⟩]
  | .trimSel =>
    [⟨31, 11, .rsv, 0, []⟩, ⟨10, 8, .rw, 0, [(0, 4)]⟩, ⟨7, 0, .rw, 0, [(0, 47)]⟩]
  | .trimVal =>
    [⟨31, 22, .rsv, 0, []⟩, ⟨21, 16, .ro, 0, []⟩, ⟨15, 14, .rsv, 0, []⟩,
     ⟨13, 8, .ro, 0, []⟩, ⟨7, 6, .rsv, 0, []⟩, ⟨5, 0, .ro, 0, []⟩]
  | .imgState =>
    [⟨31, 12, .rsv, 0, []⟩, ⟨11, 8, .ro, 0, []⟩, ⟨7, 4, .ro, 0, []⟩,
     ⟨3, 0, .ro, 0, []⟩]
  | .imgStatus =>
    [⟨31, 24, .ro, 255, []⟩, ⟨23, 16, .ro, 0, []⟩, ⟨15, 0, .ro, 0, []⟩]
  | .imgVersion =>
    [⟨31, 0, .ro, 0, []⟩]
  | .imgCompiler =>
    [⟨31, 0, .ro, 0, []⟩]
  | .imgCount =>
    [⟨31, 16, .ro, 0, []⟩, ⟨15, 0, .ro, 0, []⟩]
  | .imgMeas =>
    [⟨31, 0, .ro, 0, []⟩]
  | .imgPolmeas =>
    [⟨31, 0, .ro, 0, []⟩]
  | .imgErr =>
    [⟨31, 2, .rsv, 0, []⟩, ⟨1, 1, .w1c, 0, []⟩, ⟨0, 0, .w1c, 0, []⟩]
  | .panStatus =>
    [⟨31, 13, .rsv, 0, []⟩, ⟨12, 12, .ro, 0, []⟩, ⟨11, 8, .ro, 15, []⟩,
     ⟨7, 4, .rsv, 0, []⟩, ⟨3, 0, .ro, 0, []⟩]
  | .panSite =>
    [⟨31, 14, .rsv, 0, []⟩, ⟨13, 8, .ro, 0, []⟩, ⟨7, 4, .ro, 0, []⟩,
     ⟨3, 3, .rsv, 0, []⟩, ⟨2, 0, .ro, 0, []⟩]
  | .panMem =>
    [⟨31, 25, .rsv, 0, []⟩, ⟨24, 16, .ro, 0, []⟩, ⟨15, 9, .rsv, 0, []⟩,
     ⟨8, 0, .ro, 384, []⟩]
  | .panSpare =>
    [⟨31, 12, .rsv, 0, []⟩, ⟨11, 0, .ro, 3072, []⟩]
  | .panEcc =>
    [⟨31, 16, .rc, 0, []⟩, ⟨15, 0, .rc, 0, []⟩]
  | .panTrap =>
    [⟨31, 30, .rsv, 0, []⟩, ⟨29, 16, .ro, 0, []⟩, ⟨15, 0, .ro, 0, []⟩]
  | .panErr =>
    [⟨31, 2, .rsv, 0, []⟩, ⟨1, 1, .w1c, 0, []⟩, ⟨0, 0, .w1c, 0, []⟩]
  | .chgStatus =>
    [⟨31, 1, .rsv, 0, []⟩, ⟨0, 0, .ro, 0, []⟩]
  | .chgStrayTotal =>
    [⟨31, 0, .rc, 0, []⟩]
  | .chgSyncCount =>
    [⟨31, 0, .ro, 0, []⟩]
  | .chgStrayLast =>
    [⟨63, 56, .ro, 0, []⟩, ⟨55, 48, .ro, 255, []⟩, ⟨47, 42, .ro, 0, []⟩,
     ⟨41, 40, .rsv, 0, []⟩, ⟨39, 32, .ro, 0, []⟩, ⟨31, 26, .ro, 0, []⟩,
     ⟨25, 0, .ro, 0, []⟩]
  | .chgErr =>
    [⟨31, 2, .rsv, 0, []⟩, ⟨1, 1, .w1c, 0, []⟩, ⟨0, 0, .w1c, 0, []⟩]
  | .chgStrayPan =>
    [⟨31, 16, .rsv, 0, []⟩, ⟨15, 0, .rc, 0, []⟩]
  | .stoStatus =>
    [⟨31, 12, .rsv, 0, []⟩, ⟨11, 8, .ro, 0, []⟩, ⟨7, 6, .ro, 0, []⟩,
     ⟨5, 5, .ro, 0, []⟩, ⟨4, 4, .ro, 0, []⟩, ⟨3, 0, .ro, 0, []⟩]
  | .stoMap =>
    [⟨31, 20, .rsv, 0, []⟩, ⟨19, 8, .ro, 0, []⟩, ⟨7, 0, .ro, 0, []⟩]
  | .stoPcsel =>
    [⟨31, 7, .rsv, 0, []⟩, ⟨6, 0, .rw, 0, []⟩]
  | .stoPc =>
    [⟨31, 12, .rsv, 0, []⟩, ⟨11, 8, .ro, 0, []⟩, ⟨7, 3, .rsv, 0, []⟩,
     ⟨2, 0, .ro, 0, []⟩]
  | .stoPcecc =>
    [⟨63, 48, .rc, 0, []⟩, ⟨47, 32, .rc, 0, []⟩, ⟨31, 0, .rc, 0, []⟩]
  | .stoRdbytes =>
    [⟨63, 0, .ro, 0, []⟩]
  | .stoWrbytes =>
    [⟨63, 0, .ro, 0, []⟩]
  | .stoErr =>
    [⟨31, 3, .rsv, 0, []⟩, ⟨2, 2, .w1c, 0, []⟩, ⟨1, 1, .w1c, 0, []⟩,
     ⟨0, 0, .w1c, 0, []⟩]
  | .carQuad =>
    [⟨31, 16, .rsv, 0, []⟩, ⟨15, 12, .ro, 0, []⟩, ⟨11, 8, .ro, 0, []⟩,
     ⟨7, 6, .ro, 0, []⟩, ⟨5, 4, .ro, 0, []⟩, ⟨3, 3, .rsv, 0, []⟩,
     ⟨2, 2, .ro, 0, []⟩, ⟨1, 1, .ro, 0, []⟩, ⟨0, 0, .ro, 0, []⟩]
  | .carEpoch =>
    [⟨31, 0, .ro, 0, []⟩]
  | .carLink =>
    [⟨31, 12, .rsv, 0, []⟩, ⟨11, 8, .ro, 0, []⟩, ⟨7, 7, .ro, 0, []⟩,
     ⟨6, 6, .ro, 0, []⟩, ⟨5, 4, .ro, 0, []⟩, ⟨3, 2, .rsv, 0, []⟩,
     ⟨1, 0, .ro, 0, []⟩]
  | .carLinkctl =>
    [⟨31, 3, .rsv, 0, []⟩, ⟨2, 0, .rw, 7, []⟩]
  | .carReplay =>
    [⟨63, 48, .rsv, 0, []⟩, ⟨47, 32, .rc, 0, []⟩, ⟨31, 16, .rc, 0, []⟩,
     ⟨15, 0, .rc, 0, []⟩]
  | .carDowns =>
    [⟨31, 24, .rsv, 0, []⟩, ⟨23, 16, .rc, 0, []⟩, ⟨15, 8, .rc, 0, []⟩,
     ⟨7, 0, .rc, 0, []⟩]
  | .carPosted =>
    [⟨63, 32, .rc, 0, []⟩, ⟨31, 0, .rc, 0, []⟩]
  | .carPfailLast =>
    [⟨63, 32, .ro, 0, []⟩, ⟨31, 30, .ro, 0, []⟩, ⟨29, 28, .ro, 0, []⟩,
     ⟨27, 0, .ro, 0, []⟩]
  | .carDirty =>
    [⟨31, 1, .rsv, 0, []⟩, ⟨0, 0, .ro, 0, []⟩]
  | .carTxbytes =>
    [⟨63, 0, .ro, 0, []⟩]
  | .carRxbytes =>
    [⟨63, 0, .ro, 0, []⟩]
  | .carErr =>
    [⟨31, 3, .rsv, 0, []⟩, ⟨2, 2, .w1c, 0, []⟩, ⟨1, 1, .w1c, 0, []⟩,
     ⟨0, 0, .w1c, 0, []⟩]
  | .inlPstat =>
    [⟨31, 4, .rsv, 0, []⟩, ⟨3, 3, .ro, 0, []⟩, ⟨2, 2, .ro, 0, []⟩,
     ⟨1, 1, .ro, 0, []⟩, ⟨0, 0, .ro, 0, []⟩]
  | .inlPctl =>
    [⟨31, 3, .rsv, 0, []⟩, ⟨2, 2, .rw, 1, []⟩, ⟨1, 1, .rw, 1, []⟩,
     ⟨0, 0, .rw, 1, []⟩]
  | .inlPvid =>
    [⟨31, 13, .rsv, 0, []⟩, ⟨12, 12, .rw, 0, []⟩, ⟨11, 0, .rw, 0, [(0, 4094)]⟩]
  | .inlUdpport =>
    [⟨31, 16, .rsv, 0, []⟩, ⟨15, 0, .rw, 41000, [(1, 65535)]⟩]
  | .inlMac =>
    [⟨63, 48, .rsv, 0, []⟩, ⟨47, 0, .rw, 0, []⟩]
  | .inlIpv4 =>
    [⟨31, 0, .rw, 0, []⟩]
  | .inlIpv60 =>
    [⟨31, 0, .rw, 0, []⟩]
  | .inlIpv61 =>
    [⟨31, 0, .rw, 0, []⟩]
  | .inlIpv62 =>
    [⟨31, 0, .rw, 0, []⟩]
  | .inlIpv63 =>
    [⟨31, 0, .rw, 0, []⟩]
  | .inlRetry =>
    [⟨31, 16, .rw, 1000, []⟩, ⟨15, 0, .rw, 5, [(1, 65535)]⟩]
  | .inlRxFrames =>
    [⟨63, 0, .ro, 0, []⟩]
  | .inlRxBytes =>
    [⟨63, 0, .ro, 0, []⟩]
  | .inlTxFrames =>
    [⟨63, 0, .ro, 0, []⟩]
  | .inlDrop =>
    [⟨63, 48, .rc, 0, []⟩, ⟨47, 32, .rc, 0, []⟩, ⟨31, 16, .rc, 0, []⟩,
     ⟨15, 0, .rc, 0, []⟩]
  | .inlReply =>
    [⟨63, 32, .rc, 0, []⟩, ⟨31, 0, .rc, 0, []⟩]
  | .inlFec =>
    [⟨63, 32, .rc, 0, []⟩, ⟨31, 0, .rc, 0, []⟩]
  | .inlCtx =>
    [⟨31, 17, .rsv, 0, []⟩, ⟨16, 0, .ro, 0, []⟩]
  | .inlStray =>
    [⟨31, 0, .rc, 0, []⟩]
  | .inlErr =>
    [⟨31, 3, .rsv, 0, []⟩, ⟨2, 2, .w1c, 0, []⟩, ⟨1, 1, .w1c, 0, []⟩,
     ⟨0, 0, .w1c, 0, []⟩]
  | .khdStatus =>
    [⟨31, 8, .rsv, 0, []⟩, ⟨7, 6, .ro, 0, []⟩, ⟨5, 5, .ro, 0, []⟩,
     ⟨4, 4, .ro, 0, []⟩, ⟨3, 3, .ro, 0, []⟩, ⟨2, 2, .ro, 0, []⟩,
     ⟨1, 1, .ro, 0, []⟩, ⟨0, 0, .rsv, 0, []⟩]
  | .khdMask =>
    [⟨31, 7, .rsv, 0, []⟩, ⟨6, 0, .rw, 4, [(1, 64)]⟩]
  | .khdFailcnt =>
    [⟨31, 0, .ro, 0, []⟩]
  | .khdWindows =>
    [⟨63, 0, .ro, 0, []⟩]
  | .khdCurve =>
    [⟨63, 32, .ro, 0, []⟩, ⟨31, 0, .ro, 0, []⟩]
  | .khdReject =>
    [⟨31, 16, .rc, 0, []⟩, ⟨15, 0, .rc, 0, []⟩]
  | .khdRngwait =>
    [⟨31, 0, .rc, 0, []⟩]
  | .khdEkey =>
    [⟨31, 0, .ro, 0, []⟩]
  | .khdErr =>
    [⟨31, 3, .rsv, 0, []⟩, ⟨2, 2, .w1c, 0, []⟩, ⟨1, 1, .w1c, 0, []⟩,
     ⟨0, 0, .w1c, 0, []⟩]
  | .tocStatus =>
    [⟨31, 6, .rsv, 0, []⟩, ⟨5, 5, .ro, 0, []⟩, ⟨4, 4, .ro, 0, []⟩,
     ⟨3, 3, .ro, 0, []⟩, ⟨2, 2, .ro, 0, []⟩, ⟨1, 1, .ro, 0, []⟩,
     ⟨0, 0, .ro, 0, []⟩]
  | .tocCause =>
    [⟨31, 12, .rsv, 0, []⟩, ⟨11, 8, .ro, 0, []⟩, ⟨7, 0, .ro, 0, []⟩]
  | .tocCount =>
    [⟨31, 13, .rsv, 0, []⟩, ⟨12, 0, .ro, 0, []⟩]
  | .tocSense =>
    [⟨31, 4, .rsv, 0, []⟩, ⟨3, 3, .ro, 0, []⟩, ⟨2, 2, .ro, 0, []⟩,
     ⟨1, 1, .ro, 0, []⟩, ⟨0, 0, .ro, 0, []⟩]
  | .tocTherm =>
    [⟨31, 2, .rsv, 0, []⟩, ⟨1, 1, .w1c, 0, []⟩, ⟨0, 0, .w1c, 0, []⟩]
  | .tocErr =>
    [⟨31, 3, .rsv, 0, []⟩, ⟨2, 2, .w1c, 0, []⟩, ⟨1, 1, .w1c, 0, []⟩,
     ⟨0, 0, .w1c, 0, []⟩]
  | .rgrEnqA =>
    [⟨63, 0, .ro, 0, []⟩]
  | .rgrEnqO =>
    [⟨63, 0, .ro, 0, []⟩]
  | .rgrEnqF =>
    [⟨63, 0, .ro, 0, []⟩]
  | .rgrRefuse =>
    [⟨63, 0, .ro, 0, []⟩]
  | .rgrDispatch =>
    [⟨63, 0, .ro, 0, []⟩]
  | .rgrMiss =>
    [⟨63, 0, .ro, 0, []⟩]
  | .rgrErr =>
    [⟨31, 2, .rsv, 0, []⟩, ⟨1, 1, .w1c, 0, []⟩, ⟨0, 0, .w1c, 0, []⟩]
  | .sweepCtl =>
    [⟨31, 10, .rsv, 0, []⟩, ⟨9, 0, .rw, 50, [(10, 1000)]⟩]
  | .sweepStatus =>
    [⟨31, 20, .rsv, 0, []⟩, ⟨19, 19, .ro, 0, []⟩, ⟨18, 18, .ro, 0, []⟩,
     ⟨17, 17, .ro, 0, []⟩, ⟨16, 16, .ro, 0, []⟩, ⟨15, 15, .ro, 0, []⟩,
     ⟨14, 6, .ro, 0, []⟩, ⟨5, 0, .ro, 0, []⟩]
  | .sweepPos =>
    [⟨31, 15, .rsv, 0, []⟩, ⟨14, 0, .ro, 0, []⟩]
  | .sweepPasses =>
    [⟨63, 0, .ro, 0, []⟩]
  | .sweepLast =>
    [⟨63, 56, .ro, 0, []⟩, ⟨55, 48, .ro, 0, []⟩, ⟨47, 39, .ro, 0, []⟩,
     ⟨38, 29, .ro, 0, []⟩, ⟨28, 27, .ro, 0, []⟩, ⟨26, 20, .ro, 0, []⟩,
     ⟨19, 0, .rsv, 0, []⟩]
  | .bistCount =>
    [⟨63, 48, .ro, 0, []⟩, ⟨47, 32, .ro, 0, []⟩, ⟨31, 0, .ro, 0, []⟩]
  | .kstStatus =>
    [⟨63, 48, .rsv, 0, []⟩, ⟨47, 0, .ro, 0, []⟩]
  | .bistErr =>
    [⟨31, 3, .rsv, 0, []⟩, ⟨2, 2, .w1c, 0, []⟩, ⟨1, 1, .w1c, 0, []⟩,
     ⟨0, 0, .w1c, 0, []⟩]
  | .errClass =>
    [⟨31, 0, .ro, 0, []⟩]
  | .errLogHead =>
    [⟨31, 0, .ro, 0, []⟩]
  | .errUsel =>
    [⟨31, 16, .rsv, 0, []⟩, ⟨15, 8, .rw, 1, [(1, 4), (6, 6)]⟩, ⟨7, 0, .rw, 0, []⟩]
  | .errUcnt =>
    [⟨63, 32, .ro, 0, []⟩, ⟨31, 0, .ro, 0, []⟩]
  | .errErr =>
    [⟨31, 3, .rsv, 0, []⟩, ⟨2, 2, .w1c, 0, []⟩, ⟨1, 1, .w1c, 0, []⟩,
     ⟨0, 0, .w1c, 0, []⟩]
  | .dbgState =>
    [⟨31, 9, .rsv, 0, []⟩, ⟨8, 8, .ro, 0, []⟩, ⟨7, 5, .rsv, 0, []⟩,
     ⟨4, 0, .ro, 0, []⟩]
  | .dbgSel =>
    [⟨31, 9, .rsv, 0, []⟩, ⟨8, 8, .rw, 0, []⟩, ⟨7, 6, .rsv, 0, []⟩,
     ⟨5, 0, .rw, 0, [(0, 47)]⟩]
  | .dbgAddr =>
    [⟨63, 0, .rw, 0, []⟩]
  | .dbgCmd =>
    [⟨31, 14, .rsv, 0, []⟩, ⟨13, 8, .wo, 0, []⟩, ⟨7, 3, .rsv, 0, []⟩,
     ⟨2, 0, .wo, 0, [(1, 5)]⟩]
  | .dbgStat =>
    [⟨31, 17, .rsv, 0, []⟩, ⟨16, 16, .ro, 0, []⟩, ⟨15, 0, .ro, 0, []⟩]
  | .dbgData =>
    [⟨63, 0, .ro, 0, []⟩]
  | .dbgRoute =>
    [⟨63, 0, .rw, 0, []⟩]
  | .dbgPcnt =>
    [⟨63, 0, .ro, 0, []⟩]
  | .dbgErr =>
    [⟨31, 2, .rsv, 0, []⟩, ⟨1, 1, .w1c, 0, []⟩, ⟨0, 0, .w1c, 0, []⟩]
  | .hcxState =>
    [⟨31, 16, .ro, 0, []⟩, ⟨15, 8, .rsv, 0, []⟩, ⟨7, 7, .ro, 0, []⟩,
     ⟨6, 6, .ro, 0, []⟩, ⟨5, 5, .ro, 0, []⟩, ⟨4, 4, .ro, 0, []⟩,
     ⟨3, 0, .ro, 0, []⟩]
  | .hcxHid =>
    [⟨31, 0, .ro, 0, []⟩]
  | .hcxCmd =>
    [⟨31, 18, .rsv, 0, []⟩, ⟨17, 17, .ro, 0, []⟩, ⟨16, 16, .ro, 0, []⟩,
     ⟨15, 9, .rsv, 0, []⟩, ⟨8, 8, .ro, 0, []⟩, ⟨7, 0, .ro, 0, []⟩]
  | .hcxErr =>
    [⟨31, 5, .rsv, 0, []⟩, ⟨4, 4, .w1c, 0, []⟩, ⟨3, 3, .w1c, 0, []⟩,
     ⟨2, 2, .w1c, 0, []⟩, ⟨1, 1, .w1c, 0, []⟩, ⟨0, 0, .w1c, 0, []⟩]
  | .mbDoorbell =>
    [⟨31, 0, .wo, 0, []⟩]
  | .mbExpect =>
    [⟨31, 0, .ro, 0, []⟩]
  | .mbResend =>
    [⟨31, 0, .wo, 0, []⟩]
  | .mbStatus =>
    [⟨31, 1, .rsv, 0, []⟩, ⟨0, 0, .ro, 0, []⟩]
  | .mbDamaged =>
    [⟨63, 0, .ro, 0, []⟩]
  | .mbLost =>
    [⟨31, 0, .rc, 0, []⟩]
  | .rwState =>
    [⟨31, 2, .rsv, 0, []⟩, ⟨1, 1, .ro, 0, []⟩, ⟨0, 0, .ro, 0, []⟩]
  | .rwResultLen =>
    [⟨63, 0, .ro, 0, []⟩]
  | .rwCertLen =>
    [⟨31, 0, .ro, 0, []⟩]
  | .rwDigest =>
    [⟨31, 0, .ro, 0, []⟩]
  | .qCtl =>
    [⟨31, 31, .rw, 1, []⟩, ⟨30, 17, .rsv, 0, []⟩, ⟨16, 16, .rw, 0, []⟩,
     ⟨15, 0, .rw, 0, []⟩]
  | .qOp =>
    [⟨31, 3, .rsv, 0, []⟩, ⟨2, 0, .wo, 0, [(0, 4)]⟩]
  | .qOpstat =>
    [⟨31, 16, .ro, 0, []⟩, ⟨15, 0, .ro, 0, []⟩]
  | .qLost =>
    [⟨31, 0, .rc, 0, []⟩]
  | .qEvt =>
    [⟨31, 3, .rsv, 0, []⟩, ⟨2, 2, .w1c, 0, []⟩, ⟨1, 1, .w1c, 0, []⟩,
     ⟨0, 0, .w1c, 0, []⟩]
  | .qSeq =>
    [⟨31, 0, .ro, 0, []⟩]
  | .qErr =>
    [⟨31, 2, .rsv, 0, []⟩, ⟨1, 1, .w1c, 0, []⟩, ⟨0, 0, .w1c, 0, []⟩]
  | .bqpStat =>
    [⟨31, 16, .ro, 0, []⟩, ⟨15, 2, .rsv, 0, []⟩, ⟨1, 1, .ro, 0, []⟩,
     ⟨0, 0, .ro, 0, []⟩]
  | .bqpLost =>
    [⟨31, 0, .ro, 0, []⟩]
  | .bqpNextseq =>
    [⟨31, 0, .ro, 1, []⟩]
  | .rngCur =>
    [⟨31, 9, .rsv, 0, []⟩, ⟨8, 8, .ro, 0, []⟩, ⟨7, 0, .ro, 0, []⟩]
  | .rngHead =>
    [⟨31, 9, .rsv, 0, []⟩, ⟨8, 8, .ro, 0, []⟩, ⟨7, 0, .ro, 0, []⟩]
  | .rngArg =>
    [⟨63, 0, .rw, 0, []⟩]
  | .rngCmd =>
    [⟨31, 28, .wo, 0, [(1, 7)]⟩, ⟨27, 8, .rsv, 0, []⟩, ⟨7, 0, .wo, 0, []⟩]
  | .rngRes =>
    [⟨63, 48, .ro, 0, []⟩, ⟨47, 32, .rsv, 0, []⟩, ⟨31, 0, .ro, 0, []⟩]
  | .rngBudget =>
    [⟨31, 0, .rw, 1000, []⟩]
  | .rngQfill =>
    [⟨63, 48, .rsv, 0, []⟩, ⟨47, 32, .ro, 0, []⟩, ⟨31, 16, .ro, 0, []⟩,
     ⟨15, 0, .ro, 0, []⟩]
  | .rngMiss =>
    [⟨63, 0, .ro, 0, []⟩]
  | .rngErr =>
    [⟨31, 2, .rsv, 0, []⟩, ⟨1, 1, .w1c, 0, []⟩, ⟨0, 0, .w1c, 0, []⟩]

/-- Every register, in the order of the map. -/
def allRegs : List Reg :=
  [.devId, .devIdcode, .devState, .devBoot, .devBootTime, .devResetCause, .devErr, .govCtl,
   .govCap, .govVlimit, .govVfixed, .govStatus, .cadReading, .cadCadence, .cadEvt, .cadErr,
   .tollCount, .trimSel, .trimVal, .imgState, .imgStatus, .imgVersion, .imgCompiler, .imgCount,
   .imgMeas, .imgPolmeas, .imgErr, .panStatus, .panSite, .panMem, .panSpare, .panEcc,
   .panTrap, .panErr, .chgStatus, .chgStrayTotal, .chgSyncCount, .chgStrayLast, .chgErr, .chgStrayPan,
   .stoStatus, .stoMap, .stoPcsel, .stoPc, .stoPcecc, .stoRdbytes, .stoWrbytes, .stoErr,
   .carQuad, .carEpoch, .carLink, .carLinkctl, .carReplay, .carDowns, .carPosted, .carPfailLast,
   .carDirty, .carTxbytes, .carRxbytes, .carErr, .inlPstat, .inlPctl, .inlPvid, .inlUdpport,
   .inlMac, .inlIpv4, .inlIpv60, .inlIpv61, .inlIpv62, .inlIpv63, .inlRetry, .inlRxFrames,
   .inlRxBytes, .inlTxFrames, .inlDrop, .inlReply, .inlFec, .inlCtx, .inlStray, .inlErr,
   .khdStatus, .khdMask, .khdFailcnt, .khdWindows, .khdCurve, .khdReject, .khdRngwait, .khdEkey,
   .khdErr, .tocStatus, .tocCause, .tocCount, .tocSense, .tocTherm, .tocErr, .rgrEnqA,
   .rgrEnqO, .rgrEnqF, .rgrRefuse, .rgrDispatch, .rgrMiss, .rgrErr, .sweepCtl, .sweepStatus,
   .sweepPos, .sweepPasses, .sweepLast, .bistCount, .kstStatus, .bistErr, .errClass, .errLogHead,
   .errUsel, .errUcnt, .errErr, .dbgState, .dbgSel, .dbgAddr, .dbgCmd, .dbgStat,
   .dbgData, .dbgRoute, .dbgPcnt, .dbgErr, .hcxState, .hcxHid, .hcxCmd, .hcxErr,
   .mbDoorbell, .mbExpect, .mbResend, .mbStatus, .mbDamaged, .mbLost, .rwState, .rwResultLen,
   .rwCertLen, .rwDigest, .qCtl, .qOp, .qOpstat, .qLost, .qEvt, .qSeq,
   .qErr, .bqpStat, .bqpLost, .bqpNextseq, .rngCur, .rngHead, .rngArg, .rngCmd,
   .rngRes, .rngBudget, .rngQfill, .rngMiss, .rngErr]

end Sys2Proof.Machine
end

