-- ==== Sys2Proof/Machine/Ops.lean ====
section
/-! DEFINITION. The named operations over the state that every family shares: parts of the state by number, the register
store, what leaves the device, free values, queue items and events (QUE), faults and their log (FLT). -/
namespace Sys2Proof.Machine

open Sys2Proof

/-! ### Parts of the state by number -/

/-- Pan `p`. -/
def State.pan (s : State) (p : Nat) : Pan := s.pans.getD p {}

/-- Pan `p` changed by `f`. -/
def State.updPan (s : State) (p : Nat) (f : Pan → Pan) : State := { s with pans := updAt s.pans p f }

/-- Context `c`. -/
def State.ctx (s : State) (c : Nat) : Ctx := s.ctxs.getD c {}

/-- Context `c` changed by `f`. -/
def State.updCtx (s : State) (c : Nat) (f : Ctx → Ctx) : State := { s with ctxs := updAt s.ctxs c f }

/-- Function `n`. -/
def State.fn (s : State) (n : Nat) : Fn := s.fns.getD n {}

/-- Function `n` changed by `f`. -/
def State.updFn (s : State) (n : Nat) (f : Fn → Fn) : State := { s with fns := updAt s.fns n f }

/-- Brine queue `q` (Table QUE-1). -/
def State.queue (s : State) (q : Nat) : BQueue := s.queues.getD q {}

/-- Brine queue `q` changed by `f`. -/
def State.updQueue (s : State) (q : Nat) (f : BQueue → BQueue) : State := { s with queues := updAt s.queues q f }

/-- Inlet port `q`. -/
def State.port (s : State) (q : Nat) : Port := s.inlets.ports.getD q {}

/-- Inlet port `q` changed by `f`. -/
def State.updPort (s : State) (q : Nat) (f : Port → Port) : State :=
  { s with inlets := { s.inlets with ports := updAt s.inlets.ports q f } }

/-- Carillon link `k`. -/
def State.link (s : State) (k : Nat) : CarLink := s.car.links.getD k {}

/-- Carillon link `k` changed by `f`. -/
def State.updLink (s : State) (k : Nat) (f : CarLink → CarLink) : State :=
  { s with car := { s.car with links := updAt s.car.links k f } }

/-- Pseudo-channel `i`. -/
def State.pc (s : State) (i : Nat) : PseudoChannel := s.stores.pcs.getD i {}

/-- Pseudo-channel `i` changed by `f`. -/
def State.updPc (s : State) (i : Nat) (f : PseudoChannel → PseudoChannel) : State :=
  { s with stores := { s.stores with pcs := updAt s.stores.pcs i f } }

/-- What leaves the device. -/
def State.emit (s : State) (o : Out) : State := { s with out := s.out ++ [o] }

/-- A free value of `w` bits, and the state in which the next one is another. -/
def State.drawFree (s : State) (w : Nat) : Nat × State :=
  (Config.freeValue s.free % 2 ^ w, { s with free := s.free + 1 })

/-- The Pans that are assigned to a context. -/
def State.pansOf (s : State) (c : Nat) : List Nat :=
  (List.range 48).filter fun p => (s.pan p).ctx == some c

/-- A tenant is enrolled (KHD_STATUS.TENANT). -/
def State.tenanted (s : State) : Bool := s.keyhold.tenantKey.isSome

/-- PROFILE is open (R528, Table ATT-9, bit 4). -/
def State.profile (s : State) : Bool := bitOf s.dbg.scope 4

/-- The answer of a meaning: the device as the command leaves it. A command acts on everything but the queue of the
commands that wait, which stands as it stood. -/
def State.done (s t : State) : Host.Outcome State Fault Refusal := .next { t with pending := s.pending }

/-! ### The register store -/

/-- The value of an association by register and instance. -/
def regLookup (l : List (Reg × Nat × Nat)) (r : Reg) (i : Nat) : Option Nat :=
  (l.find? fun e => e.1 == r && e.2.1 == i).map (·.2.2)

/-- The association with (r, i) set to `v`. -/
def regSet (l : List (Reg × Nat × Nat)) (r : Reg) (i v : Nat) : List (Reg × Nat × Nat) :=
  (r, i, v) :: l.filter fun e => !(e.1 == r && e.2.1 == i)

/-- The reset value of a register, from its fields (R136). -/
def regReset (r : Reg) : Nat := (regFields r).foldl (fun v f => setBits v f.hi f.lo f.rst) 0

/-- The stored value of a register instance. -/
def State.reg (s : State) (r : Reg) (i : Nat) : Nat := (regLookup s.regs r i).getD (regReset r)

/-- The stored value of a register instance set; the reset value is not listed. -/
def State.setReg (s : State) (r : Reg) (i v : Nat) : State :=
  { s with regs := if v = regReset r then s.regs.filter fun e => !(e.1 == r && e.2.1 == i) else regSet s.regs r i v }

/-- A sticky bit of a register set. -/
def State.setBit (s : State) (r : Reg) (i b : Nat) : State := s.setReg r i (setBits (s.reg r i) b b 1)

/-- A counting field of a register rises by `n`, saturating at the field's greatest value. -/
def State.bump (s : State) (r : Reg) (i hi lo n : Nat) : State :=
  s.setReg r i (setBits (s.reg r i) hi lo (satAdd (hi + 1 - lo) (bitsOf (s.reg r i) hi lo) n))

/-- A performance counter (R37), live. -/
def State.perfOf (s : State) (r : Reg) (i : Nat) : Nat := (regLookup s.perf r i).getD 0

/-- A performance counter counts `n` more. -/
def State.count (s : State) (r : Reg) (i n : Nat) : State :=
  { s with perf := regSet s.perf r i ((s.perfOf r i + n) % 2 ^ 64) }

/-! ### MSI-X (R594, R611) -/

/-- The vector control mask bit of an entry; the PCI Express specification resets it to 1 (PRESUMED, log entry 14). -/
def fnMasked (f : Fn) (v : Nat) : Bool := !((lookupN f.msix (16 * v + 12)).getD 1 == 0)

/-- Vector `v` of function `n` is signalled: as a message, as a pending bit while its entry is masked, and not at all
while Bus Master Enable is clear. -/
def State.signal (s : State) (n v : Nat) : State :=
  if !(s.fn n).bme then s
  else if fnMasked (s.fn n) v then s.updFn n fun f => { f with pba := setBits f.pba v v 1 }
  else s.emit (.msix n v)

/-- The level crossing of queue `q` is signalled to its reader (R449, R594). -/
def State.signalQueue (s : State) (q : Nat) : State :=
  if q < 4 then s.signal q 0 else if q = 4 then s.signal 0 1 else if q = 6 then s.signal 0 2 else s.emit .belfryIrq

/-! ### Brine queues -/

/-- The capacity of queue `q` (Table QUE-1). -/
def queueCap (q : Nat) : Nat := if q < 5 then 8192 else if q = 5 then 512 else 32768

/-- AVAIL as the reader sees it, when the newest `lag` items are not visible to it yet (R446, R449). -/
def queueAvail (b : BQueue) (lag : Nat) : Nat := b.w - lag - b.r

/-- After a change of AVAIL: a crossing from below the level to the level or more disarms and signals; AVAIL below the
level arms the next crossing (R449). -/
def State.levelCheck (s : State) (q lag : Nat) : State :=
  let b := s.queue q
  if b.level = 0 then s
  else if queueAvail b lag < b.level then s.updQueue q fun b => { b with armed := true }
  else if b.armed then
    ((s.updQueue q fun b => { b with armed := false }).setBit .qEvt q 0).signalQueue q
  else s

/-- TOLL of an item of queue `q` (R443). -/
def State.itemToll (s : State) (q : Nat) : Nat :=
  if q = 6 ∨ (s.profile ∧ q < 5) then s.cad.toll else s.cad.toll / 1000 * 1000

/-- An item stored in a queue that may be full (R445): the new item at W, the oldest unreleased one overwritten. -/
def queuePush (b : BQueue) (cap : Nat) (it : QItem) : BQueue :=
  let b := { b with nextSeq := (b.nextSeq + 1) % 2 ^ 32 }
  if !b.en then { b with lost := satAdd 32 b.lost 1 }
  else if b.items.length < cap then { b with items := b.items ++ [it], w := b.w + 1 }
  else
    { b with
      items := b.items.drop 1 ++ [it]
      w := b.w + 1
      f := b.f + 1
      r := max b.r (b.f + 1)
      m := if b.m = some b.f then none else b.m
      lost := satAdd 32 b.lost 1 }

/-- An item produced (R443, R445, R449, R452). -/
def State.produce (s : State) (q typ source status : Nat) (payload : Bytes) (badParity : Bool) (lag : Nat) : State :=
  let it : QItem :=
    { typ := typ, source := source, seq := (s.queue q).nextSeq, toll := s.itemToll q, status := status,
      payload := padTo 44 payload, badParity := badParity }
  let s := if q = 5 ∧ (s.queue 5).en then
      { s with belfry := { s.belfry with telq := (s.belfry.telq ++ [it]).drop (s.belfry.telq.length + 1 - 512) } }
    else s
  (s.updQueue q fun b => queuePush b (queueCap q) it).levelCheck q lag

/-- The Brine queues run: they are started at boot step 5 (Table BOO-3) and run until the next system reset. -/
def State.queuesOpen (s : State) : Bool :=
  match s.dev.st with
  | .cold | .held => false
  | .booting | .locked => decide (5 ≤ s.dev.bootStep)
  | _ => true

/-- The types of which TELQ receives a copy (R453): QUEUE_RESET, UNIT_STATE, LINK_STATE, TAMPER, THERMAL. -/
def telqCopies (typ : Nat) : Bool := typ == 0x11 || typ == 0x15 || typ == 0x16 || typ == 0x17 || typ == 0x18

/-- The types whose entry in TELQ asserts SMB_ALERT_N (R636). -/
def alertTypes (typ : Nat) : Bool := typ == 0x15 || typ == 0x16 || typ == 0x17 || typ == 0x18

/-- An event raised (R453): payload from byte 20 on. Nothing is raised while the queues do not run. -/
def State.event (s : State) (q typ source status : Nat) (payload : Bytes) : State :=
  if !s.queuesOpen then s
  else
    let s := s.produce q typ source status payload false 0
    if q = 4 ∧ telqCopies typ then
      let s := s.produce 5 typ source status payload false 0
      if alertTypes typ then { s with power := { s.power with smbAlertN := false } } else s
    else s

/-! ### The events of Table QUE-4 -/

/-- ERROR (R454): to EVQ where the cause lies in a context, to DEVQ otherwise. -/
def State.errorEvent (s : State) (c : Option Nat) (status unit cause index arg0 arg1 : Nat) : State :=
  let pl := [BitVec.ofNat 8 unit, BitVec.ofNat 8 cause] ++ leBytes 2 index ++ leBytes 4 arg0 ++ leBytes 8 arg1
  match c with
  | some n => s.event n 0x10 n status pl
  | none => s.event 4 0x10 0xFF status pl

/-- The state code that a context reports: while its void is under way, that of the state it was in (R382). -/
def shownState (c : Ctx) : Nat := ctxCode (if c.st == .voiding then c.was else c.st)

/-- HARVEST_STATE (R352). -/
def State.harvestStateEvent (s : State) (c old new : Nat) (paused : Bool) (status : Nat) : State :=
  s.event c 0x02 c status [BitVec.ofNat 8 old, BitVec.ofNat 8 new, BitVec.ofNat 8 (b2n paused)]

/-- UNIT_STATE. -/
def State.unitStateEvent (s : State) (unit index old new suspect : Nat) : State :=
  s.event 4 0x15 0xFF 0
    ([BitVec.ofNat 8 unit, 0] ++ leBytes 2 index ++ [BitVec.ofNat 8 old, BitVec.ofNat 8 new, BitVec.ofNat 8 suspect])

/-- LINK_STATE: kind 0 Inlet port, 1 Carillon link, 2 PCI Express, 3 Belfry port. -/
def State.linkStateEvent (s : State) (kind index st : Nat) : State :=
  s.event 4 0x16 0xFF 0 [BitVec.ofNat 8 kind, BitVec.ofNat 8 index, BitVec.ofNat 8 st]

/-- BIST_RESULT (R667). -/
def State.bistEvent (s : State) (pan bank sub word row bit result : Nat) : State :=
  s.event 4 0x14 0xFF 0
    ([BitVec.ofNat 8 pan, BitVec.ofNat 8 bank, BitVec.ofNat 8 sub, BitVec.ofNat 8 word] ++ leBytes 2 row ++
      [BitVec.ofNat 8 bit, BitVec.ofNat 8 result])

/-! ### Faults (FLT) -/

/-- The counts of a unit, changed. -/
def unitCount (l : List (Nat × Nat × Nat)) (k : Nat) (lasting : Bool) : List (Nat × Nat × Nat) :=
  let old := (l.find? fun e => e.1 == k).getD (k, 0, 0)
  let new := if lasting then (k, old.2.1, satAdd 32 old.2.2 1) else (k, satAdd 32 old.2.1 1, old.2.2)
  new :: l.filter fun e => !(e.1 == k)

/-- An entry of the ERR log (R666, Table FLT-8). -/
def errEntry (toll cls unit index status ctx loc arg : Nat) : Bytes :=
  leBytes 8 (toll / 1000 * 1000) ++ [BitVec.ofNat 8 cls, BitVec.ofNat 8 unit] ++ leBytes 2 index ++ leBytes 2 status ++
    [BitVec.ofNat 8 ctx, 0] ++ leBytes 8 loc ++ leBytes 8 arg

/-- A class count of ERR_CLASS0 to ERR_CLASS3 rises by one (Table FLT-1). -/
def State.classCount (s : State) (cls : Nat) : State :=
  { s with sweep := { s.sweep with classes := updAt s.sweep.classes cls fun n => satAdd 32 n 1 } }

/-- A fault of class TRANSIENT (1), LASTING (2) or FATAL (3): counted and logged (R645, R666); ERROR is raised for LASTING
(CAUSE 0x20) and FATAL (CAUSE 0x21). `voided` is the context of a harvest voided by it. -/
def State.faultRaw (s : State) (cls unit index status : Nat) (voided : Option Nat) (loc arg : Nat) : State :=
  let i := s.sweep.written % 256
  let e := errEntry s.cad.toll cls unit index status (voided.getD 0xFF) loc arg
  let sw := s.sweep
  ({ s with sweep := { sw with
      written := (sw.written + 1) % 2 ^ 32
      log := insertN sw.log i e
      units := if cls = 1 ∨ cls = 2 then unitCount sw.units (unit * 256 + index % 256) (cls == 2) else sw.units } }).classCount
    cls

/-- A fault with its event (Table FLT-1). -/
def State.fault (s : State) (cls unit index status : Nat) (voided : Option Nat) (loc arg : Nat) : State :=
  let s := s.faultRaw cls unit index status voided loc arg
  if cls = 1 then s
  else s.errorEvent voided status unit (if cls = 2 then 0x20 else 0x21) index (loc % 2 ^ 32) arg

end Sys2Proof.Machine
end

