-- ==== Sys2Proof/Machine/Queues.lean ====
section
/-! DEFINITION. The Brine queues (QUE, R441 to R456): producing, reading, the consumer operations, Q_CTL. -/
namespace Sys2Proof.Machine

open Sys2Proof

/-- The reader of queue `q` (Table QUE-1): the host on PF0 to PF3, on PF0 for DEVQ and TRCQ, Belfry for TELQ. -/
def queueReader (q : Nat) (who : Requester) : Bool :=
  match who with
  | .host pf => if q < 4 then pf.val == q else (q == 4 || q == 6) && pf.val == 0
  | .belfry => q == 5
  | .steward _ => false

/-- An item's 64 bytes (Table QUE-2). -/
def itemBytes (flags : Nat) (it : QItem) : Bytes :=
  [BitVec.ofNat 8 it.typ, BitVec.ofNat 8 flags, BitVec.ofNat 8 it.source, 0] ++ leBytes 4 it.seq ++ leBytes 8 it.toll ++
    leBytes 2 it.status ++ [0, 0] ++ padTo 44 it.payload

/-- The idle item (R447): every field zero except SEQ, which repeats the last one delivered. -/
def idleItem (last : Nat) : Bytes := leBytes 4 0 ++ leBytes 4 last ++ List.replicate 56 0

/-- RESET of Table QUE-3: F = R = W as the reader sees it; the items discarded count as lost; the mark is cleared. -/
def queueReset (lag : Nat) (b : BQueue) : BQueue :=
  let w := max b.f (b.w - lag)
  { b with
    items := b.items.drop (w - b.f)
    f := w
    r := w
    m := none
    lost := satAdd 32 b.lost (w - b.f)
    opStatus := statusCode .ok }

/-- A PTRDUP mismatch (R450): the queue resets itself, sets QUEUE_RESET and raises the event. -/
def State.queueUpset (s : State) (q lag : Nat) : State :=
  let b := s.queue q
  let n := max b.f (b.w - lag) - b.f
  let s := (s.updQueue q (queueReset lag)).setBit .qEvt q 1
  (s.levelCheck q lag).event 4 0x11 0xFF 0 ([BitVec.ofNat 8 q, 0, 0, 0] ++ leBytes 4 n)

/-- After an update of queue `q`'s pointers, in PTRDUP mode with a mismatch between their copies. -/
def State.upsetIf (s : State) (q lag : Nat) (upset : Bool) : State :=
  if upset && (s.queue q).modeInForce == 1 then s.queueUpset q lag else s

/-- MARK. -/
def queueMark (b : BQueue) : BQueue := { b with m := some b.r, opStatus := statusCode .ok }

/-- REWIND. -/
def queueRewind (b : BQueue) : BQueue :=
  match b.m with
  | some k => if b.f ≤ k then { b with r := k, opStatus := statusCode .ok }
              else { b with r := b.f, m := none, opStatus := statusCode .markLost }
  | none => { b with r := b.f, opStatus := statusCode .markLost }

/-- RELEASE. -/
def queueRelease (b : BQueue) : BQueue :=
  { b with
    items := b.items.drop (b.r - b.f)
    f := b.r
    m := if (b.m.getD b.r) < b.r then none else b.m
    opStatus := statusCode .ok }

/-- A consumer operation written to Q_OP by code (Table QUE-3); 0 does nothing. -/
def State.queueOp (s : State) (q op lag : Nat) (upset : Bool) : State :=
  match op with
  | 1 => ((s.updQueue q queueMark).levelCheck q lag).upsetIf q lag upset
  | 2 => ((s.updQueue q queueRewind).levelCheck q lag).upsetIf q lag upset
  | 3 => ((s.updQueue q queueRelease).levelCheck q lag).upsetIf q lag upset
  | 4 => ((s.updQueue q (queueReset lag)).levelCheck q lag).upsetIf q lag upset
  | _ => s

/-- A delivery (R447, R451, R452): the item at R latched and R advanced, or the idle item latched. -/
def State.queueRead (s : State) (q lag : Nat) : State :=
  let b := s.queue q
  if b.en && decide (b.r < b.w - lag) then
    match b.items[b.r - b.f]? with
    | some it =>
      let poison := it.badParity && b.modeInForce == 0
      let s := (s.updQueue q fun b =>
        { b with window := itemBytes (b2n poison) it, r := b.r + 1, lastSeq := it.seq }).levelCheck q lag
      if poison then s.setBit .qEvt q 2 else s
    | none => s.updQueue q fun b => { b with window := idleItem b.lastSeq }
  else s.updQueue q fun b => { b with window := idleItem b.lastSeq }

/-- EN may be 1 on TRCQ only while the TRACE scope is open (R452). -/
def State.traceOpen (s : State) : Bool := bitOf s.dbg.scope 0

/-- A write of Q_CTL (R449, R452), by the register rules of R16, R17 and R21: a LEVEL above the capacity is not listed.
MODE takes effect when EN goes from 0 to 1. -/
def State.queueCtl (s : State) (q v lag : Nat) : State :=
  let s := if bitsOf v 30 17 = 0 then s else s.setBit .qErr q 0
  let level := bitsOf v 15 0
  if queueCap q < level then s.setBit .qErr q 1
  else
    let b := s.queue q
    let en := if q = 6 ∧ !s.traceOpen then b.en else bitOf v 31
    let mode := bitsOf v 16 16
    let s := s.updQueue q fun b =>
      { b with en := en, mode := mode, level := level,
               modeInForce := if !b.en && en then mode else b.modeInForce }
    let avail := queueAvail (s.queue q) lag
    if level ≠ 0 ∧ level ≤ avail then
      ((s.updQueue q fun b => { b with armed := false }).setBit .qEvt q 0).signalQueue q
    else s.updQueue q fun b => { b with armed := true }

/-- QUEUE_ITEM_PRODUCE (R443, R445, R446, R450, R452, R456): the 64 staged bytes are stored as an item; `badParity` marks
a parity upset in storage, `upset` a disagreement of the pointer copies, `lag` the newest items that the reader does not
see yet, `fLag` the releases that the producer does not see yet. -/
def execQueueItemProduce (q : Fin 7) (item : Bytes) (badParity upset : Bool) (lag fLag : Nat) (s : State) :
    Host.Outcome State Fault Refusal :=
  let old := s
  if !s.queuesOpen then .next s
  else
    let b := s.queue q
    let late := b.en && decide (b.items.length < queueCap q) && decide (queueCap q ≤ b.items.length + fLag)
    let s := s.produce q (byteAt item 0) (byteAt item 2) (leAt item 16 2) (slice item 20 44) badParity lag
    let s := if late then s.updQueue q fun b => { b with lost := satAdd 32 b.lost 1 } else s
    old.done (s.upsetIf q lag upset)

/-- QUEUE_ITEM_READ (R447, R450, R451, R466): a read that includes byte 0 of the item window by the queue's reader; a delivery
updates R, and `upset` says that its copies disagree then. -/
def execQueueItemRead (who : Requester) (q : Fin 7) (lag : Nat) (upset : Bool) (s : State) : Host.Outcome State Fault Refusal :=
  s.done (if s.queuesOpen && queueReader q who then
    let t := s.queueRead q lag
    t.upsetIf q lag (upset && (t.queue q).r != (s.queue q).r)
  else s)

/-- QUEUE_MARK (R448). -/
def execQueueMark (who : Requester) (q : Fin 7) (upset : Bool) (s : State) : Host.Outcome State Fault Refusal :=
  s.done (if s.queuesOpen && queueReader q who then s.queueOp q 1 0 upset else s)

/-- QUEUE_REWIND (R448, R467). -/
def execQueueRewind (who : Requester) (q : Fin 7) (lag : Nat) (upset : Bool) (s : State) :
    Host.Outcome State Fault Refusal :=
  s.done (if s.queuesOpen && queueReader q who then s.queueOp q 2 lag upset else s)

/-- QUEUE_RELEASE (R448). -/
def execQueueRelease (who : Requester) (q : Fin 7) (upset : Bool) (s : State) : Host.Outcome State Fault Refusal :=
  s.done (if s.queuesOpen && queueReader q who then s.queueOp q 3 0 upset else s)

/-- QUEUE_RESET (R448). -/
def execQueueReset (who : Requester) (q : Fin 7) (lag : Nat) (upset : Bool) (s : State) :
    Host.Outcome State Fault Refusal :=
  s.done (if s.queuesOpen && queueReader q who then s.queueOp q 4 lag upset else s)

/-- Q_CTL_WRITE (R449, R452). -/
def execQCtlWrite (who : Requester) (q : Fin 7) (v lag : Nat) (s : State) : Host.Outcome State Fault Refusal :=
  s.done (if s.queuesOpen && queueReader q who then s.queueCtl q (v % 2 ^ 32) lag else s)

/-- TELEMETRY_TICK (R455): every 100 ms, one TELEMETRY item on TELQ. -/
def execTelemetryTick (s : State) : Host.Outcome State Fault Refusal :=
  if !s.queuesOpen then .next s
  else
    let pl := leBytes 2 s.cad.readPower ++ leBytes 2 (unsigned 16 s.cad.readTj) ++
      [BitVec.ofNat 8 s.cad.vset, BitVec.ofNat 8 s.cad.brake, BitVec.ofNat 8 (devCode s.dev.st), 0] ++
      (List.range 4).map fun c => BitVec.ofNat 8 (shownState (s.ctx c))
    s.done (s.produce 5 0x80 0xFF 0 pl false 0)

end Sys2Proof.Machine
end

