-- ==== Sys2Proof/Machine/RingerOps.lean ====
section
/-! DEFINITION. The Ringer (QUE, R457 to R465): threads, delay lists, work items. -/
namespace Sys2Proof.Machine

open Sys2Proof

/-- A thread. -/
def State.thread (s : State) (t : Nat) : Thread := s.ringer.threads.getD t {}

/-- A thread changed by `f`. -/
def State.updThread (s : State) (t : Nat) (f : Thread → Thread) : State :=
  { s with ringer := { s.ringer with threads := updAt s.ringer.threads t f } }

/-- A Steward's window changed by `f`. -/
def State.updStew (s : State) (k : Nat) (f : StewardWin → StewardWin) : State :=
  { s with ringer := { s.ringer with stewards := updAt s.ringer.stewards k f } }

/-- A Steward's window. -/
def State.stew (s : State) (k : Nat) : StewardWin := s.ringer.stewards.getD k {}

/-- RNG_RES of a Steward. -/
def State.rngRes (s : State) (k : Nat) (st : Status) (v : Nat) : State :=
  s.updStew k fun w => { w with resStatus := statusCode st, resValue := v }

/-- The ready threads of Steward `k`, with their numbers (R458). -/
def readyOf (s : State) (k : Nat) : List Nat :=
  ((List.range 64).map (64 * k + ·)).filter fun t => (s.thread t).st == .ready

/-- The head of Steward `k`'s ready list (R458): earliest deadline, and among equals the one that became READY first. -/
def readyHead (s : State) (k : Nat) : Option Nat :=
  let l := readyOf s k
  match minBy (fun t => (s.thread t).deadline) l with
  | none => none
  | some t => minBy (fun u => (s.thread u).order) (l.filter fun u => (s.thread u).deadline == (s.thread t).deadline)

/-- The dispatch interrupt of a Steward (R459): up while its ready list holds an earlier deadline than its RUNNING
thread's. -/
def State.dispatchIrq (s : State) (k : Nat) : State :=
  match (s.stew k).cur, readyHead s k with
  | some cur, some t =>
    if (s.thread t).deadline < (s.thread cur).deadline then s.updStew k fun w => { w with irq := true } else s
  | _, _ => s

/-- A thread becomes READY with a deadline (R458: the order in which threads become READY is kept). -/
def State.makeReady (s : State) (t deadline : Nat) : State :=
  let s := s.updThread t fun h => { h with st := .ready, deadline := deadline % 2 ^ 64, order := s.ringer.nextOrder }
  ({ s with ringer := { s.ringer with nextOrder := s.ringer.nextOrder + 1 } }).dispatchIrq (t / 64)

/-- Whether a thread is RUNNING on Steward `k` (R457). -/
def runningOn (s : State) (k t : Nat) : Bool := (s.thread t).st == .running && (s.stew k).cur == some t

/-- The RUNNING thread of its Steward is no longer RUNNING. -/
def State.clearCur (s : State) (t : Nat) : State :=
  s.updStew (t / 64) fun w => if w.cur == some t then { w with cur := none } else w

/-- An ATOMIC item whose flow is in service is not eligible (R462); an item already taken is not either. -/
def eligible (l : List WorkItem) (it : WorkItem) : Bool :=
  it.handle.isNone && it.result.isNone &&
    !(it.cls == 0 && l.any fun o => o.cls == 0 && o.flow == it.flow && o.handle.isSome) &&
    !(it.cls != 2 && l.any fun o =>
        o.cls == it.cls && o.flow == it.flow && o.handle.isNone && o.result.isNone && o.order < it.order)

/-- The item GET would take in the masked classes (R462): the earliest enqueued; at equal times ATOMIC, then ORDERED,
then FREE. -/
def nextItem (l : List WorkItem) (mask : Nat) : Option WorkItem :=
  match minBy (fun i => i.enq * 3 + i.cls) (l.filter fun it => bitOf mask it.cls && eligible l it) with
  | none => none
  | some it =>
    minBy (·.order) (l.filter fun o => bitOf mask o.cls && eligible l o && o.enq == it.enq && o.cls == it.cls)

/-- Every WAITING thread whose mask has an item that can be taken becomes READY, with that item's enqueue time plus the
budget of its class as its deadline (R461); several are inserted with the one whose last insertion is the oldest first, and in the
order of their numbers where none has been inserted (R76, R458; the latter a DESIGN CHOICE, log entry 16). -/
def State.wakeWaiters (s : State) : State :=
  let waiting := (List.range 256).filter fun t => (s.thread t).st == .waiting
  (waiting.insertionSort fun t u => (s.thread t).order ≤ (s.thread u).order).foldl (fun s t =>
    match nextItem s.ringer.items (s.thread t).mask with
    | some it => s.makeReady t (it.enq + s.ringer.budgets.getD it.cls 0)
    | none => s) s

/-- READY of Table QUE-5. -/
def State.rngReady (s : State) (k t deadline : Nat) : State :=
  match (s.thread t).st with
  | .running => s.rngRes k .refused 0
  | _ => (s.makeReady t deadline).rngRes k .ok t

/-- DELAY of Table QUE-5. -/
def State.rngDelay (s : State) (k t wake : Nat) : State :=
  if (s.thread t).st == .ready || runningOn s k t then
    let s := s.clearCur t
    if wake ≤ s.cad.toll then (s.makeReady t (s.thread t).deadline).rngRes k .ok t
    else (s.updThread t fun h => { h with st := .delayed, wake := wake % 2 ^ 64 }).rngRes k .ok t
  else s.rngRes k .refused 0

/-- SLEEP of Table QUE-5. -/
def State.rngSleep (s : State) (k t : Nat) : State :=
  if (s.thread t).st == .running && !runningOn s k t then s.rngRes k .refused 0
  else ((s.clearCur t).updThread t fun h => { h with st := .dormant }).rngRes k .ok t

/-- DISPATCH (R458, R459). -/
def State.rngDispatch (s : State) (k : Nat) : State :=
  let s := match (s.stew k).cur with
    | some cur => (s.clearCur cur).makeReady cur (s.thread cur).deadline
    | none => s
  let s := s.updStew k fun w => { w with irq := false }
  let s := s.count .rgrDispatch 0 1
  match readyHead s k with
  | none => s.rngRes k .pending 0
  | some t =>
    let miss := decide ((s.thread t).deadline < s.cad.toll)
    let s := (s.updThread t fun h => { h with st := .running }).updStew k fun w => { w with cur := some t }
    let s := if miss then
        ({ s with ringer := { s.ringer with missCount := (s.ringer.missCount + 1) % 2 ^ 64 } }).count .rgrMiss 0 1
      else s
    s.rngRes k .ok t

/-- WAIT (R461). -/
def State.rngWait (s : State) (k t mask : Nat) : State :=
  if runningOn s k t then
    (((s.clearCur t).updThread t fun h => { h with st := .waiting, mask := mask % 8 }).rngRes k .ok t).wakeWaiters
  else s.rngRes k .refused 0

/-- A work item's 32 bytes (Table QUE-6). -/
def workBytes (it : WorkItem) : Bytes :=
  leBytes 4 (it.flow % 2 ^ 20 + it.cls * 2 ^ 20 + it.ctx * 2 ^ 22 + it.kind * 2 ^ 24) ++ leBytes 4 it.enq ++
    padTo 24 it.payload

/-- GET (R462): RNG_RES returns the handle, RNG_GOT the item. -/
def State.rngGet (s : State) (k mask : Nat) : State :=
  match nextItem s.ringer.items (mask % 8) with
  | none => s.rngRes k .pending 0
  | some it =>
    let h := s.ringer.nextHandle
    let items := s.ringer.items.map fun o => if o.order == it.order then { o with handle := some h } else o
    let s := { s with ringer := { s.ringer with items := items, nextHandle := (h + 1) % 2 ^ 32 } }
    (s.updStew k fun w => { w with got := workBytes it }).rngRes k .ok h

/-- How many items a class queue holds (R461), and an ORDERED flow has outstanding (R463). -/
def classFill (l : List WorkItem) (cls : Nat) : Nat := (l.filter fun i => i.cls == cls).length
def flowFill (l : List WorkItem) (flow : Nat) : Nat := (l.filter fun i => i.cls == 1 && i.flow == flow).length

/-- A class queue or an ORDERED flow has no place (R464). -/
def noPlace (l : List WorkItem) (cls flow : Nat) : Bool :=
  decide (4096 ≤ classFill l cls) || (cls == 1 && decide (1024 ≤ flowFill l flow))

/-- The register that counts a class's enqueues (Table QUE-8). -/
def enqReg (cls : Nat) : Reg := if cls = 0 then .rgrEnqA else if cls = 1 then .rgrEnqO else .rgrEnqF

/-- An enqueue with room: the item joins its class queue with the toll counter as ENQ (Table QUE-6). -/
def State.putItem (s : State) (cls flow ctx kind : Nat) (payload : Bytes) : State :=
  let it : WorkItem :=
    { cls := cls, flow := flow, ctx := ctx, kind := kind, enq := s.cad.toll, payload := payload,
      order := s.ringer.nextOrder }
  let s := { s with ringer := { s.ringer with items := s.ringer.items ++ [it], nextOrder := s.ringer.nextOrder + 1 } }
  (s.count (enqReg cls) 0 1).wakeWaiters

/-- An enqueue (R464): the item is queued, or refused with nothing changed but the count of refusals. -/
def State.enqueue (s : State) (cls flow ctx kind : Nat) (payload : Bytes) : Bool × State :=
  if noPlace s.ringer.items cls flow then
    (false, s.count .rgrRefuse 0 1)
  else (true, s.putItem cls flow ctx kind payload)

/-- The UDP payload of a frame begins as a REFUSE of this device does (R416, R420). -/
def isRefuse (fr : Bytes) : Bool := slice fr (fr.length - 68) 4 == [0x56, 0x5A, 0x01, 0x04]

/-- A frame leaves an Inlet port; on a port whose link is down it is lost (R435). -/
def State.frameOut (s : State) (q : Nat) (fr : Bytes) : State :=
  if (s.port q).link ≠ 2 then s
  else
    let s := (s.emit (.frame q fr)).count .inlTxFrames q 1
    if isRefuse fr then s.bump .inlReply q 63 32 1 else s

/-- The next release of a flow (R463): its oldest item, when that one is marked done and its sink has room. -/
def State.releaseFlow (s : State) (flow : Nat) : Nat → State
  | 0 => s
  | n + 1 =>
    match minBy (·.order) (s.ringer.items.filter fun i => i.cls == 1 && i.flow == flow) with
    | none => s
    | some it =>
      match it.result with
      | none => s
      | some res =>
        if decide (4 ≤ flow) && noPlace s.ringer.items 2 0 then s
        else
          let s := { s with ringer := { s.ringer with items := s.ringer.items.filter fun o => o.order != it.order } }
          let s := if flow < 4 then s.frameOut flow res else s.putItem 2 flow it.ctx 0xFF (res.drop 8)
          s.releaseFlow flow n

/-- Releases that waited for room in the FREE queue are tried again (R463). -/
def State.releaseAll (s : State) : State :=
  (s.ringer.items.filter fun i => i.cls == 1 && i.result.isSome).foldl
    (fun s i => s.releaseFlow i.flow s.ringer.items.length) s

/-- DONE (R463): an unknown handle is refused (Table QUE-5). -/
def State.rngDone (s : State) (k handle : Nat) : State :=
  match s.ringer.items.find? fun i => i.handle == some handle with
  | none => s.rngRes k .refused 0
  | some it =>
    let s := if it.cls = 1 then
        let res := (s.stew k).item
        let items := s.ringer.items.map fun o =>
          if o.order == it.order then { o with handle := none, result := some res } else o
        ({ s with ringer := { s.ringer with items := items } }).releaseFlow it.flow s.ringer.items.length
      else
        ({ s with ringer := { s.ringer with items := s.ringer.items.filter fun o => o.order != it.order } }).releaseAll
    (s.rngRes k .ok handle).wakeWaiters

/-- The Ringer runs from boot step 5 on (Table BOO-3). -/
def State.ringerOpen (s : State) : Bool := s.queuesOpen

/-- RINGER_READY (R457). -/
def execRingerReady (k : Fin 4) (t : Fin 256) (deadline : Nat) (s : State) : Host.Outcome State Fault Refusal :=
  s.done (if s.ringerOpen then s.rngReady k t deadline else s)

/-- RINGER_DELAY (R457). -/
def execRingerDelay (k : Fin 4) (t : Fin 256) (wake : Nat) (s : State) : Host.Outcome State Fault Refusal :=
  s.done (if s.ringerOpen then s.rngDelay k t wake else s)

/-- RINGER_SLEEP (R457). -/
def execRingerSleep (k : Fin 4) (t : Fin 256) (s : State) : Host.Outcome State Fault Refusal :=
  s.done (if s.ringerOpen then s.rngSleep k t else s)

/-- RINGER_DISPATCH (R458, R459). -/
def execRingerDispatch (k : Fin 4) (s : State) : Host.Outcome State Fault Refusal :=
  s.done (if s.ringerOpen then s.rngDispatch k else s)

/-- RINGER_WAIT (R461). -/
def execRingerWait (k : Fin 4) (t : Fin 256) (mask : Nat) (s : State) : Host.Outcome State Fault Refusal :=
  s.done (if s.ringerOpen then s.rngWait k t mask else s)

/-- RINGER_GET (R462). -/
def execRingerGet (k : Fin 4) (mask : Nat) (s : State) : Host.Outcome State Fault Refusal :=
  s.done (if s.ringerOpen then s.rngGet k mask else s)

/-- An enqueue of 32 staged bytes by Steward `k` (R464): CLASS 3 is not listed and sets BAD_ENUM (R17). -/
def State.stewEnqueue (s : State) (k : Nat) (item : Bytes) : State :=
  let s := s.updStew k fun w => { w with item := padTo 32 item }
  let h := leAt item 0 4
  if bitsOf h 21 20 = 3 then s.setBit .rngErr 0 1
  else
    match s.enqueue (bitsOf h 21 20) (bitsOf h 19 0) (bitsOf h 23 22) (bitsOf h 31 24) (slice item 8 24) with
    | (true, s) => s.rngRes k .ok 0
    | (false, s) => s.rngRes k .busy 0

/-- RINGER_ENQUEUE (R461, R464). -/
def execRingerEnqueue (k : Fin 4) (item : Bytes) (s : State) : Host.Outcome State Fault Refusal :=
  s.done (if s.ringerOpen then s.stewEnqueue k item else s)

/-- A delayed thread whose wake time is reached becomes READY (R460, R471). -/
def State.wakeIfDue (s : State) (t : Nat) : State :=
  let h := s.thread t
  if h.st == .delayed && decide (h.wake ≤ s.cad.toll) then s.makeReady t h.deadline else s

/-- THREAD_WAKE (R460). -/
def execThreadWake (t : Fin 256) (s : State) : Host.Outcome State Fault Refusal := s.done (s.wakeIfDue t)

end Sys2Proof.Machine
end

