-- ==== Sys2Proof/Machine/Regs.lean ====
section
/-! DEFINITION. Register accesses (SCO, R14 to R24; R90; R593): which register an address names, who may write it, what it
reads as, and how a checked write takes effect. -/
namespace Sys2Proof.Machine

open Sys2Proof

/-! ### Addresses -/

/-- Offset in PF0 BAR2 of the reader registers of DEVQ, TELQ and TRCQ. TELQ's place on Belfry's internal path is the
model's (DESIGN CHOICE, log entry 17). -/
def queueBase (q : Nat) : Nat := if q = 4 then 0xD0000 else if q = 6 then 0xD0040 else 0xD0080

/-- The instance of a register of place `pl` that the offset `o` from the first instance's lies in, with the byte inside
the register. -/
def instAt (pl : RegPlace) (o : Nat) : Option (Nat × Nat) :=
  let k := o / pl.stride
  let b := o % pl.stride
  if k < pl.count ∧ b < pl.width / 8 then some (k, b) else none

/-- Register, instance and byte inside it of an access to BAR0 of function `n`. -/
def findBar0 (n off : Nat) : Option (Reg × Nat × Nat) :=
  allRegs.findSome? fun r =>
    let pl := regPlace r
    match pl.zone with
    | .bar0 => if pl.off ≤ off then (instAt pl (off - pl.off)).map fun kb => (r, n * pl.count + kb.1, kb.2) else none
    | .queue =>
      if 0x1000 + pl.off ≤ off then (instAt pl (off - 0x1000 - pl.off)).map fun kb => (r, n, kb.2) else none
    | _ => none

/-- Register, instance and byte inside it of an access to BAR2. -/
def findBar2 (belfry : Bool) (off : Nat) : Option (Reg × Nat × Nat) :=
  allRegs.findSome? fun r =>
    let pl := regPlace r
    match pl.zone with
    | .bar2 => if pl.off ≤ off then (instAt pl (off - pl.off)).map fun kb => (r, kb.1, kb.2) else none
    | .queue =>
      (if belfry then [5] else [4, 6]).findSome? fun q =>
        if queueBase q + pl.off ≤ off then (instAt pl (off - queueBase q - pl.off)).map fun kb => (r, q, kb.2)
        else none
    | _ => none

/-- Register, instance and byte inside it of an access to Steward space. -/
def findStew (off : Nat) : Option (Reg × Nat × Nat) :=
  allRegs.findSome? fun r =>
    let pl := regPlace r
    match pl.zone with
    | .stew => if pl.off ≤ off then (instAt pl (off - pl.off)).map fun kb => (r, kb.1, kb.2) else none
    | _ => none

/-- The requester can reach the space: a driver through its function, with BAR2 on PF0 alone, while the endpoint's link is
up and Memory Space Enable is set (R144, R592, R611); Belfry's internal path to BAR2 offsets (R90), while Belfry runs;
a Steward its own space. -/
def State.reaches (s : State) (who : Requester) (sp : Space) : Bool :=
  match who, sp with
  | .host pf, .bar0 n => pf == n && s.dev.pcie == 2 && (s.fn pf.val).mse
  | .host pf, .bar2 => pf.val == 0 && s.dev.pcie == 2 && (s.fn 0).mse
  | .belfry, .bar2 => s.belfry.running
  | .steward _, .steward => s.queuesOpen
  | _, _ => false

/-- The register that a requester's access names. -/
def findReg (who : Requester) (sp : Space) (off : Nat) : Option (Reg × Nat × Nat) :=
  match sp with
  | .bar0 n => findBar0 n.val off
  | .bar2 => findBar2 (who == .belfry) off
  | .steward => findStew off

/-! ### Who may read and write -/

/-- The error register of the block that owns a register, its instance, and the bit of HOST_WRITE where the block has one
(R16, R17, and the access paragraphs of the register sections). BAD_ENUM is bit 1 and RSV_WRITE bit 0 everywhere. Steward space has
one error register, RNG_ERR: a reserved bit written to a producer port's BQP registers sets RSV_WRITE there, since Table QUE-9
names no error register for that block (DESIGN CHOICE, log entry 63). -/
def errRegOf (r : Reg) (i : Nat) : Reg × Nat × Option Nat :=
  let pl := regPlace r
  match pl.zone with
  | .queue => (.qErr, i, none)
  | .stew => (.rngErr, 0, none)
  | .bar0 => (.hcxErr, i / pl.count, none)
  | .bar2 =>
    if pl.off < 0x10000 then (.devErr, 0, none)
    else if pl.off < 0x20000 then (.cadErr, 0, some 3)
    else if pl.off < 0x30000 then (.imgErr, 0, none)
    else if pl.off < 0x40000 then (.panErr, 0, none)
    else if pl.off < 0x50000 then (.chgErr, 0, none)
    else if pl.off < 0x60000 then (.stoErr, 0, some 2)
    else if pl.off < 0x70000 then (.carErr, 0, some 2)
    else if pl.off < 0x80000 then (.inlErr, 0, some 2)
    else if pl.off < 0x90000 then (.khdErr, 0, some 2)
    else if pl.off < 0xA0000 then (.tocErr, 0, some 2)
    else if pl.off < 0xB0000 then (.rgrErr, 0, none)
    else if pl.off < 0xC0000 then (.bistErr, 0, some 2)
    else if pl.off < 0xD0000 then (.errErr, 0, some 2)
    else (.dbgErr, 0, none)

/-- The registers that the host may write in the blocks whose access paragraph restricts it. -/
def hostMayWrite (r : Reg) : Bool :=
  let pl := regPlace r
  match pl.zone with
  | .bar0 | .queue => true
  | .stew => false
  | .bar2 =>
    if pl.off < 0x10000 then r == .devResetCause || r == .devErr
    else if pl.off < 0x20000 then r == .trimSel || r == .cadEvt || r == .cadErr
    else if pl.off < 0x30000 then r == .imgErr
    else if pl.off < 0x40000 then r == .panErr
    else if pl.off < 0x50000 then r == .chgErr
    else if pl.off < 0x60000 then r == .stoPcsel || r == .stoErr
    else if pl.off < 0x70000 then r == .carErr
    else if pl.off < 0x80000 then r == .inlErr
    else if pl.off < 0x90000 then r == .khdErr
    else if pl.off < 0xA0000 then r == .tocErr
    else if pl.off < 0xB0000 then r == .rgrErr
    else if pl.off < 0xC0000 then r == .bistErr
    else if pl.off < 0xD0000 then r == .errUsel || r == .errErr
    else true

/-- The registers that Belfry may write: the access codes shown for CAD, INL, KHD and TOC, and what the other blocks
name (DEV_RESET_CAUSE and DEV_ERR, STO_PCSEL, CAR_LINKCTL, SWEEP_CTL, ERR_USEL, TELQ's registers). -/
def belfryMayWrite (r : Reg) : Bool :=
  let pl := regPlace r
  match pl.zone with
  | .bar0 | .stew => false
  | .queue => true
  | .bar2 =>
    if pl.off < 0x10000 then r == .devResetCause || r == .devErr
    else if pl.off < 0x20000 then true
    else if pl.off < 0x50000 then false
    else if pl.off < 0x60000 then r == .stoPcsel
    else if pl.off < 0x70000 then r == .carLinkctl
    else if pl.off < 0xA0000 then true
    else if pl.off < 0xB0000 then r == .rgrErr
    else r == .sweepCtl || r == .errUsel

/-- The registers that Belfry can read: of IMG only IMG_STATE, of PAN only PAN_STATUS, PAN_MEM, PAN_SPARE and PAN_ECC,
none of CHG, HCX and DBG; everything else on its path. -/
def belfryMayRead (r : Reg) : Bool :=
  let pl := regPlace r
  match pl.zone with
  | .bar0 | .stew => false
  | .queue => true
  | .bar2 =>
    if pl.off < 0x20000 then true
    else if pl.off < 0x30000 then r == .imgState
    else if pl.off < 0x40000 then r == .panStatus || r == .panMem || r == .panSpare || r == .panEcc
    else if pl.off < 0x50000 then false
    else decide (pl.off < 0xD0000)

def mayWrite (who : Requester) (r : Reg) : Bool :=
  match who with
  | .host _ => hostMayWrite r
  | .belfry => belfryMayWrite r
  | .steward _ => (regPlace r).zone == .stew

def mayRead (who : Requester) (r : Reg) : Bool :=
  match who with
  | .host _ => true
  | .belfry => belfryMayRead r
  | .steward _ => true

/-- The requester's own instance of TRIM_SEL, STO_PCSEL and ERR_USEL: 0 the host's, 1 Belfry's. -/
def ownInst (who : Requester) : Nat := match who with | .belfry => 1 | _ => 0

/-! ### What registers read as -/

/-- A performance counter as a requester reads it (R37, R532): the last snapshot rounded down to a multiple of 2^12; live
and exact for the host while PROFILE is open. -/
def State.perfRead (s : State) (who : Requester) (r : Reg) (i : Nat) : Nat :=
  let host := match who with | .host _ => true | _ => false
  if host && s.profile then s.perfOf r i else ((regLookup s.perfSnap r i).getD 0) / 4096 * 4096

/-- Effective trim code and user offset in effect (R87). -/
def trimFactory (p g : Nat) : Nat := Config.factoryTrim p g % 64
def State.trimUser (s : State) (p g : Nat) : Nat :=
  min 63 (trimFactory p g + (lookupN s.cad.trims (8 * p + g)).getD 0) - trimFactory p g

/-- A byte string seen as 32-bit words, byte 4i of it in bits [7:0] of word i. -/
def wordOf (bs : Bytes) (i : Nat) : Nat := leAt bs (4 * i) 4

/-- CTX_LOADED: the contexts whose routes and programs the image in force holds. -/
def State.ctxLoaded (s : State) : Nat :=
  match s.img.loaded with
  | none => 0
  | some l => (List.range 4).foldl (fun v c =>
      if (lookupN l.routes c).isSome && (lookupN l.programs c).isSome then v + 2 ^ c else v) 0

/-- Spare rows unused in a Pan's in-service subarrays (PAN_SPARE). -/
def spareLeft (p : Pan) : Nat :=
  8 * (384 - p.retiredSubs.length) -
    (((p.repairs.map (·.1)) ++ (p.badSpares.map (·.1))).filter fun e => !p.retiredSubs.contains e).length

/-- The context is PAUSED (R354). -/
def paused (c : Ctx) : Bool := (ctxLive c.st || c.st == .voiding) && (c.pauseBme || c.pauseLink || c.pauseQuad)

/-- The release window shows its contents in RELEASED and VOIDED (R609). -/
def windowValid (c : Ctx) : Bool := (c.st == .released || c.st == .voided) && decide (c.cert ≠ [])

/-- The Treble: the lowest position of the current membership (R568). -/
def State.treble (s : State) : Nat := ((List.range 4).find? fun p => bitOf s.car.members p).getD 0

/-- Slot-context entries in use (R424); the staging of a child result holds none. -/
def State.slotsInUse (s : State) : Nat := (s.ctxs.map fun c => (c.slots.filter fun e => e.key != []).length).sum

/-- The MAC address of a port: the fuses' until one is written (a written one is kept with bit 48 set). -/
def State.macOf (s : State) (q : Nat) : Nat :=
  let v := s.reg .inlMac q
  if v = 0 then Config.mac q % 2 ^ 48 else v % 2 ^ 48

/-- What a register instance reads as, by requester (the register tables). -/
def State.regView (s : State) (who : Requester) (r : Reg) (i : Nat) : Nat :=
  match r with
  | .devState => devCode s.dev.st + b2n s.dev.halted * 16
  | .devBoot =>
    s.dev.bootStep + b2n s.dev.scrubbed * 2 ^ 8 + s.dev.fwSlot * 2 ^ 9 + b2n s.dev.fwFallback * 2 ^ 10 +
      b2n s.dev.calRejected * 2 ^ 11 + b2n s.dev.repairRejected * 2 ^ 12 + b2n s.dev.vddcRetry * 2 ^ 13 +
      s.dev.fail * 2 ^ 16 + s.power.bootSrc * 2 ^ 20 + s.power.pos * 2 ^ 21
  | .devBootTime => s.dev.bootTime % 2 ^ 32
  | .govStatus =>
    s.cad.vset + s.cad.brake * 2 ^ 8 + b2n s.cad.throttleT * 2 ^ 10 + b2n s.cad.throttleP * 2 ^ 11 +
      b2n s.cad.avsFault * 2 ^ 12 + b2n (s.cad.vset == bitsOf (s.reg .govVlimit 0) 7 0) * 2 ^ 13
  | .cadReading => s.cad.readPower % 2 ^ 10 + unsigned 8 s.cad.readTj * 2 ^ 16
  | .cadCadence => s.cad.readKettle % 2 ^ 12
  | .tollCount => s.cad.toll
  | .trimSel => s.reg .trimSel (ownInst who)
  | .trimVal =>
    let v := s.reg .trimSel (ownInst who)
    let p := bitsOf v 7 0
    let g := bitsOf v 10 8
    trimFactory p g + s.trimUser p g * 2 ^ 8 + (trimFactory p g + s.trimUser p g) * 2 ^ 16
  | .imgState => s.img.st + s.img.target * 2 ^ 4 + s.ctxLoaded * 2 ^ 8
  | .imgStatus => s.img.status + s.img.detail * 2 ^ 16 + s.img.section_ * 2 ^ 24
  | .imgVersion => match s.img.loaded with | some l => leAt l.header 12 4 | none => 0
  | .imgCompiler => match s.img.loaded with | some l => leAt l.header 16 4 | none => 0
  | .imgCount => s.img.full + s.img.partial_ * 2 ^ 16
  | .imgMeas => match s.img.loaded with | some l => wordOf l.meas i | none => 0
  | .imgPolmeas => match s.img.loaded with | some l => wordOf l.polMeas i | none => 0
  | .panStatus => panCode (s.pan i).st + (s.pan i).ctx.getD 0xF * 2 ^ 8 + b2n (s.pan i).suspect * 2 ^ 12
  | .panSite =>
    let k := Config.panSite i
    k % 5 + k / 5 * 2 ^ 4 + k * 2 ^ 8
  | .panMem => (384 - (s.pan i).retiredSubs.length) + (match s.img.loaded with | some l => bitsOf (leAt l.layout (4 * i + 2) 2) 8 0 | none => 0) * 2 ^ 16
  | .panSpare => spareLeft (s.pan i)
  | .panTrap => (s.pan i).trapCode + (s.pan i).trapPc * 2 ^ 16
  | .chgStatus => b2n s.fabric.sync.isSome
  | .chgSyncCount => s.fabric.syncCount
  | .chgStrayLast => s.fabric.lastStray
  | .stoStatus =>
    s.stores.trained + b2n s.stores.selfRefresh * 2 ^ 4 + b2n (s.stores.key == .tenant) * 2 ^ 5 +
      s.stores.scrub * 2 ^ 6 + (if s.stores.scrub = 0 then 0 else Config.scrubProgress s.stores.gen s.cad.toll % 16) * 2 ^ 8
  | .stoMap => s.stores.stripe.length + 18 * s.stores.stripe.length * 2 ^ 8
  | .stoPcsel => s.reg .stoPcsel (ownInst who)
  | .stoPc =>
    let p := s.pc (s.reg .stoPcsel (ownInst who))
    p.st + p.cause * 2 ^ 8
  | .stoPcecc => s.reg .stoPcecc (s.reg .stoPcsel (ownInst who))
  | .stoRdbytes | .stoWrbytes | .carTxbytes | .carRxbytes | .inlRxFrames | .inlRxBytes | .inlTxFrames | .rgrEnqA
  | .rgrEnqO | .rgrEnqF | .rgrRefuse | .rgrDispatch | .rgrMiss => s.perfRead who r i
  | .carQuad =>
    b2n s.car.formed + b2n (s.car.formed && s.treble == s.power.pos) * 2 + b2n s.car.job.isSome * 4 +
      s.power.pos * 2 ^ 4 + s.treble * 2 ^ 6 + s.car.formedSet * 2 ^ 8 + s.car.members * 2 ^ 12
  | .carEpoch => match s.car.job with | some j => j.epoch % 2 ^ 32 | none => 0
  | .carLink =>
    let l := s.link i
    l.st + l.peer * 2 ^ 4 + b2n l.peerValid * 2 ^ 6 + b2n l.relaying * 2 ^ 7 + l.cause * 2 ^ 8
  | .carPfailLast => s.car.pfailLast
  | .carDirty => match s.car.job with | some j => b2n j.dirty | none => 0
  | .inlPstat =>
    let p := s.port i
    b2n (p.link == 2) + b2n (p.link == 2) * 2 + b2n (p.link == 1) * 4 + b2n p.loopbackFail * 8
  | .inlMac => s.macOf i
  | .inlCtx => s.slotsInUse
  | .khdStatus =>
    b2n s.keyhold.ekeyValid * 2 + b2n (s.tenanted || s.dev.switch.isSome) * 4 + b2n (decide (s.keyhold.aliasCert ≠ [])) * 8 +
      b2n s.keyhold.udsClosed * 16 + b2n (decide (1 ≤ s.dev.bootStep) && Config.vonNeumann) * 32 +
      (if s.keyhold.drbgZeroised then 3
       else if s.keyhold.streams.any (·.waitSince.isSome) then 2
       else if s.keyhold.streams.all (·.inst) then 1 else 0) * 2 ^ 6
  | .khdFailcnt => s.keyhold.failcnt
  | .khdWindows => s.keyhold.windows % 2 ^ 64
  | .khdCurve => s.perfRead who .khdCurve 0 % 2 ^ 32 + s.perfRead who .khdCurve 1 % 2 ^ 32 * 2 ^ 32
  | .khdEkey => if s.keyhold.ekeyValid then wordOf s.keyhold.ekeyPub i else 0
  | .tocStatus =>
    b2n s.toc.armed + b2n (!s.power.vbatOk) * 2 + b2n s.toc.cleanRead * 4 + b2n s.toc.continuity * 8 +
      b2n s.toc.lockedLatch * 16 + b2n (decide (4096 ≤ s.toc.count)) * 32
  | .tocCause => s.toc.cause + s.toc.causeState * 2 ^ 8
  | .tocCount => s.toc.count
  | .tocSense => b2n s.toc.tamper0 + b2n s.toc.tamper1 * 2 + b2n s.toc.mesh * 4 + b2n s.toc.light * 8
  | .tocTherm => b2n s.toc.therm + b2n s.toc.dischargeFail * 2
  | .sweepStatus =>
    s.sweep.lastPan + s.sweep.lastSub * 2 ^ 6 +
      (match s.sweep.slice with | some l => b2n l.targeted * 2 ^ 15 + 2 ^ 16 | none => 0) +
      b2n s.sweep.deferred * 2 ^ 17 + b2n (s.dev.st == .muffled) * 2 ^ 18 + b2n s.sweep.quick * 2 ^ 19
  | .sweepPos => s.sweep.pos
  | .sweepPasses => s.sweep.passes
  | .sweepLast => s.sweep.last
  | .bistCount => s.sweep.rowsRepaired + s.sweep.subRetired * 2 ^ 32 + s.sweep.panRetired * 2 ^ 48
  | .kstStatus => (List.range 48).foldl (fun v p => v + b2n (s.pan p).retriedTest * 2 ^ p) 0
  | .errClass => s.sweep.classes.getD i 0
  | .errLogHead => s.sweep.written
  | .errUsel => s.reg .errUsel (ownInst who)
  | .errUcnt =>
    let v := s.reg .errUsel (ownInst who)
    let k := bitsOf v 15 8 * 256 + bitsOf v 7 0
    match s.sweep.units.find? fun e => e.1 == k with
    | some e => e.2.1 + e.2.2 * 2 ^ 32
    | none => 0
  | .dbgState => s.dbg.scope + b2n (s.dbg.scope != 0) * 2 ^ 8
  | .dbgStat => s.dbg.status + b2n (s.pan (bitsOf (s.reg .dbgSel 0) 5 0)).debugHalt * 2 ^ 16
  | .dbgData => s.dbg.data
  | .dbgPcnt => if s.profile then (s.pan (bitsOf (s.reg .dbgSel 0) 5 0)).pcnt.getD i 0 else 0
  | .hcxState =>
    let c := s.ctx i
    shownState c + b2n (paused c) * 2 ^ 4 + b2n c.pauseBme * 2 ^ 5 + b2n c.pauseLink * 2 ^ 6 + b2n c.quad * 2 ^ 7 +
      (if c.st == .settling || c.st == .voided then c.hold else 0) * 2 ^ 16
  | .hcxHid => wordOf (s.ctx (i / 4)).block (i % 4)
  | .hcxCmd =>
    let f := s.fn i
    (match f.serving with | some v => cmdCode v.cmd + 2 ^ 8 | none => 0) +
      b2n (f.parked.any fun v => v.cmd == .settle) * 2 ^ 16 +
      b2n (f.parked.any fun v => cmdCode v.cmd == 0x20) * 2 ^ 17
  | .mbExpect => (s.fn i).expect
  | .mbStatus => b2n (s.fn i).stopped
  | .mbDamaged => (s.fn i).damaged
  | .rwState => b2n (windowValid (s.ctx i)) + b2n (windowValid (s.ctx i) && (s.ctx i).st == .voided) * 2
  | .rwResultLen => if windowValid (s.ctx i) && (s.ctx i).st == .released then (s.ctx i).result.length else 0
  | .rwCertLen => if windowValid (s.ctx i) then (s.ctx i).cert.length else 0
  | .rwDigest =>
    if windowValid (s.ctx (i / 12)) && (s.ctx (i / 12)).st == .released then wordOf (s.ctx (i / 12)).resultDigest (i % 12)
    else 0
  | .qCtl => let b := s.queue i; b.level + b.mode * 2 ^ 16 + b2n b.en * 2 ^ 31
  | .qOpstat => let b := s.queue i; b.opStatus + queueAvail b 0 % 2 ^ 16 * 2 ^ 16
  | .qLost | .bqpLost => (s.queue i).lost
  | .qSeq => (s.queue i).lastSeq
  | .bqpStat => let b := s.queue i; b.modeInForce + b2n b.en * 2 + (b.w - b.f) * 2 ^ 16
  | .bqpNextseq => (s.queue i).nextSeq
  | .rngCur => match (s.stew i).cur with | some t => t + 2 ^ 8 | none => 0
  | .rngHead => match readyHead s i with | some t => t + 2 ^ 8 | none => 0
  | .rngArg => (s.stew i).arg
  | .rngRes => (s.stew i).resValue + (s.stew i).resStatus * 2 ^ 48
  | .rngBudget => s.ringer.budgets.getD i 0
  | .rngQfill =>
    classFill s.ringer.items 0 + classFill s.ringer.items 1 * 2 ^ 16 + classFill s.ringer.items 2 * 2 ^ 32
  | .rngMiss => s.ringer.missCount
  | .mbDoorbell | .mbResend | .qOp | .dbgCmd | .rngCmd => 0
  | _ => s.reg r i

/-- Clearing an RC register (R15, R22, R23). -/
def State.clearRc (s : State) (who : Requester) (r : Reg) (i : Nat) : State :=
  if (regFields r).any fun f => f.acc == .rc then
    match r with
    | .qLost => s.updQueue i fun b => { b with lost := 0 }
    | .stoPcecc => s.setReg .stoPcecc (s.reg .stoPcsel (ownInst who)) 0
    | _ => s.setReg r i 0
  else s

/-! ### Checked writes -/

/-- A reserved field of the written value is nonzero (R16). -/
def rsvNonzero (r : Reg) (mask v : Nat) : Bool :=
  (regFields r).any fun f => f.acc == .rsv && (v &&& mask) / 2 ^ f.lo % 2 ^ (f.hi + 1 - f.lo) != 0

/-- A field of the written value holds a value that its definition does not list (R17). INL_PVID.VID 0 is listed only with
EN = 0, and a group address is no INL_MAC. -/
def unlisted (r : Reg) (v : Nat) : Bool :=
  ((regFields r).any fun f =>
    (f.acc == .rw || f.acc == .wo) && !f.listed.isEmpty &&
      !f.listed.any fun p => p.1 ≤ bitsOf v f.hi f.lo && bitsOf v f.hi f.lo ≤ p.2) ||
  (r == .inlPvid && bitOf v 12 && bitsOf v 11 0 == 0) || (r == .inlMac && bitOf v 40)

/-- The value after a write, field by field, by the access codes (R15). -/
def applyFields (fs : List RegField) (old v : Nat) : Nat :=
  fs.foldl (fun x f =>
    let w := bitsOf v f.hi f.lo
    let o := bitsOf old f.hi f.lo
    match f.acc with
    | .rw => setBits x f.hi f.lo w
    | .w1c => setBits x f.hi f.lo (o - (o &&& w))
    | .w1s => setBits x f.hi f.lo (o ||| w)
    | _ => x) old

/-- Whether a checked write is to take effect, and the flag of the rule that discards it: the host-write rule of the block,
unlisted values (R17), the ordering rule of GOV_VLIMIT. Where two of them meet, the first of this order sets its flag alone
(DESIGN CHOICE, log entry 63). -/
def State.checkWrite (s : State) (who : Requester) (r : Reg) (i v : Nat) : Bool × State :=
  let (er, ei, hw) := errRegOf r i
  if !mayWrite who r then
    match who, hw with
    | .host _, some b => (false, s.setBit er ei b)
    | _, _ => (false, s)
  else if unlisted r v then (false, s.setBit er ei 1)
  else if r == .govVlimit && decide (bitsOf v 15 8 < bitsOf v 7 0) then (false, s.setBit er ei 2)
  else (true, s)

/-- RSV_WRITE of the block, where the bits written hold a nonzero value in a reserved field: whatever else the write does, and
also where another rule discards it (R16, R21). It is set after the write's own effect, so a write that clears it sets it (R22).
A requester with no path to the register writes nothing of it. -/
def State.rsvFlag (s : State) (who : Requester) (r : Reg) (i mask v : Nat) : State :=
  if mayRead who r && rsvNonzero r mask v then s.setBit (errRegOf r i).1 (errRegOf r i).2.1 0 else s

/-- The stored instance that a requester's write to (r, i) reaches. -/
def storeInst (who : Requester) (r : Reg) (i : Nat) : Nat :=
  if r == .trimSel || r == .stoPcsel || r == .errUsel then ownInst who else i

/-- The effect of a checked write on registers without an action of their own. The sticky bits of TOC_THERM stand in the
always-on domain, RNG_ARG and the budgets in the Ringer. -/
def State.plainWrite (s : State) (who : Requester) (r : Reg) (i v : Nat) : State :=
  match r with
  | .tocTherm =>
    { s with toc := { s.toc with therm := s.toc.therm && !bitOf v 0, dischargeFail := s.toc.dischargeFail && !bitOf v 1 } }
  | .rngArg => s.updStew i fun w => { w with arg := v % 2 ^ 64 }
  | .inlMac => s.setReg .inlMac i (v % 2 ^ 48 + 2 ^ 48)
  | .rngBudget => { s with ringer := { s.ringer with budgets := updAt s.ringer.budgets i fun _ => v % 2 ^ 32 } }
  | _ =>
    let k := storeInst who r i
    s.setReg r k (applyFields (regFields r) (s.reg r k) v)

/-- The full value that a write of `width` bytes at byte `b` of a register gives it, and the mask of the bits written
(R24): a 32-bit write to one half of a 64-bit register (no register of 64 bits has a W1C or WO field) leaves the other
half as it reads. -/
def fullValue (pl : RegPlace) (old b width v : Nat) : Nat × Nat :=
  if pl.width = 64 ∧ width = 4 then
    (setBits old (8 * b + 31) (8 * b) (v % 2 ^ 32), (2 ^ 32 - 1) * 2 ^ (8 * b))
  else (v % 2 ^ pl.width, 2 ^ pl.width - 1)

end Sys2Proof.Machine
end

