-- ==== Sys2Proof/Machine/Cadence.lean ====
section
/-! DEFINITION. The cadence block (CAD, R70 to R95): the toll counter, the cadence governor, AVSBus, the readings. -/
namespace Sys2Proof.Machine

open Sys2Proof

/-! ### The toll tick -/

/-- The CAD block is out of reset: the toll counter counts from SYS_RST_N rising on (R79; DEDUCED, log entry 18). -/
def State.cadRuns (s : State) : Bool :=
  match s.dev.st with
  | .cold => false
  | .held => s.dev.thermWait
  | _ => true

/-- One tick of a context's share window: only unpaused TALLIED time counts (R372). -/
def windowTick (c : Ctx) : Ctx :=
  if c.windowOn && c.st == .tallied && !paused c then { c with windowLeft := c.windowLeft - 1 } else c

/-- TOLL_TICK (R79): the counter rises by one and wraps at 2^64; share windows count with it (R372). -/
def execTollTick (s : State) : Host.Outcome State Fault Refusal :=
  s.done (if s.cadRuns then
      { s with cad := { s.cad with toll := (s.cad.toll + 1) % 2 ^ 64 }, ctxs := s.ctxs.map windowTick }
    else s)

/-! ### The governor -/

/-- The power cap in mW, vmin, vmax and the FIXED setpoint in units of 5 mV, EN and MODE. -/
def State.govCap (s : State) : Nat := bitsOf (s.reg .govCap 0) 6 0 * 5000
def State.govVmin (s : State) : Nat := bitsOf (s.reg .govVlimit 0) 7 0
def State.govVmax (s : State) : Nat := bitsOf (s.reg .govVlimit 0) 15 8
def State.govVfixed (s : State) : Nat := bitsOf (s.reg .govVfixed 0) 7 0
def State.govEn (s : State) : Bool := bitOf (s.reg .govCtl 0) 0
def State.govFixed (s : State) : Bool := bitOf (s.reg .govCtl 0) 1

/-- min(max(v, vmin), vmax). -/
def clampV (vmin vmax v : Nat) : Nat := min (max v vmin) vmax

/-- The branch of R81 that decides a run: 1 emergency, 2 step down, 3 step up, 0 none. Tj in m°C, power and cap in mW. -/
def govBranch (en : Bool) (cap power : Nat) (tj : Int) : Nat :=
  if 95000 ≤ tj then 1
  else if !en then 0
  else if 88000 ≤ tj ∨ cap < power then 2
  else if tj < 86000 ∧ power + 5000 < cap then 3
  else 0

/-- Step of the second branch in units of 5 mV: 10 mV while over ≤ 0.05 and Tj < 92 °C, 20 mV otherwise. -/
def govStep (cap power : Nat) (tj : Int) : Nat := if 20 * (power - cap) ≤ cap ∧ tj < 92000 then 2 else 4

/-- The setpoint and the brake after a run's branch; `byBrake` in FIXED mode, where the second and third branches act
through the brake alone (R81). -/
def govAct (branch step vmin vmax : Nat) (byBrake : Bool) (v brake : Nat) : Nat × Nat :=
  match branch with
  | 1 => (vmin, max brake 2)
  | 2 =>
    if byBrake then (v, min 3 (brake + 1))
    else if vmin + step ≤ v then (v - step, brake)
    else (vmin, min 3 (brake + 1))
  | 3 => if brake ≠ 0 then (v, brake - 1) else if byBrake then (v, brake) else (min (v + 1) vmax, brake)
  | _ => (v, brake)

/-- The brake after a run in AVS fault (R85). -/
def govActFault (branch brake : Nat) : Nat :=
  match branch with
  | 1 => 3
  | 2 => min 3 (brake + 1)
  | 3 => brake - 1
  | _ => brake

/-- A THERMAL event (R678, Table QUE-4): power rounded down to 5 W, Tj to a whole degree (R37). -/
def State.thermalEvent (s : State) (reason power : Nat) (tj : Int) : State :=
  s.event 4 0x18 0xFF 0
    ([BitVec.ofNat 8 reason, BitVec.ofNat 8 s.cad.brake] ++ leBytes 2 (unsigned 16 (tj / 1000)) ++
      leBytes 2 (power / 5000 * 5))

/-- The AVSBus transaction at the head of the list goes out (R84). -/
def State.avsSend (s : State) : State :=
  match s.cad.avs with
  | [] => s
  | t :: _ => s.emit (.avs t.kind (5 * t.value))

/-- Transactions join the list; the first of an empty list goes out at once. -/
def State.avsQueue (s : State) (l : List AvsTx) : State :=
  let idle := s.cad.avs.isEmpty
  let s := { s with cad := { s.cad with avs := s.cad.avs ++ l } }
  if idle then s.avsSend else s

/-- A setpoint write with its readback. -/
def avsWrite (v : Nat) : List AvsTx := [{ kind := 1, value := v }, { kind := 2, value := v }]

/-- The flags and events of a run: THROTTLE_ENTER and BRAKE_ENTER, reasons 1 and 3 of R678. The first run since a reset is taken to
come after a run with neither throttling nor 95 °C, so it may raise both reasons (DESIGN CHOICE, log entry 64: R678 speaks of
runs that follow a run). -/
def State.govReport (s : State) (oldBrake power : Nat) (tj : Int) (thr thrP : Bool) : State :=
  let enter := (thr || thrP) && !(s.cad.throttleT || s.cad.throttleP)
  let hot := decide (95000 ≤ tj)
  let first := hot && !s.cad.hot
  let s := { s with cad := { s.cad with throttleT := thr, throttleP := thrP, hot := hot } }
  let s := if enter then (s.setBit .cadEvt 0 0).thermalEvent 1 power tj else s
  let s := if oldBrake == 0 && s.cad.brake != 0 then s.setBit .cadEvt 0 1 else s
  if first then s.thermalEvent 3 power tj else s

/-- One run (R80 to R85, R91, R92). With EN = 0 only the emergency branch acts and VDDC holds its setpoint. -/
def State.govern (s : State) (power : Nat) (tj : Int) : State :=
  let en := s.govEn
  let cap := s.govCap
  let vmin := s.govVmin
  let vmax := s.govVmax
  let b := govBranch en cap power tj
  let old := s.cad.brake
  let v0 := if !en then s.cad.vset else if s.govFixed then clampV vmin vmax s.govVfixed else clampV vmin vmax s.cad.vset
  let (v, brake) :=
    if s.cad.avsFault then (vmax, govActFault b old) else govAct b (govStep cap power tj) vmin vmax s.govFixed v0 old
  let acts := b == 1 || b == 2
  let oldV := s.cad.vset
  let s := { s with cad := { s.cad with
    vset := v, brake := brake, runBad := false, lastPower := power, lastTj := tj
    capUnmet := acts && decide (cap < power) && old == 3 && brake == 3 } }
  let s := s.govReport old power tj (acts && decide (88000 ≤ tj)) (acts && decide (cap < power))
  if s.cad.avsFault then s.avsQueue ({ kind := 0, value := 0 } :: avsWrite vmax)
  else if v = oldV then s
  else s.avsQueue (avsWrite v)

/-- GOVERNOR_RUN (R80, R81). The governor runs on every 1,000th toll tick, from step 4 of Table PKG-10 on. -/
def execGovernorRun (power : Nat) (tj : Int) (s : State) : Host.Outcome State Fault Refusal :=
  s.done (if s.cad.running && s.cad.toll % 1000 == 0 then s.govern power tj else s)

/-- THERMAL_CAP_REPEAT (R92, R678): once per second while the condition lasts. -/
def execThermalCapRepeat (s : State) : Host.Outcome State Fault Refusal :=
  s.done (if s.cad.running && s.cad.capUnmet then s.thermalEvent 2 s.cad.lastPower s.cad.lastTj else s)

/-- AVS fault is entered (R85): flag and event, VDDC assumed at vmax; what was still to be sent is given up. -/
def State.avsFault (s : State) : State :=
  let s := { s with cad := { s.cad with
    avsFault := true, vset := s.govVmax, goodRuns := 0, runBad := false, avs := [] } }
  (s.setBit .cadEvt 0 2).fault 2 6 0 (statusCode .lastingFault) none 0 0

/-- The end of the run's last transaction in AVS fault: the third good run in a row leaves it (R85). -/
def State.avsRunEnd (s : State) : State :=
  if s.cad.runBad then { s with cad := { s.cad with goodRuns := 0 } }
  else if 3 ≤ s.cad.goodRuns + 1 then { s with cad := { s.cad with avsFault := false, goodRuns := 0 } }
  else { s with cad := { s.cad with goodRuns := s.cad.goodRuns + 1 } }

/-- The transaction at the head has ended: the next one goes out. -/
def State.avsNext (s : State) (t : AvsTx) (rest : List AvsTx) : State :=
  let s := { s with cad := { s.cad with avs := rest } }
  (if s.cad.avsFault && t.kind == 2 then s.avsRunEnd else s).avsSend

/-- What is sent again after a first failure (R85): the transaction itself; for a readback that came and missed the window, the
write of the setpoint with its readback, for that write's setpoint was not reached. A write that goes out a second time has had its
one retry. -/
def avsAgain (t : AvsTx) (missed : Bool) (rest : List AvsTx) : List AvsTx :=
  if missed then
    { kind := 1, value := t.value, retried := true, rewritten := true } :: { t with retried := true, rewritten := true } :: rest
  else if t.kind = 1 then
    { t with retried := true } :: (rest.take 1).map (fun r => { r with rewritten := true }) ++ rest.drop 1
  else { t with retried := true } :: rest

/-- A transaction fails for good (R85, R118). After the first Status read of a start the governor runs, in AVS fault; in AVS fault the
run is bad, and a write that fails takes its readback with it. -/
def State.avsFails (s : State) (t : AvsTx) (rest : List AvsTx) : State :=
  if t.first then
    let s := { s with cad := { s.cad with running := true } }
    if s.cad.avsFault then s.avsNext t rest else s.avsFault
  else if s.cad.avsFault then
    ({ s with cad := { s.cad with runBad := true } }).avsNext { t with kind := if t.kind = 1 then 2 else t.kind }
      (if t.kind = 1 then rest.drop 1 else rest)
  else s.avsFault

/-- A transaction succeeds: a retry that did is a TRANSIENT fault (R646); the first Status read of a start starts the governor. -/
def State.avsGood (s : State) (t : AvsTx) (rest : List AvsTx) : State :=
  let s := if t.retried && !(t.kind == 1 && t.rewritten) then s.faultRaw 1 6 0 (statusCode .transientRetried) none 0 0 else s
  (if t.first then { s with cad := { s.cad with running := true } } else s).avsNext t rest

/-- AVS_TRANSACTION_DONE (R84, R85, R118): `ok` says that the slave answered with a good CRC and, after a write, in time; `mv` is
what a readback gave. A readback more than 15 mV from its setpoint misses the window. -/
def execAvsTransactionDone (ok : Bool) (mv : Nat) (s : State) : Host.Outcome State Fault Refusal :=
  match s.cad.avs with
  | [] => .next s
  | t :: rest =>
    let missed := ok && t.kind == 2 && !(decide (mv ≤ 5 * t.value + 15) && decide (5 * t.value ≤ mv + 15))
    if ok && !missed then s.done (s.avsGood t rest)
    else if (if missed then t.rewritten else t.retried) then s.done (s.avsFails t rest)
    else s.done ({ s with cad := { s.cad with avs := avsAgain t missed rest } }).avsSend

/-- READING_UPDATE (R37, R80): power in mW rounded down to 5 W, Tj in m°C to a whole degree, cadence in 0.01 Ghs. -/
def execReadingUpdate (power : Nat) (tj : Int) (kettle : Nat) (s : State) : Host.Outcome State Fault Refusal :=
  s.done (if s.cadRuns then
      { s with cad := { s.cad with readPower := power / 5000 * 5, readTj := tj / 1000, readKettle := kettle } }
    else s)

end Sys2Proof.Machine
end

