-- ==== Sys2Proof/Machine/Crypto.lean ====
section
/-! DEFINITION. The cryptographic functions that the spec names by their standards: SHA-2 (FIPS 180-4), HMAC and HKDF (RFC
2104, RFC 5869), AES-256 (FIPS 197) with CTR and GCM (SP 800-38A, 38D), ChaCha20 (RFC 8439), X25519 (RFC 7748), ECDSA and
ECDH on P-256 and P-384 (FIPS 186-5), Ed25519 verification (RFC 8032), CTR_DRBG (SP 800-90A), HPKE (RFC 9180). -/
namespace Sys2Proof.Machine.Crypto

open Sys2Proof (Byte Bytes)
open Sys2Proof.Machine

/-! ### SHA-2 -/

/-- The greatest x below 2^b (added to `x`) whose image under the growing `f` does not exceed `n`. -/
def rootBits (f : Nat → Nat) (n : Nat) : Nat → Nat → Nat
  | 0, x => x
  | b + 1, x => rootBits f n b (if f (x + 2 ^ b) ≤ n then x + 2 ^ b else x)

/-- The first 80 primes. -/
def primes80 : List Nat :=
  ((List.range 410).filter fun n => decide (2 ≤ n) && (List.range n).all fun d => d < 2 || n % d != 0).take 80

/-- The first `w` bits of the fractional part of the cube root, and of the square root, of `p`. -/
def cbrtFrac (w p : Nat) : Nat := rootBits (fun x => x * x * x) (p * 2 ^ (3 * w)) (w + 4) 0 % 2 ^ w
def sqrtFrac (w p : Nat) : Nat := rootBits (fun x => x * x) (p * 2 ^ (2 * w)) (w + 5) 0 % 2 ^ w

def k256 : List Nat := (primes80.take 64).map (cbrtFrac 32)
def k512 : List Nat := primes80.map (cbrtFrac 64)
def iv256 : List Nat := (primes80.take 8).map (sqrtFrac 32)
def iv512 : List Nat := (primes80.take 8).map (sqrtFrac 64)
def iv384 : List Nat := ((primes80.drop 8).take 8).map (sqrtFrac 64)

/-- Rotation to the right in a word of `w` bits. -/
def rotr (w n x : Nat) : Nat := (x / 2 ^ n + x * 2 ^ (w - n)) % 2 ^ w

/-- The parameters of a SHA-2 function: word size, and the rotation amounts of the four sigma functions. -/
structure ShaParams where
  w : Nat
  s0 : Nat × Nat × Nat
  s1 : Nat × Nat × Nat
  g0 : Nat × Nat × Nat
  g1 : Nat × Nat × Nat

def p256 : ShaParams := ⟨32, (2, 13, 22), (6, 11, 25), (7, 18, 3), (17, 19, 10)⟩
def p512 : ShaParams := ⟨64, (28, 34, 39), (14, 18, 41), (1, 8, 7), (19, 61, 6)⟩

def bigSigma (w : Nat) (r : Nat × Nat × Nat) (x : Nat) : Nat := rotr w r.1 x ^^^ rotr w r.2.1 x ^^^ rotr w r.2.2 x
def smallSigma (w : Nat) (r : Nat × Nat × Nat) (x : Nat) : Nat := rotr w r.1 x ^^^ rotr w r.2.1 x ^^^ (x / 2 ^ r.2.2)

/-- The message schedule, newest word first. -/
def schedule (p : ShaParams) : Nat → List Nat → List Nat
  | 0, ws => ws
  | n + 1, ws =>
    let x := (smallSigma p.w p.g1 (ws.getD 1 0) + ws.getD 6 0 + smallSigma p.w p.g0 (ws.getD 14 0) + ws.getD 15 0) % 2 ^ p.w
    schedule p n (x :: ws)

/-- One round on the eight working variables. -/
def shaRound (p : ShaParams) (v : List Nat) (kw : Nat × Nat) : List Nat :=
  match v with
  | [a, b, c, d, e, f, g, h] =>
    let t1 := h + bigSigma p.w p.s1 e + ((e &&& f) ^^^ ((2 ^ p.w - 1 - e) &&& g)) + kw.1 + kw.2
    let t2 := bigSigma p.w p.s0 a + ((a &&& b) ^^^ (a &&& c) ^^^ (b &&& c))
    [(t1 + t2) % 2 ^ p.w, a, b, c, (d + t1) % 2 ^ p.w, e, f, g]
  | _ => v

/-- The compression of one block. -/
def compress (p : ShaParams) (ks h : List Nat) (block : Bytes) : List Nat :=
  let ws := (chunksOf (p.w / 8) 16 block).map beNat
  let sch := (schedule p (ks.length - 16) ws.reverse).reverse
  let v := (ks.zip sch).foldl (shaRound p) h
  (h.zip v).map fun x => (x.1 + x.2) % 2 ^ p.w

/-- The padded message. -/
def shaPad (p : ShaParams) (m : Bytes) : Bytes :=
  let blk := 2 * p.w
  let lenB := p.w / 4
  let z := (blk - (m.length + 1 + lenB) % blk) % blk
  m ++ [0x80] ++ List.replicate z 0 ++ beBytes lenB (8 * m.length)

def sha2 (p : ShaParams) (ks iv : List Nat) (outLen : Nat) (m : Bytes) : Bytes :=
  let pm := shaPad p m
  let h := (chunksOf (2 * p.w) (pm.length / (2 * p.w)) pm).foldl (compress p ks) iv
  (h.flatMap (beBytes (p.w / 8))).take outLen

def sha256 (m : Bytes) : Bytes := sha2 p256 k256 iv256 32 m
def sha384 (m : Bytes) : Bytes := sha2 p512 k512 iv384 48 m
def sha512 (m : Bytes) : Bytes := sha2 p512 k512 iv512 64 m

/-! ### HMAC and HKDF -/

/-- A hash: its function, its block length and its output length. -/
structure Hash where
  f : Bytes → Bytes
  block : Nat
  out : Nat

def hash256 : Hash := ⟨sha256, 64, 32⟩
def hash384 : Hash := ⟨sha384, 128, 48⟩

def hmac (h : Hash) (key m : Bytes) : Bytes :=
  let k := padTo h.block (if h.block < key.length then h.f key else key)
  h.f (k.map (· ^^^ 0x5C) ++ h.f (k.map (· ^^^ 0x36) ++ m))

def hkdfExtract (h : Hash) (salt ikm : Bytes) : Bytes :=
  hmac h (if salt = [] then List.replicate h.out 0 else salt) ikm

/-- The blocks T(i), T(i+1), …. -/
def hkdfBlocks (h : Hash) (prk info : Bytes) : Nat → Nat → Bytes → Bytes
  | 0, _, _ => []
  | n + 1, i, prev =>
    let t := hmac h prk (prev ++ info ++ [BitVec.ofNat 8 i])
    t ++ hkdfBlocks h prk info n (i + 1) t

def hkdfExpand (h : Hash) (prk info : Bytes) (len : Nat) : Bytes :=
  (hkdfBlocks h prk info ((len + h.out - 1) / h.out) 1 []).take len

/-! ### AES-256 -/

/-- Multiplication in GF(2^8) modulo x^8 + x^4 + x^3 + x + 1. -/
def gmul8 : Nat → Nat → Nat → Nat
  | 0, _, _ => 0
  | n + 1, a, b =>
    (if b % 2 = 1 then a else 0) ^^^ gmul8 n (if 128 ≤ a then (2 * a % 256) ^^^ 0x1B else 2 * a) (b / 2)

/-- The inverse a^254 (0 for 0), then the affine map: SubBytes. -/
def sboxOf (a : Nat) : Nat :=
  let m := gmul8 8
  let a2 := m a a; let a4 := m a2 a2; let a8 := m a4 a4; let a16 := m a8 a8
  let a32 := m a16 a16; let a64 := m a32 a32; let a128 := m a64 a64
  let i := m a2 (m a4 (m a8 (m a16 (m a32 (m a64 a128)))))
  let r (k : Nat) := (i * 2 ^ k % 256) + i / 2 ^ (8 - k)
  i ^^^ r 1 ^^^ r 2 ^^^ r 3 ^^^ r 4 ^^^ 0x63

def sboxTable : Array Nat := ((List.range 256).map sboxOf).toArray
def sbox (a : Nat) : Nat := sboxTable.getD a 0

/-- The key schedule: four-byte words, newest first, `i` words made so far. -/
def aesExpand : Nat → Nat → List (List Nat) → List (List Nat)
  | 0, _, ws => ws
  | n + 1, i, ws =>
    let t := ws.getD 0 []
    let t := if i % 8 = 0 then
        let r := ((t.drop 1) ++ t.take 1).map sbox
        (r.zip [2 ^ (i / 8 - 1), 0, 0, 0]).map fun x => x.1 ^^^ x.2
      else if i % 8 = 4 then t.map sbox else t
    let w := (t.zip (ws.getD 7 [])).map fun x => x.1 ^^^ x.2
    aesExpand n (i + 1) (w :: ws)

/-- The fifteen round keys of AES-256, sixteen bytes each. -/
def aesKeys (key : Bytes) : List (List Nat) :=
  let ws := (aesExpand 52 8 ((chunksOf 4 8 key).map (·.map BitVec.toNat)).reverse).reverse
  (List.range 15).map fun r => ((ws.drop (4 * r)).take 4).flatten

def shiftRows (s : List Nat) : List Nat := (List.range 16).map fun i => s.getD ((i + 4 * (i % 4)) % 16) 0

def mixColumns (s : List Nat) : List Nat :=
  (List.range 16).map fun i =>
    let c := 4 * (i / 4)
    let at_ (k : Nat) := s.getD (c + (i + k) % 4) 0
    gmul8 8 (at_ 0) 2 ^^^ gmul8 8 (at_ 1) 3 ^^^ at_ 2 ^^^ at_ 3

def xorNat (a b : List Nat) : List Nat := a.zipWith (· ^^^ ·) b

/-- One block under expanded keys. -/
def aesBlockK (ks : List (List Nat)) (b : Bytes) : Bytes :=
  let s0 := xorNat (b.map BitVec.toNat) (ks.getD 0 [])
  let s := (List.range 13).foldl (fun s r => xorNat (mixColumns (shiftRows (s.map sbox))) (ks.getD (r + 1) [])) s0
  (xorNat (shiftRows (s.map sbox)) (ks.getD 14 [])).map (BitVec.ofNat 8)

/-- AES-256 encryption of one block. -/
def aes256 (key b : Bytes) : Bytes := aesBlockK (aesKeys key) b

/-- `n` blocks of keystream; the counter is the block as a 128-bit big-endian number. -/
def ctrBlocks (ks : List (List Nat)) : Nat → Nat → Bytes
  | 0, _ => []
  | n + 1, c => aesBlockK ks (beBytes 16 c) ++ ctrBlocks ks n ((c + 1) % 2 ^ 128)

/-- `len` bytes of AES-256-CTR keystream from counter block `c`. -/
def aesCtr (key : Bytes) (c len : Nat) : Bytes := (ctrBlocks (aesKeys key) ((len + 15) / 16) c).take len

/-! ### GCM -/

/-- Multiplication in GF(2^128) in GCM's bit order (bit 0 is the leftmost). -/
def gmul128 : Nat → Nat → Nat → Nat → Nat
  | 0, _, _, z => z
  | n + 1, x, v, z =>
    gmul128 n x (if v % 2 = 1 then v / 2 ^^^ (0xE1 * 2 ^ 120) else v / 2) (if x / 2 ^ n % 2 = 1 then z ^^^ v else z)

def ghash (h : Nat) (bs : List Bytes) : Nat := bs.foldl (fun y b => gmul128 128 (y ^^^ beNat (padTo 16 b)) h 0) 0

/-- The tag of GCM over additional data and ciphertext, under a 96-bit nonce. -/
def gcmTag (ks : List (List Nat)) (nonce aad ct : Bytes) : Bytes :=
  let h := beNat (aesBlockK ks (List.replicate 16 0))
  let blocks (b : Bytes) := chunksOf 16 ((b.length + 15) / 16) b
  let y := ghash h (blocks aad ++ blocks ct ++ [beBytes 8 (8 * aad.length) ++ beBytes 8 (8 * ct.length)])
  xorBytes (beBytes 16 y) (aesBlockK ks (nonce ++ beBytes 4 1))

/-- GCM's counter keystream from the second block, the 32-bit counter wrapping by itself. -/
def gctr (ks : List (List Nat)) (nonce : Bytes) : Nat → Nat → Bytes
  | 0, _ => []
  | n + 1, c => aesBlockK ks (nonce ++ beBytes 4 c) ++ gctr ks nonce n ((c + 1) % 2 ^ 32)

def gcmSeal (key nonce aad pt : Bytes) : Bytes :=
  let ks := aesKeys key
  let ct := xorBytes pt (gctr ks nonce ((pt.length + 15) / 16) 2)
  ct ++ gcmTag ks nonce aad ct

/-- Decryption of ciphertext and tag; none when the tag fails. -/
def gcmOpen (key nonce aad ctTag : Bytes) : Option Bytes :=
  if ctTag.length < 16 then none
  else
    let ks := aesKeys key
    let ct := ctTag.take (ctTag.length - 16)
    if gcmTag ks nonce aad ct = ctTag.drop (ctTag.length - 16) then
      some (xorBytes ct (gctr ks nonce ((ct.length + 15) / 16) 2))
    else none

/-! ### ChaCha20 -/

def rotl32 (n x : Nat) : Nat := (x * 2 ^ n + x / 2 ^ (32 - n)) % 2 ^ 32

def quarter (s : List Nat) (a b c d : Nat) : List Nat :=
  let g (i : Nat) (s : List Nat) := s.getD i 0
  let s := s.set a ((g a s + g b s) % 2 ^ 32); let s := s.set d (rotl32 16 (g d s ^^^ g a s))
  let s := s.set c ((g c s + g d s) % 2 ^ 32); let s := s.set b (rotl32 12 (g b s ^^^ g c s))
  let s := s.set a ((g a s + g b s) % 2 ^ 32); let s := s.set d (rotl32 8 (g d s ^^^ g a s))
  let s := s.set c ((g c s + g d s) % 2 ^ 32)
  s.set b (rotl32 7 (g b s ^^^ g c s))

def doubleRound (s : List Nat) : List Nat :=
  let s := quarter (quarter (quarter (quarter s 0 4 8 12) 1 5 9 13) 2 6 10 14) 3 7 11 15
  quarter (quarter (quarter (quarter s 0 5 10 15) 1 6 11 12) 2 7 8 13) 3 4 9 14

def chachaBlock (key nonce : Bytes) (ctr : Nat) : Bytes :=
  let init := [0x61707865, 0x3320646E, 0x79622D32, 0x6B206574] ++ (chunksOf 4 8 key).map leNat ++ [ctr % 2 ^ 32] ++
    (chunksOf 4 3 nonce).map leNat
  let w := (List.range 10).foldl (fun s _ => doubleRound s) init
  (init.zip w).flatMap fun x => leBytes 4 ((x.1 + x.2) % 2 ^ 32)

def chachaBlocks (key nonce : Bytes) : Nat → Nat → Bytes
  | 0, _ => []
  | n + 1, c => chachaBlock key nonce c ++ chachaBlocks key nonce n (c + 1)

/-! ### Arithmetic modulo a prime -/

def powMod (m : Nat) : Nat → Nat → Nat → Nat
  | 0, _, _ => 1 % m
  | n + 1, b, e => if e % 2 = 1 then b * powMod m n (b * b % m) (e / 2) % m else powMod m n (b * b % m) (e / 2)

def invMod (m a : Nat) : Nat := powMod m 521 (a % m) (m - 2)
def subMod (m a b : Nat) : Nat := (a + (m - b % m)) % m

/-! ### X25519 -/

def p25519 : Nat := 2 ^ 255 - 19

/-- The Montgomery ladder of RFC 7748, bit `t − 1` first. -/
def ladder (k x1 : Nat) : Nat → Nat → Nat → Nat → Nat → Nat → Nat
  | 0, x2, z2, _, _, _ => x2 * invMod p25519 z2 % p25519
  | t + 1, x2, z2, x3, z3, swap =>
    let kt := k / 2 ^ t % 2
    let sw := (swap + kt) % 2 = 1
    let (x2, x3) := if sw then (x3, x2) else (x2, x3)
    let (z2, z3) := if sw then (z3, z2) else (z2, z3)
    let p := p25519
    let a := (x2 + z2) % p; let aa := a * a % p
    let b := subMod p x2 z2; let bb := b * b % p
    let e := subMod p aa bb
    let c := (x3 + z3) % p; let d := subMod p x3 z3
    let da := d * a % p; let cb := c * b % p
    let x3 := (da + cb) * (da + cb) % p
    let dm := subMod p da cb
    let z3 := x1 * (dm * dm % p) % p
    ladder k x1 t (aa * bb % p) (e * (aa + 121665 * e) % p) x3 z3 kt

/-- The last conditional swap exchanges the pairs when the lowest scalar bit is 1; a clamped scalar's is 0. -/
def clamp (k : Nat) : Nat := k % 2 ^ 254 / 8 * 8 + 2 ^ 254

/-- X25519 on a scalar of 32 bytes and a u-coordinate already adjusted (R489). -/
def x25519 (scalar : Bytes) (u : Nat) : Bytes :=
  leBytes 32 (ladder (clamp (leNat scalar)) u 255 1 0 u 1 0)

/-! ### Short Weierstrass curves -/

structure Curve where
  p : Nat
  b : Nat
  n : Nat
  g : Nat × Nat
  len : Nat

def cP256 : Curve where
  p := 2 ^ 256 - 2 ^ 224 + 2 ^ 192 + 2 ^ 96 - 1
  b := 0x5ac635d8aa3a93e7b3ebbd55769886bc651d06b0cc53b0f63bce3c3e27d2604b
  n := 0xffffffff00000000ffffffffffffffffbce6faada7179e84f3b9cac2fc632551
  g := (0x6b17d1f2e12c4247f8bce6e563a440f277037d812deb33a0f4a13945d898c296,
        0x4fe342e2fe1a7f9b8ee7eb4a7c0f9e162bce33576b315ececbb6406837bf51f5)
  len := 32

def cP384 : Curve where
  p := 2 ^ 384 - 2 ^ 128 - 2 ^ 96 + 2 ^ 32 - 1
  b := 0xb3312fa7e23ee7e4988e056be3f82d19181d9c6efe8141120314088f5013875ac656398d8a2ed19d2a85c8edd3ec2aef
  n := 0xffffffffffffffffffffffffffffffffffffffffffffffffc7634d81f4372ddf581a0db248b0a77aecec196accc52973
  g := (0xaa87ca22be8b05378eb1c71ef320ad746e1d3b628ba79b9859f741e082542a385502f25dbf55296c3a545e3872760ab7,
        0x3617de4a96262c6f5d9e98bf9292dc29f8f41dbd289a147ce9da3113b5f0b8c00a60b1ce1d7e819d7a431d7c90ea0e5f)
  len := 48

/-- The sum of two points; none is the identity. -/
def ecAdd (c : Curve) : Option (Nat × Nat) → Option (Nat × Nat) → Option (Nat × Nat)
  | none, q => q
  | q, none => q
  | some (x1, y1), some (x2, y2) =>
    let fin (l : Nat) : Option (Nat × Nat) :=
      let x3 := subMod c.p (subMod c.p (l * l % c.p) x1) x2
      some (x3, subMod c.p (l * subMod c.p x1 x3 % c.p) y1)
    if x1 = x2 then
      if (y1 + y2) % c.p = 0 then none
      else fin ((3 * (x1 * x1 % c.p) + (c.p - 3)) * invMod c.p (2 * y1) % c.p)
    else fin (subMod c.p y2 y1 * invMod c.p (subMod c.p x2 x1) % c.p)

/-- Scalar multiplication over `t` bits, high bit first. -/
def ecMul (c : Curve) (q : Option (Nat × Nat)) (k : Nat) : Nat → Option (Nat × Nat) → Option (Nat × Nat)
  | 0, r => r
  | t + 1, r =>
    let d := ecAdd c r r
    ecMul c q k t (if k / 2 ^ t % 2 = 1 then ecAdd c d q else d)

def ecTimes (c : Curve) (k : Nat) (q : Option (Nat × Nat)) : Option (Nat × Nat) := ecMul c q k (8 * c.len) none

def onCurve (c : Curve) (x y : Nat) : Bool := y * y % c.p == (x * x % c.p * x + (c.p - 3) * x + c.b) % c.p

/-- SEC1 uncompressed form. -/
def sec1 (c : Curve) : Option (Nat × Nat) → Bytes
  | some (x, y) => 4 :: (beBytes c.len x ++ beBytes c.len y)
  | none => [0]

def pointOf (c : Curve) (bs : Bytes) : Option (Nat × Nat) := some (beAt bs 1 c.len, beAt bs (1 + c.len) c.len)

/-- ECDSA: signature with scalar `d` and nonce `k` on a hash; none when r or s is 0. -/
def ecdsaSign (c : Curve) (d k : Nat) (h : Bytes) : Option Bytes :=
  match ecTimes c k (some c.g) with
  | none => none
  | some (x, _) =>
    let r := x % c.n
    let s := invMod c.n k * ((beNat (h.take c.len) + r * d) % c.n) % c.n
    if r = 0 ∨ s = 0 then none else some (beBytes c.len r ++ beBytes c.len s)

/-- ECDSA: verification on valid inputs. -/
def ecdsaVerify (c : Curve) (pub h sig : Bytes) : Bool :=
  let r := beAt sig 0 c.len
  let s := beAt sig c.len c.len
  let w := invMod c.n s
  let u1 := beNat (h.take c.len) * w % c.n
  let u2 := r * w % c.n
  match ecAdd c (ecTimes c u1 (some c.g)) (ecTimes c u2 (pointOf c pub)) with
  | none => false
  | some (x, _) => x % c.n == r

/-! ### Ed25519 -/

def lEd : Nat := 2 ^ 252 + 27742317777372353535851937790883648493
def dEd : Nat := subMod p25519 0 (121665 * invMod p25519 121666 % p25519)

/-- The sum on the twisted Edwards curve, affine. -/
def edAdd (a b : Nat × Nat) : Nat × Nat :=
  let p := p25519
  let t := dEd * (a.1 * b.1 % p) % p * (a.2 * b.2 % p) % p
  ((a.1 * b.2 + b.1 * a.2) % p * invMod p (1 + t) % p, (a.2 * b.2 + a.1 * b.1) % p * invMod p (subMod p 1 t) % p)

def edMul (q : Nat × Nat) (k : Nat) : Nat → Nat × Nat → Nat × Nat
  | 0, r => r
  | t + 1, r =>
    let d := edAdd r r
    edMul q k t (if k / 2 ^ t % 2 = 1 then edAdd d q else d)

/-- The x-coordinate of a y with a sign bit, where there is one (RFC 8032, section 5.1.3). -/
def edX (y sign : Nat) : Option Nat :=
  let p := p25519
  let u := subMod p (y * y % p) 1
  let v := (dEd * (y * y % p) + 1) % p
  let x2 := u * invMod p v % p
  let x := powMod p 255 x2 ((p + 3) / 8)
  let x := if x * x % p = x2 then x else x * powMod p 255 2 ((p - 1) / 4) % p
  if x * x % p ≠ x2 then none else some (if x % 2 = sign then x else subMod p 0 x)

/-- The outcome of decoding a point: refused as not canonical, refused as not on the curve, or the point. -/
inductive EdPoint where
  | notCanonical | notOnCurve
  | point (x y : Nat)

def edDecode (bs : Bytes) : EdPoint :=
  let v := leNat bs
  let y := v % 2 ^ 255
  let sign := v / 2 ^ 255 % 2
  if p25519 ≤ y then .notCanonical
  else match edX y sign with
    | none => .notOnCurve
    | some x => if x = 0 ∧ sign = 1 then .notCanonical else .point x y

def edBase : Nat × Nat :=
  let y := 4 * invMod p25519 5 % p25519
  ((edX y 0).getD 0, y)

/-- A point of small order: eight times it is the identity (0, 1). -/
def edSmall (q : Nat × Nat) : Bool := edMul q 8 4 (0, 1) == (0, 1)

/-- The cofactored equation [8][S]B = [8]R + [8][k]A. -/
def edVerify (a : Nat × Nat) (aEnc msg sig : Bytes) (r : Nat × Nat) : Bool :=
  let k := leNat (sha512 (sig.take 32 ++ aEnc ++ msg)) % lEd
  let e8 (q : Nat × Nat) := edMul q 8 4 (0, 1)
  e8 (edMul edBase (leNat (sig.drop 32)) 256 (0, 1)) == e8 (edAdd r (edMul a k 256 (0, 1)))

/-! ### CTR_DRBG with AES-256 and a derivation function -/

/-- BCC over whole blocks. -/
def bcc (ks : List (List Nat)) (data : Bytes) : Bytes :=
  (chunksOf 16 (data.length / 16) data).foldl (fun ch b => aesBlockK ks (xorBytes ch b)) (List.replicate 16 0)

/-- Block_Cipher_df with 48 bytes of output. -/
def blockDf (input : Bytes) : Bytes :=
  let s := beBytes 4 input.length ++ beBytes 4 48 ++ input ++ [0x80]
  let s := s ++ List.replicate ((16 - s.length % 16) % 16) 0
  let ks := aesKeys ((List.range 32).map (BitVec.ofNat 8))
  let temp := (List.range 3).flatMap fun i => bcc ks (beBytes 4 i ++ List.replicate 12 0 ++ s)
  let ks2 := aesKeys (temp.take 32)
  let x1 := aesBlockK ks2 (slice temp 32 16)
  let x2 := aesBlockK ks2 x1
  x1 ++ x2 ++ aesBlockK ks2 x2

/-- CTR_DRBG_Update: the new (Key, V). -/
def drbgUpdate (data key v : Bytes) : Bytes × Bytes :=
  let c := beNat v
  let t := xorBytes (ctrBlocks (aesKeys key) 3 ((c + 1) % 2 ^ 128)) data
  (t.take 32, t.drop 32)

def drbgInstantiate (entropy nonce pers : Bytes) : Bytes × Bytes :=
  drbgUpdate (blockDf (entropy ++ nonce ++ pers)) (List.replicate 32 0) (List.replicate 16 0)

def drbgReseed (key v entropy : Bytes) : Bytes × Bytes := drbgUpdate (blockDf entropy) key v

/-- The output of a generate request, and the state after it. -/
def drbgGenerate (key v : Bytes) (n : Nat) : Bytes × Bytes × Bytes :=
  let blocks := (n + 15) / 16
  let c := beNat v
  let out := (ctrBlocks (aesKeys key) blocks ((c + 1) % 2 ^ 128)).take n
  let kv := drbgUpdate (List.replicate 48 0) key (beBytes 16 ((c + blocks) % 2 ^ 128))
  (out, kv.1, kv.2)

/-! ### HPKE with DHKEM(X25519, HKDF-SHA256), HKDF-SHA256, AES-256-GCM -/

def labeledExtract (suite salt label ikm : Bytes) : Bytes :=
  hkdfExtract hash256 salt (ascii "HPKE-v1" ++ suite ++ label ++ ikm)

def labeledExpand (suite prk label info : Bytes) (len : Nat) : Bytes :=
  hkdfExpand hash256 prk (beBytes 2 len ++ ascii "HPKE-v1" ++ suite ++ label ++ info) len

def kemSuite : Bytes := ascii "KEM" ++ beBytes 2 0x20
def hpkeSuite : Bytes := ascii "HPKE" ++ beBytes 2 0x20 ++ beBytes 2 0x01 ++ beBytes 2 0x02

/-- ExtractAndExpand of the KEM. -/
def kemSecret (dh ctx : Bytes) : Bytes :=
  labeledExpand kemSuite (labeledExtract kemSuite [] (ascii "eae_prk") dh) (ascii "shared_secret") ctx 32

/-- An HPKE context: AEAD key, base nonce, exporter secret. -/
structure HpkeCtx where
  key : Bytes
  baseNonce : Bytes
  exporter : Bytes

/-- The key schedule for a mode (0 base, 2 auth) without PSK. -/
def hpkeSchedule (mode : Nat) (secret info : Bytes) : HpkeCtx :=
  let pskId := labeledExtract hpkeSuite [] (ascii "psk_id_hash") []
  let infoH := labeledExtract hpkeSuite [] (ascii "info_hash") info
  let ctx := BitVec.ofNat 8 mode :: (pskId ++ infoH)
  let sec := labeledExtract hpkeSuite secret (ascii "secret") []
  { key := labeledExpand hpkeSuite sec (ascii "key") ctx 32
    baseNonce := labeledExpand hpkeSuite sec (ascii "base_nonce") ctx 12
    exporter := labeledExpand hpkeSuite sec (ascii "exp") ctx 32 }

def hpkeNonce (base : Bytes) (seq : Nat) : Bytes := xorBytes base (beBytes 12 seq)

def hpkeExport (c : HpkeCtx) (label : Bytes) (len : Nat) : Bytes := labeledExpand hpkeSuite c.exporter (ascii "sec") label len

end Sys2Proof.Machine.Crypto
end

