-- ==== Sys2Proof/Machine/Cbor.lean ====
section
/-! DEFINITION. CBOR in the core deterministic encoding of RFC 8949, section 4.2.1, and COSE_Sign1 with ES384 of RFC 9052, as
certificates (R403) and evidence (ATT) use them. -/
namespace Sys2Proof.Machine

open Sys2Proof (Byte Bytes)

/-- A CBOR value. `nint n` is −1 − n; `f64` holds the bits of a double. A map is a list of key and value in turn. -/
inductive Cbor where
  | uint (n : Nat)
  | nint (n : Nat)
  | bstr (b : Bytes)
  | tstr (b : Bytes)
  | arr (l : List Cbor)
  | map (l : List Cbor)
  | tag (n : Nat) (v : Cbor)
  | bool (b : Bool)
  | null
  | f64 (bits : Nat)
  deriving Repr

/-- The head of a data item: major type and argument in the shortest form. -/
def cborHead (major n : Nat) : Bytes :=
  let m := major * 32
  if n < 24 then [BitVec.ofNat 8 (m + n)]
  else if n < 2 ^ 8 then BitVec.ofNat 8 (m + 24) :: beBytes 1 n
  else if n < 2 ^ 16 then BitVec.ofNat 8 (m + 25) :: beBytes 2 n
  else if n < 2 ^ 32 then BitVec.ofNat 8 (m + 26) :: beBytes 4 n
  else BitVec.ofNat 8 (m + 27) :: beBytes 8 n

/-- A double in the shortest of the three floating-point forms that keeps its value. -/
def cborFloat (bits : Nat) : Bytes :=
  let v := fp64Of bits
  let h := encodeIeee 5 10 .nearest false v
  let s := encodeIeee 8 23 .nearest false v
  if h.2 = 0 || isNaN v then 0xF9 :: beBytes 2 (if isNaN v then 0x7E00 else h.1)
  else if s.2 = 0 then 0xFA :: beBytes 4 s.1
  else 0xFB :: beBytes 8 bits

mutual
/-- The deterministic encoding. -/
def Cbor.encode : Cbor → Bytes
  | .uint n => cborHead 0 n
  | .nint n => cborHead 1 n
  | .bstr b => cborHead 2 b.length ++ b
  | .tstr b => cborHead 3 b.length ++ b
  | .arr l => cborHead 4 l.length ++ Cbor.encodeAll l
  | .map l => cborHead 5 (l.length / 2) ++ Cbor.encodeAll l
  | .tag n v => cborHead 6 n ++ v.encode
  | .bool b => [if b then 0xF5 else 0xF4]
  | .null => [0xF6]
  | .f64 b => cborFloat b
def Cbor.encodeAll : List Cbor → Bytes
  | [] => []
  | v :: r => v.encode ++ Cbor.encodeAll r
end

/-- The argument that a head's low five bits give: its value and the rest; none for an indefinite or reserved form, or one
that is not the shortest. -/
def cborArg (ai : Nat) (bs : Bytes) : Option (Nat × Bytes) :=
  let take (k lo : Nat) : Option (Nat × Bytes) :=
    if bs.length < k then none
    else if beNat (bs.take k) < lo then none
    else some (beNat (bs.take k), bs.drop k)
  if ai < 24 then some (ai, bs)
  else match ai with
    | 24 => take 1 24
    | 25 => take 2 (2 ^ 8)
    | 26 => take 4 (2 ^ 16)
    | 27 => take 8 (2 ^ 32)
    | _ => none

/-- A float's bits as a double. -/
def cborWiden (eb mb bits : Nat) : Nat := (encodeIeee 11 52 .nearest false (decodeIeee eb mb bits)).1

mutual
/-- One data item off the front of a byte string. -/
def cborRead : Nat → Bytes → Option (Cbor × Bytes)
  | 0, _ => none
  | _ + 1, [] => none
  | fuel + 1, b :: bs =>
    let major := b.toNat / 32
    let ai := b.toNat % 32
    if major = 7 then
      match ai with
      | 20 => some (.bool false, bs)
      | 21 => some (.bool true, bs)
      | 22 => some (.null, bs)
      | 25 => if bs.length < 2 then none else some (.f64 (cborWiden 5 10 (beNat (bs.take 2))), bs.drop 2)
      | 26 => if bs.length < 4 then none else some (.f64 (cborWiden 8 23 (beNat (bs.take 4))), bs.drop 4)
      | 27 => if bs.length < 8 then none else some (.f64 (beNat (bs.take 8)), bs.drop 8)
      | _ => none
    else
      match cborArg ai bs with
      | none => none
      | some (n, rest) =>
        match major with
        | 0 => some (.uint n, rest)
        | 1 => some (.nint n, rest)
        | 2 => if rest.length < n then none else some (.bstr (rest.take n), rest.drop n)
        | 3 => if rest.length < n then none else some (.tstr (rest.take n), rest.drop n)
        | 4 => (cborReadN fuel n rest).map fun x => (.arr x.1, x.2)
        | 5 => (cborReadN fuel (2 * n) rest).map fun x => (.map x.1, x.2)
        | _ => (cborRead fuel rest).map fun x => (.tag n x.1, x.2)
def cborReadN : Nat → Nat → Bytes → Option (List Cbor × Bytes)
  | 0, _, _ => none
  | _ + 1, 0, bs => some ([], bs)
  | fuel + 1, n + 1, bs =>
    match cborRead fuel bs with
    | none => none
    | some (v, r) => (cborReadN fuel n r).map fun x => (v :: x.1, x.2)
end

/-- A byte string that is one data item and nothing more. -/
def cborParse (bs : Bytes) : Option Cbor :=
  match cborRead (bs.length + 2) bs with
  | some (v, []) => some v
  | _ => none

/-- The value of a map under an unsigned key. -/
def cborKey (k : Nat) : Cbor → Option Cbor
  | .map l => go l
  | _ => none
where
  go : List Cbor → Option Cbor
    | .uint n :: v :: r => if n = k then some v else go r
    | _ :: _ :: r => go r
    | _ => none

/-- A byte string's content; empty for anything else. -/
def cborBytes : Option Cbor → Bytes
  | some (.bstr b) => b
  | _ => []

/-- An unsigned integer's value; 0 for anything else. -/
def cborNat : Option Cbor → Nat
  | some (.uint n) => n
  | _ => 0

/-- The protected header: 1: −35, ES384 (R403). -/
def coseProtected : Bytes := Cbor.encode (.map [.uint 1, .nint 34])

/-- The Sig_structure of a COSE_Sign1 with an empty external_aad. -/
def coseToSign (payload : Bytes) : Bytes :=
  Cbor.encode (.arr [.tstr (ascii "Signature1"), .bstr coseProtected, .bstr [], .bstr payload])

/-- A tagged COSE_Sign1: kid and payload with a signature of 96 bytes. -/
def coseSign1 (kid payload sig : Bytes) : Bytes :=
  Cbor.encode (.tag 18 (.arr [.bstr coseProtected, .map [.uint 4, .bstr kid], .bstr payload, .bstr sig]))

/-- The kid and the payload of a tagged COSE_Sign1 whose signature verifies under a P-384 key. -/
def coseOpen (pub msg : Bytes) : Option (Bytes × Bytes) :=
  match cborParse msg with
  | some (.tag 18 (.arr [.bstr prot, hdr, .bstr payload, .bstr sig])) =>
    if prot = coseProtected && sig.length == 96 &&
        Crypto.ecdsaVerify Crypto.cP384 pub (Crypto.sha384 (coseToSign payload)) sig then
      some (cborBytes (cborKey 4 hdr), payload)
    else none
  | _ => none

end Sys2Proof.Machine
end

