-- ==== Sys2Proof/Machine/Keys.lean ====
section
/-! DEFINITION. Keyhold's shared operations (KEY): the DRBG streams, derivation, the curve operations, engine key slots,
signing, lifetimes and zeroisation. -/
namespace Sys2Proof.Machine

open Sys2Proof

/-! ### The DRBG (R495 to R498) -/

/-- A DRBG stream. -/
def State.stream (s : State) (n : Nat) : DrbgStream := s.keyhold.streams.getD n {}

/-- A DRBG stream changed by `f`. -/
def State.updStream (s : State) (n : Nat) (f : DrbgStream → DrbgStream) : State :=
  { s with keyhold := { s.keyhold with streams := updAt s.keyhold.streams n f } }

/-- When a stream's reseed fell due or will fall due (R496): at its 2^16th request, or 1 s after its last reseed. -/
def dueAt (d : DrbgStream) : Nat := min (d.due.getD (d.reseedAt + 1000000)) (d.reseedAt + 1000000)

/-- A stream is due for reseed. -/
def State.isDue (s : State) (d : DrbgStream) : Bool := d.inst && decide (dueAt d ≤ s.cad.toll)

/-- The bits of the pool as bytes, most significant bit first, the last byte padded with zeros (DESIGN CHOICE, log entry
19: R494 gives the bits no packing). -/
def packBits (l : List Bool) : Bytes :=
  (List.range ((l.length + 7) / 8)).map fun k =>
    BitVec.ofNat 8 ((List.range 8).foldl (fun v i => 2 * v + b2n (l.getD (8 * k + i) false)) 0)

/-- The pool's 48-byte digest (R496). -/
def State.poolDigest (s : State) : Bytes := Crypto.sha384 (packBits s.keyhold.pool)

/-- The pool restarted with no credit. -/
def State.poolRestart (s : State) : State := { s with keyhold := { s.keyhold with pool := [], credit := 0 } }

/-- The due stream that has been due longest; the arbiter's choice among those that fell due at one instant (R496). -/
def State.longestDue (s : State) : Option Nat :=
  let due := (List.range 49).filter fun n => s.isDue (s.stream n)
  match minBy (fun n => dueAt (s.stream n)) due with
  | none => none
  | some m => contender s.arb.reseed (due.filter fun n => dueAt (s.stream n) == dueAt (s.stream m))

/-- What a stream gives to a request of `n` bytes, and the stream after it. -/
def streamGen (toll n : Nat) (d : DrbgStream) : Bytes × DrbgStream :=
  let (out, k, v) := Crypto.drbgGenerate d.key d.v n
  let r := d.requests + 1
  (out, { d with key := k, v := v, requests := r, due := if 65536 ≤ r ∧ d.due = none then some toll else d.due })

/-- The stream that has been due longest reseeds, once the pool holds 384 credited bits (R496); a request that waited on
it is then served (R497). -/
def State.reseedDue (s : State) : State :=
  if s.keyhold.credit < 384 then s
  else
    match s.longestDue with
    | none => s
    | some n =>
      let e := s.poolDigest
      let toll := s.cad.toll
      (s.poolRestart.grantStream n).updStream n fun d =>
        let (k, v) := Crypto.drbgReseed d.key d.v e
        let d := { d with key := k, v := v, requests := 0, reseedAt := toll, due := none }
        match d.waitSince with
        | none => d
        | some _ =>
          if d.waitBytes = 0 then { d with waitSince := none, raised := 0 }
          else
          let (out, d) := streamGen toll d.waitBytes d
          { d with out := out, waitSince := none, raised := 0, waitBytes := 0 }

/-- `n` bytes from a stream; none while it is not instantiated or waits for its reseed (R497). -/
def State.draw (s : State) (stream n : Nat) : Option (Bytes × State) :=
  let s := s.reseedDue
  let d := s.stream stream
  if !d.inst || s.isDue d then none
  else
    let (out, d) := streamGen s.cad.toll n d
    some (out, s.updStream stream fun _ => d)

/-- A request that finds its stream waiting for a reseed waits (R497): the wait is timed. -/
def State.noteWait (s : State) (stream : Nat) : State :=
  let toll := s.cad.toll
  if (s.stream stream).inst then
    s.updStream stream fun d => { d with waitSince := some (d.waitSince.getD toll) }
  else s

/-- The personalisation string of a stream (R495), and its nonce (R498). -/
def persOf (n : Nat) : Bytes := ascii "VZ drbg" ++ [BitVec.ofNat 8 n]
def nonceOf (toll n : Nat) : Bytes := beBytes 8 toll ++ beBytes 8 n

/-- At boot step 2 the next stream not yet instantiated takes 384 credited bits (R498). -/
def State.instantiateNext (s : State) : State :=
  if s.keyhold.credit < 384 then s
  else
    match (List.range 49).find? fun n => !(s.stream n).inst with
    | none => s
    | some n =>
      let e := s.poolDigest
      let toll := s.cad.toll
      (s.poolRestart.grantStream n).updStream n fun _ =>
        let (k, v) := Crypto.drbgInstantiate e (nonceOf toll n) (persOf n)
        { inst := true, key := k, v := v, reseedAt := toll }

/-! ### Derivation (R475) -/

/-- kdf of R475. -/
def kdf (ikm salt info : Bytes) (len : Nat) : Bytes :=
  Crypto.hkdfExpand Crypto.hash384 (Crypto.hkdfExtract Crypto.hash384 salt ikm) info len

/-- Z48. -/
def z48 : Bytes := List.replicate 48 0

/-- A private scalar from an unsigned integer c (R475, R488): (c mod (n − 1)) + 1. -/
def scalarOf (c : Crypto.Curve) (v : Nat) : Nat := v % (c.n - 1) + 1

/-- derive_p384: the private scalar, 48 bytes big-endian, and the public key in SEC1 uncompressed form. -/
def deriveP384 (ikm info : Bytes) : Bytes × Bytes :=
  let d := scalarOf Crypto.cP384 (beNat (kdf ikm z48 info 56))
  (beBytes 48 d, Crypto.sec1 Crypto.cP384 (Crypto.ecTimes Crypto.cP384 d (some Crypto.cP384.g)))

/-! ### Curve operations (R487 to R491) -/

/-- Checks 1 to 4 of R490. -/
def pointCheck (c : Crypto.Curve) (bs : Bytes) : Option Status :=
  if bs = [0] then some .notOnCurve
  else if byteAt bs 0 ≠ 4 ∨ bs.length ≠ 1 + 2 * c.len then some .notCanonical
  else if c.p ≤ beAt bs 1 c.len ∨ c.p ≤ beAt bs (1 + c.len) c.len then some .notCanonical
  else if !Crypto.onCurve c (beAt bs 1 c.len) (beAt bs (1 + c.len) c.len) then some .notOnCurve
  else none

/-- Check 6 of R490. -/
def sigCheck (c : Crypto.Curve) (sig : Bytes) : Option Status :=
  let bad (v : Nat) : Bool := v = 0 ∨ c.n ≤ v
  if sig.length ≠ 2 * c.len ∨ bad (beAt sig 0 c.len) ∨ bad (beAt sig c.len c.len) then some .sigFail else none

/-- The hash of a curve's ECDSA (R490). -/
def ecHash (c : Crypto.Curve) (msg : Bytes) : Bytes := if c.len = 32 then Crypto.sha256 msg else Crypto.sha384 msg

/-- ECDSA verification: rejection by validation, mismatch, or success (R487, R490). The flag marks a rejection. -/
def ecVerify (c : Crypto.Curve) (pub msg sig : Bytes) : Status × Bool :=
  match pointCheck c pub with
  | some st => (st, true)
  | none =>
    match sigCheck c sig with
    | some st => (st, true)
    | none => (if Crypto.ecdsaVerify c pub (ecHash c msg) sig then .ok else .sigFail, false)

/-- The five u-coordinates of small order (R489). -/
def smallU : List Nat :=
  [0, 1, Crypto.p25519 - 1,
   leNat (beBytes 32 0xe0eb7a7c3b41b8ae1656e3faf19fc46ada098deb9c32b1fd866205165f49b800),
   leNat (beBytes 32 0x5f9c95bca3508c24b1d0b1559c83ef5b04445cc4581c8e86d8224eddd09f1157)]

/-- The adjusted u-coordinate of 32 bytes, and NONCANONICAL (R489). -/
def adjustU (bs : Bytes) : Nat × Bool :=
  let v := leNat (padTo 32 bs)
  let u := v % 2 ^ 255
  (u % Crypto.p25519, decide (2 ^ 255 ≤ v) || decide (Crypto.p25519 ≤ u))

/-- LOW_ORDER of a u-coordinate. -/
def lowOrder (bs : Bytes) : Bool := smallU.contains (adjustU bs).1

/-- X25519 with the input handling of R489: none for LOW_ORDER. -/
def dh (scalar point : Bytes) : Option Bytes :=
  if lowOrder point then none else some (Crypto.x25519 (padTo 32 scalar) (adjustU point).1)

/-- The public key of an X25519 scalar. -/
def dhPublic (scalar : Bytes) : Bytes := Crypto.x25519 (padTo 32 scalar) 9

/-- Ed25519 verification (R491). The flag marks a rejection. -/
def edCheck (pub msg sig : Bytes) : Status × Bool :=
  if sig.length ≠ 64 then (.sigFail, true)
  else
    match Crypto.edDecode (padTo 32 pub) with
    | .notCanonical => (.notCanonical, true)
    | .notOnCurve => (.notOnCurve, true)
    | .point ax ay =>
      if Crypto.edSmall (ax, ay) then (.lowOrder, true)
      else
        match Crypto.edDecode (sig.take 32) with
        | .notCanonical => (.notCanonical, true)
        | .notOnCurve => (.notOnCurve, true)
        | .point rx ry =>
          if Crypto.lEd ≤ leNat (sig.drop 32) then (.sigFail, true)
          else (if Crypto.edVerify (ax, ay) (padTo 32 pub) msg sig (rx, ry) then .ok else .sigFail, false)

/-- A key check alone (Table KEY-6). -/
def edKeyCheck (pub : Bytes) : Option Status :=
  match Crypto.edDecode (padTo 32 pub) with
  | .notCanonical => some .notCanonical
  | .notOnCurve => some .notOnCurve
  | .point ax ay => if Crypto.edSmall (ax, ay) then some .lowOrder else none

/-- A signature by an image key: type 1 Ed25519 (64 bytes over the message), 2 ECDSA P-384 (R164, R361). -/
def sigOk (typ : Nat) (key msg sig : Bytes) : Bool :=
  if typ = 1 then (edCheck (key.take 32) msg sig).1 == .ok
  else (ecVerify Crypto.cP384 (key.take 97) msg sig).1 == .ok

/-- A nonce or a private scalar of a curve: 8 bytes more than the order, as R488 draws them. The draw of an ECDSA nonce is
the model's (DESIGN CHOICE, log entry 20). -/
def State.drawScalar (s : State) (c : Crypto.Curve) : Option (Nat × State) :=
  (s.draw 0 (c.len + 8)).map fun x => (scalarOf c (beNat x.1), x.2)

/-- An ECDSA signature under a private scalar (R490): a nonce that gives r or s as 0 is drawn again, once. -/
def State.ecSign (s : State) (c : Crypto.Curve) (d : Nat) (msg : Bytes) : Option (Bytes × State) :=
  match s.drawScalar c with
  | none => none
  | some (k, s) =>
    match Crypto.ecdsaSign c d k (ecHash c msg) with
    | some sig => some (sig, s)
    | none =>
      match s.drawScalar c with
      | none => none
      | some (k, s) => (Crypto.ecdsaSign c d k (ecHash c msg)).map fun sig => (sig, s)

/-! ### Engine key slots (R481, R482, R484) -/

/-- The key in an engine slot. -/
def State.slotKey (s : State) (engine index : Nat) : Option Bytes :=
  (s.keyhold.slots.find? fun k => k.engine == engine && k.index == index).map (·.key)

/-- A key put into an engine slot; its mask is the one of the last re-masking. -/
def State.putKey (s : State) (engine index : Nat) (key : Bytes) (lifetime ctx : Nat) : State :=
  let rest := s.keyhold.slots.filter fun k => !(k.engine == engine && k.index == index)
  { s with keyhold := { s.keyhold with
    slots := rest ++ [{ engine := engine, index := index, key := key, lifetime := lifetime, ctx := ctx }] } }

/-- Every slot key that the predicate holds for is zeroised. -/
def State.dropKeys (s : State) (p : KeySlot → Bool) : State :=
  { s with keyhold := { s.keyhold with slots := s.keyhold.slots.filter fun k => !p k } }

/-- A job that came to nothing: its job key and link session keys (R572). -/
def State.dropJobKeys (s : State) : State :=
  s.dropKeys fun k => k.engine == 7 && k.index == 2 || k.engine == 2 && k.lifetime == 0

/-- The keys of HARVEST lifetime of a context (R481). -/
def State.endHarvestKeys (s : State) (c : Nat) : State :=
  let s := s.dropKeys fun k => k.lifetime == 1 && k.ctx == c
  if s.keyhold.keyreg.attr.lifetime = 1 ∧ s.keyhold.keyreg.attr.ctx = c then
    { s with keyhold := { s.keyhold with keyreg := {} } } else s

/-- Slot of the alias key (D5), the Belfry TLS key (D6), the CDI (D7 index 0), the tenant Store root (D7 index 1), the job
key (D7 index 2) and the enrolment key (D7 indices 8 to 15, one per X25519 unit). -/
def aliasSlot : Nat × Nat := (5, 0)
def belfrySlot : Nat × Nat := (6, 0)
def ekeySlot : Nat × Nat := (7, 8)

/-- The enrolment key's private scalar. -/
def State.ekey (s : State) : Bytes := (s.slotKey 7 8).getD []

/-- A signature by the attestation alias key. -/
def State.signAlias (s : State) (msg : Bytes) : Option (Bytes × State) :=
  match s.slotKey 5 0 with
  | none => none
  | some k => (s.ecSign Crypto.cP384 (beNat k) msg).map fun x => (x.1, x.2.count .khdCurve 1 1)

/-- A COSE_Sign1 under the alias key: kid is the SHA-384 of the alias public key (R403). -/
def State.signCose (s : State) (payload : Bytes) : Option (Bytes × State) :=
  (s.signAlias (coseToSign payload)).map fun x => (coseSign1 (Crypto.sha384 s.keyhold.aliasPub) payload x.1, x.2)

/-! ### Zeroisation -/

/-- The Grainer stores of a Pan zeroised (R328). -/
def zeroGrainer (p : Pan) : Pan :=
  { p with progSeed := List.replicate 32 0, seedQ := [], recon := none, expandTag := none, expandNext := 0, expandBatch := 0,
           expandTile := false, expandBuf := [] }

/-- The secrets that a context's part of Keyhold holds: slot contexts, shares, reconstructed secrets, seeds. -/
def zeroCtxSecrets (c : Ctx) : Ctx := { c with slots := [], receipts := [], shares := [], recons := [], masks := [] }

/-- The keys of the live job are gone. -/
def zeroJob (j : Job) : Job := { j with key := [], eph := [], keyed := [] }

/-- The keys of the Store ciphers are gone: the contents are unreadable (R481, R518). -/
def State.storeKeys (s : State) (k : StoreKey) : State :=
  { s with stores := { s.stores with key := k, gen := s.stores.gen + 1, mem := [], zeros := [], bad := [] } }

/-- Zeroisation of every key, slot, store and DRBG state (R112, step 2 of Table KEY-8): the tenant is dropped, staging
latches are emptied. -/
def State.zeroiseAll (s : State) : State :=
  let s := { s with keyhold := { s.keyhold with
    keyreg := {}, slots := [], cdi := [], aliasPub := [], aliasCert := [], belfryPub := [], ekeyPub := [], ekeyValid := false,
    tenantKey := none, keyWait := [], curveWait := [], curveUnits := List.replicate 9 none, curveDone := [], pairScalar := none,
    pairSlots := [], pool := [], credit := 0, streams := List.replicate 49 {}, drbgZeroised := true } }
  let s := { s with pans := s.pans.map zeroGrainer, ctxs := s.ctxs.map zeroCtxSecrets, blobs := [] }
  let s := { s with car := { s.car with job := s.car.job.map zeroJob } }
  s.storeKeys .none

end Sys2Proof.Machine
end

