-- ==== Sys2Proof/Machine/HostOps.lean ====
section
/-! DEFINITION. Completions of mailbox commands (HST, R595 to R604): CMD_DONE, the result cache, DMA of a command, parked
commands. -/
namespace Sys2Proof.Machine

open Sys2Proof

/-- CMD_DONE stored (R596, R604, Table QUE-4): first the zero-length read that makes the command's writes visible. -/
def State.cmdDone (s : State) (pf seq code status : Nat) (result : Bytes) : State :=
  let s := if (s.fn pf).bme then s.emit (.dmaFlush pf) else s
  s.event pf 0x01 pf status ([BitVec.ofNat 8 code, 0, 0, 0] ++ leBytes 4 seq ++ padTo 36 result)

/-- A command ends (R600, R601): its status and result are kept among the last 64 and CMD_DONE is stored. -/
def State.complete (s : State) (pf seq code : Nat) (status : Status) (result : Bytes) : State :=
  let r : Served := { seq := seq, code := code, status := statusCode status, result := result }
  let s := s.updFn pf fun f => { f with cache := (f.cache ++ [r]).drop (f.cache.length + 1 - 64) }
  s.cmdDone pf seq code (statusCode status) result

/-- The command in service on a function ends. Nothing where a reset has taken it away (R610). -/
def State.finish (s : State) (pf : Nat) (status : Status) (result : Bytes) : State :=
  match (s.fn pf).serving with
  | none => s
  | some v => (s.updFn pf fun f => { f with serving := none }).complete pf v.seq (cmdCode v.cmd) status result

/-- Every parked command of a code on a function ends with the same status (R600). -/
def State.finishParked (s : State) (pf code : Nat) (status : Status) (result : Bytes) : State :=
  let l := (s.fn pf).parked.filter fun v => cmdCode v.cmd == code
  let s := s.updFn pf fun f => { f with parked := f.parked.filter fun v => cmdCode v.cmd != code }
  l.foldl (fun s v => s.complete pf v.seq code status result) s

/-- A DMA write by the command in service on a function; none while Bus Master Enable is clear (R611). -/
def State.dmaOut (s : State) (pf addr : Nat) (data : Bytes) : State :=
  if (s.fn pf).bme then s.emit (.dmaWrite pf addr data) else s

/-- A host range that wraps beyond 2^64 − 1 (R595). -/
def rangeWraps (addr len : Nat) : Bool := decide (2 ^ 64 < addr + len)

/-- The context state as the result of a command (Table HST-5). -/
def State.ctxResult (s : State) (c : Nat) : Bytes := [BitVec.ofNat 8 (shownState (s.ctx c))]

/-- The parked SETTLEs of a context end (R375). -/
def State.finishSettle (s : State) (c : Nat) (status : Status) : State :=
  s.finishParked c 0x15 status (s.ctxResult c)

/-- Who asked for a transition hears of its end: the driver as a completion, Belfry as a reply. Belfry's replies are built
where its orders are (`belfryReply`). -/
def askerPf : Asker → Option Nat
  | .host pf _ => some pf
  | _ => none

/-- TENANTED-IDLE and RUNNING follow the contexts (Table BOO-1): RUNNING while any is in a state other than CLOSED or
RELEASED. -/
def State.settleDev (s : State) : State :=
  let busy := s.ctxs.any fun c => c.st != .closed && c.st != .released
  match s.dev.st with
  | .tenantedIdle => if busy then { s with dev := { s.dev with st := .running } } else s
  | .running => if busy then s else { s with dev := { s.dev with st := .tenantedIdle } }
  | _ => s

/-- A context enters a state: HARVEST_STATE is raised (R352) and HOLD takes the status. -/
def State.enterState (s : State) (c : Nat) (new : CtxState) (status : Status) : State :=
  let old := (shownState (s.ctx c))
  let s := s.updCtx c fun x => { x with st := new, hold := statusCode status }
  (s.harvestStateEvent c old (shownState (s.ctx c)) (paused (s.ctx c)) (statusCode status)).settleDev

/-- A context is held in SETTLING (R374, R400): the status stands in HOLD, in the event and in the completion of SETTLE. -/
def State.holdCtx (s : State) (c : Nat) (status : Status) : State :=
  let k := (shownState (s.ctx c))
  let s := s.updCtx c fun x => { x with hold := statusCode status }
  (s.harvestStateEvent c k k (paused (s.ctx c)) (statusCode status)).finishSettle c status

/-- The PAUSED causes of a context change: HARVEST_STATE is raised when the flag does (R352, R354). -/
def State.repause (s : State) (c : Nat) (f : Ctx → Ctx) : State :=
  let old := paused (s.ctx c)
  let s := s.updCtx c f
  let x := s.ctx c
  if paused x == old then s
  else s.harvestStateEvent c (shownState x) (shownState x) (paused x) 0

end Sys2Proof.Machine
end

