-- ==== Sys2Proof/Machine/StoreOps.lean ====
section
/-! DEFINITION. The Stores (STO, R538 to R557): partitions, plaintext access under the keys in force, condemned data units,
the stripe set. -/
namespace Sys2Proof.Machine

open Sys2Proof

/-! ### The image's tables (R163, R165) -/

/-- The image that the Pans hold: what an apply has written, published or not. -/
def State.written (s : State) : Option Loaded := s.img.next.or s.img.loaded

/-- The POLICY body of the image in force, and the LAYOUT body of the image that the Pans hold; empty without one. -/
def State.policy (s : State) : Bytes := match s.img.loaded with | some l => l.policy | none => []
def State.layout (s : State) : Bytes := match s.written with | some l => l.layout | none => []

/-! ### Partitions (R540) -/

/-- Units of partition k (0 STAGING, 1 ACCUM, 2 ROSTER, 3 WEIGHTS, 4 SPILL) of context c in a LAYOUT. -/
def layoutUnits (lay : Bytes) (c k : Nat) : Nat := leAt lay (192 + 32 * c + 4 * k) 4

/-- The first unit of a partition: partitions are placed from unit 0, context by context. -/
def layoutFirst (lay : Bytes) (c k : Nat) : Nat :=
  ((List.range (5 * c + k)).map fun j => layoutUnits lay (j / 5) (j % 5)).sum

/-- Bytes in a unit. -/
def unitBytes : Nat := 2 ^ 26

/-- Store physical address and length of a partition, as the last full apply placed it. -/
def State.partBase (s : State) (c k : Nat) : Nat := layoutFirst s.img.placed c k * unitBytes
def State.partLen (s : State) (c k : Nat) : Nat := layoutUnits s.img.placed c k * unitBytes

/-- Capacity in bytes. -/
def State.storeBytes (s : State) : Nat := 18 * s.stores.stripe.length * unitBytes

/-- The stripe set's list in the order of R540. -/
def stripeList (l : List Nat) : List Nat :=
  (List.range 32).flatMap fun a => ((List.range 4).map fun b => a + 32 * b).filter l.contains

/-- The pseudo-channel that holds a Store physical address. -/
def State.pcAt (s : State) (a : Nat) : Nat :=
  let l := stripeList s.stores.stripe
  l.getD (a / 256 % max 1 l.length) 0

/-! ### Contents -/

/-- A byte as it reads: what was written, zero in a zero-filled range, and unpredictable otherwise (R518). -/
def storesByte (t : Stores) (a : Nat) : Byte :=
  match lookupN t.mem a with
  | some b => b
  | none => if t.zeros.any fun r => decide (r.1 ≤ a) && decide (a < r.2) then 0 else Config.storeByte t.gen a

/-- `n` bytes from an address on. -/
def storesReadN (t : Stores) (a : Nat) : Nat → Bytes
  | 0 => []
  | n + 1 => storesByte t a :: storesReadN t (a + 1) n

/-- One byte written; in a zero-filled range a zero is not listed. -/
def storesPut (t : Stores) (a : Nat) (b : Byte) : Stores :=
  if b == 0 && t.zeros.any fun r => decide (r.1 ≤ a) && decide (a < r.2) then { t with mem := eraseN t.mem a }
  else { t with mem := insertN t.mem a b }

/-- A byte string written. -/
def storesPutN (t : Stores) (a : Nat) : Bytes → Stores
  | [] => t
  | b :: bs => storesPutN (storesPut t a b) (a + 1) bs

/-- The condemned data units that [a, a + n) touches. -/
def storesCondemned (t : Stores) (a n : Nat) : Bool := t.bad.any fun u => decide (a < 64 * u + 64) && decide (64 * u < a + n)

/-- A read; none when it fails twice (R545). -/
def State.storeRead (s : State) (a n : Nat) : Option Bytes :=
  if storesCondemned s.stores a n then none else some (storesReadN s.stores a n)

/-- A write. A data unit written whole holds good check bits again. -/
def State.storeWrite (s : State) (a : Nat) (bs : Bytes) : State :=
  let t := s.stores
  let bad := t.bad.filter fun u => !(decide (a ≤ 64 * u) && decide (64 * u + 64 ≤ a + bs.length))
  ({ s with stores := { storesPutN t a bs with bad := bad } }).count .stoWrbytes 0 bs.length

/-- A range zero-filled. -/
def State.storeZero (s : State) (a n : Nat) : State :=
  if n = 0 then s
  else
    let t := s.stores
    { s with stores := { t with
      mem := t.mem.filter fun e => decide (e.1 < a) || decide (a + n ≤ e.1)
      zeros := (t.zeros.filter fun r => !(decide (a ≤ r.1) && decide (r.2 ≤ a + n))) ++ [(a, a + n)] } }

/-- A range freed: nothing of it is kept. What a later read of it would give is unpredictable. -/
def State.storeFree (s : State) (a n : Nat) : State :=
  let t := s.stores
  { s with stores := { t with mem := t.mem.filter fun e => decide (e.1 < a) || decide (a + n ≤ e.1) } }

/-- A data unit is condemned: the read failed twice (R545); its pseudo-channel is FENCED (R547), a LASTING fault. -/
def State.condemn (s : State) (a : Nat) (voided : Option Nat) : State :=
  let pc := s.pcAt a
  let st := (s.pc pc).st
  let s := { s with stores := { s.stores with bad := if s.stores.bad.contains (a / 64) then s.stores.bad else s.stores.bad ++ [a / 64] } }
  let s := s.bump .stoPcecc pc 63 48 2
  let s := s.updPc pc fun p => if p.st = 0 then { p with st := 1, cause := 2 } else p
  let s := s.fault 2 2 pc (statusCode .uncorrectable) voided a 0
  if st = 0 then s.unitStateEvent 2 pc 0 1 0 else s

/-- An entry of the user repair record (Table FLT-7), to be appended by Belfry within 1 s (R633). -/
def repairEntry (kind unit sub row spare : Nat) : Bytes :=
  [BitVec.ofNat 8 kind, BitVec.ofNat 8 unit] ++ beBytes 2 sub ++ beBytes 2 row ++ [BitVec.ofNat 8 spare, 0]
def State.persist (s : State) (e : Bytes) : State :=
  { s with belfry := { s.belfry with pendingRepairs := s.belfry.pendingRepairs ++ [e] } }

/-- The stripe set rebuilt (R541): FENCED pseudo-channels leave it and are RETIRED; those that have returned join. A change
of the set changes every data unit's place, so nothing written before reads back. -/
def State.rebuildStripe (s : State) : State :=
  let old := s.stores.stripe
  let fenced := (List.range 128).filter fun i => (s.pc i).st == 1
  let s := fenced.foldl (fun s i =>
    ((s.updPc i fun p => { p with st := 2 }).unitStateEvent 2 i 1 2 0).persist (repairEntry 6 i 0 0 0)) s
  let new := (List.range 128).filter fun i => (s.pc i).st == 0
  if new = old then s
  else { s with stores := { s.stores with
    stripe := new, gen := s.stores.gen + 1, mem := [], zeros := [], bad := [] }, blobs := [] }

end Sys2Proof.Machine
end

