-- ==== Sys2Proof/Machine/PanOps.lean ====
section
/-! DEFINITION. Shared operations on Pans (PAN, SEQ R343, KTL R267, HVS R377): Pan memory, quiesce requests, the fabric's
items, where an accumulator lies. -/
namespace Sys2Proof.Machine

open Sys2Proof

/-! ### Pan memory (R188 to R190) -/

/-- Bytes of a Pan's logical memory. -/
def panBytes (p : Pan) : Nat := p.need * 16384

/-- A word that reads uncorrectable lies in [a, a + n). -/
def panBad (p : Pan) (a n : Nat) : Bool := p.bad.any fun w => decide (a < 8 * w + 8) && decide (8 * w < a + n)

/-- What stands in Pan memory; none where a word of it reads uncorrectable. -/
def panRead (p : Pan) (a n : Nat) : Option Bytes := if panBad p a n then none else some (Memory.readN p.mem a n)

/-- A write of Pan memory; a word written whole has good check bits again. -/
def panWrite (p : Pan) (a : Nat) (bs : Bytes) : Pan :=
  { p with
    mem := Memory.writeN p.mem a bs
    bad := p.bad.filter fun w => !(decide (a ≤ 8 * w) && decide (8 * w + 8 ≤ a + bs.length)) }

/-- A range of Pan memory zeroed. -/
def panZero (p : Pan) (a n : Nat) : Pan :=
  { p with
    mem := Memory.clear p.mem a (a + n)
    bad := p.bad.filter fun w => !(decide (a ≤ 8 * w) && decide (8 * w + 8 ≤ a + n)) }

/-- Whether [a, a + n) touches the logical subarray that a Sweep slice holds (R209). -/
def State.held (s : State) (p a n : Nat) : Bool :=
  match s.sweep.slice with
  | none => false
  | some sl =>
    let q := s.pan p
    match q.map.findIdx? (· == sl.sub) with
    | some l =>
      let need := max 1 q.need
      let g0 := a / 32
      let cnt := (a + n + 31) / 32 - g0
      sl.pan == p && decide (0 < n) && decide ((l + need - g0 % need) % need < cnt)
    | none => false

/-! ### Quiesce requests (R194, R343) -/

/-- A bank whose shift-in is abandoned (R267). -/
def abandonBank (b : Bank) : Bank := if b.st = .loading then {} else b

/-- A quiesce request reaches a Pan (R343): issue stops, the blocking instruction is abandoned with pc on it, engine work is
discarded, a shift-in is abandoned; the configurations in effect are those that later words are checked against. `ret` marks
a request that returns the Pan to HALTED. -/
def quiescePan (ret : Bool) (p : Pan) : Pan :=
  match p.st with
  | .retired | .returning | .quiesced | .unassigned => { p with ret := p.ret || (ret && p.st == .quiesced) }
  | st =>
    let banks := p.banks.map abandonBank
    { p with
      prior := some (p.prior.getD st)
      st := if st = .running then .quiescing else st
      ret := p.ret || ret
      blocked := none, debugHalt := false
      kq := [], gq := [], cq := [], pq := []
      banks := banks
      bankIssue := banks.map fun b => b.st == .valid
      kcfgIssue := p.kcfg, koutIssue := p.kout }

/-- A Pan that has not become QUIESCED goes back to its previous state; a QUIESCED Pan never resumes its program (R182,
R343). A Pan that is to retire is asked again at once, which leaves it as it is (the spec does not say what the firmware does
then: DESIGN CHOICE, log entry 26). -/
def unquiescePan (p : Pan) : Pan :=
  if p.retiring then p else
  match p.prior with
  | some st => if p.st = .quiesced then { p with prior := none } else { p with st := st, prior := none }
  | none => p

/-- SUSPECT of a Pan set or cleared; a change raises UNIT_STATE (R195, R658). -/
def State.setSuspect (s : State) (p : Nat) (v : Bool) : State :=
  let q := s.pan p
  if q.suspect == v then s
  else (s.updPan p fun q => { q with suspect := v }).unitStateEvent 1 p (panCode q.st) (panCode q.st) (b2n v)

/-- A targeted slice is scheduled (R652); one already scheduled absorbs it. -/
def State.addTarget (s : State) (p sub : Nat) : State :=
  let l := s.sweep.targets
  { s with sweep := { s.sweep with targets := if l.contains (p, sub) then l else l ++ [(p, sub)] } }

/-- The spare row that a data row is remapped to: the latest remap is in force (R664). -/
def spareOf (q : Pan) (sub row : Nat) : Option Nat :=
  (q.repairs.reverse.find? fun r => r.1 == sub && r.2.1 == row).map (·.2.2)

/-- LOCATION of a fault in a Pan (Table FLT-8). -/
def panLoc (sub row word : Nat) : Nat := sub % 512 + row % 1024 * 2 ^ 9 + word % 4 * 2 ^ 19

/-- The physical subarray of a word of logical memory (R190). -/
def subOfWord (q : Pan) (w : Nat) : Nat := q.map.getD (w / 4 % max 1 q.need) 0

/-- LOCATION of a word of logical memory: a row that a spare row stands for is that spare row (R190, R191). -/
def wordLoc (q : Pan) (w : Nat) : Nat :=
  let sub := subOfWord q w
  let row := w / 4 / max 1 q.need
  panLoc sub (match spareOf q sub row with | some x => 512 + x | none => row) (w % 4)

/-- Words of Pan memory fail twice (R210, R649): each counts at both attempts, the words are condemned until they are
overwritten, the Pan becomes SUSPECT under a LASTING fault, and every subarray involved gets a targeted slice. `arg` is the
word index of the instruction that traps. -/
def State.panLost (s : State) (p : Nat) (ws : List Nat) (voided : Option Nat) (arg : Nat) : State :=
  let q := s.pan p
  let s := s.updPan p fun q => { q with bad := q.bad ++ (ws.filter fun w => !q.bad.contains w) }
  let s := (s.bump .panEcc p 31 16 (2 * ws.length)).fault 2 1 p (statusCode .uncorrectable) voided (wordLoc q (ws.headD 0)) arg
  ws.foldl (fun s w => s.addTarget p (subOfWord q w)) (s.setSuspect p true)

/-- What a read makes of one word that is not as it was written and does not fail twice: a single-bit error is corrected
and counted; a double-bit error that the retry does not meet is a TRANSIENT fault (R188, R210, Table FLT-1). -/
def State.meetUpset (s : State) (p arg : Nat) (u : Nat × Upset) : State :=
  match u.2 with
  | .corrected => (s.bump .panEcc p 15 0 1).classCount 0
  | .transient =>
    (s.bump .panEcc p 31 16 1).fault 1 1 p (statusCode .transientRetried) none (wordLoc (s.pan p) u.1) arg
  | .lasting => s

/-- The upsets that a read of [a, a + n) meets, among those that its command names by word. -/
def upsetsIn (ups : List (Nat × Upset)) (a n : Nat) : List (Nat × Upset) :=
  ups.filter fun u => decide (a < 8 * u.1 + 8) && decide (8 * u.1 < a + n)

/-- The words of [a, a + n) that fail twice. -/
def failingIn (p : Pan) (ups : List (Nat × Upset)) (a n : Nat) : List Nat :=
  (p.bad.filter fun w => decide (a < 8 * w + 8) && decide (8 * w < a + n)) ++
    (((upsetsIn ups a n).filter fun u => u.2 == .lasting && !p.bad.contains u.1).map (·.1))

/-- What the scratch buffer holds of a range of Pan memory that is zeroed while a slice of that Pan runs is zeroed with
it (R669: the slice restores first, and the range is cleared then). -/
def State.clearSaved (s : State) (p a n : Nat) : State :=
  match s.sweep.slice with
  | none => s
  | some sl =>
    let q := s.pan p
    match q.map.findIdx? (· == sl.sub) with
    | some l =>
      let addr (o : Nat) : Nat := (o / 32 * q.need + l) * 32 + o % 32
      if sl.pan = p then
        { s with sweep := { s.sweep with slice := some { sl with
          saved := sl.saved.filter fun e => decide (addr e.1 < a) || decide (a + n ≤ addr e.1)
          lost := sl.lost.filter fun w => decide (addr (8 * w) + 8 ≤ a) || decide (a + n ≤ addr (8 * w)) } } }
      else s
    | none => s

/-- The Pans of a context that are not HALTED are returned (R377, R382), unless the core is off or no image is loaded. -/
def State.returnPans (s : State) (c : Nat) : State :=
  if s.power.vddc != .good || s.img.loaded.isNone then s
  else (s.pansOf c).foldl (fun s p => if (s.pan p).st == .halted then s else s.updPan p (quiescePan true)) s

/-- The engines of a Pan stop at once: nothing of their work is done any more (R328, R382). -/
def stopEngines (p : Pan) : Pan :=
  { p with kq := [], gq := [], cq := [], pq := [], commit := {}, addItems := [], noiseIssued := false, noiseDone := false,
           noiseNext := 0, sampler := {}, noiseBuf := [],
           expandTag := none, expandNext := 0, expandBatch := 0, expandTile := false, expandBuf := [] }

/-! ### The fabric (R198 to R203) -/

/-- Flits of an item's data: at least one (R203). -/
def flitsOf (data : Bytes) : Nat := max 1 ((data.length + 127) / 128)

/-- A route entry's fields (Table PAN-3). -/
def routeValid (r : Nat) : Bool := bitOf r 63
def routeKind (r : Nat) : Nat := bitsOf r 59 56
def routeDest (r : Nat) : Nat := bitsOf r 55 48
def routeDchan (r : Nat) : Nat := bitsOf r 47 42
def routeRchan (r : Nat) : Nat := bitsOf r 41 36

/-- Entry n of a Pan's route cache; 0 where unused. -/
def cachedRoute (p : Pan) (n : Nat) : Nat := (lookupN p.routeCache n).getD 0

/-- The item that a Pan sends on an outgoing channel: its route is the one cached as its head leaves (R202, R203). -/
def State.itemOf (s : State) (p chan : Nat) (token : Bool) (data : Bytes) : FabItem :=
  let r := cachedRoute (s.pan p) chan
  { src := p, srcChan := chan, ctx := (s.pan p).ctx, kind := routeKind r, dest := routeDest r, dchan := routeDchan r,
    rchan := routeRchan r, token := token, data := data }

/-- Flits in flight from a source to the receive channel or service of an item, in the item's class: class 0 is what Pans
source, class 1 what shared ports send (R199). -/
def State.flitsAhead (s : State) (it : FabItem) : Nat :=
  ((s.fabric.inflight.filter fun o => o.src == it.src && o.kind == it.kind && o.dest == it.dest && o.dchan == it.dchan).map
    fun o => flitsOf o.data).sum

/-- An item's head can leave its source: nothing is in flight before it, or the router buffers of its way hold it too. A
destination that does not receive holds its sources back so (R199). How many flits a way holds is the implementation's. -/
def State.mayLeave (s : State) (it : FabItem) : Bool :=
  s.flitsAhead it == 0 || decide (s.flitsAhead it + flitsOf it.data ≤ Config.pathFlits it.src it.dest)

/-- An item leaves a Pan on an outgoing channel (R202, R203): from then on it is in flight on its route. -/
def State.sendItem (s : State) (p chan : Nat) (token : Bool) (data : Bytes) : State :=
  { s with fabric := { s.fabric with inflight := s.fabric.inflight ++ [s.itemOf p chan token data] } }

/-- An item that a shared port sends to a Pan's receive channel (R199). -/
def State.portItem (s : State) (c p chan : Nat) (token : Bool) (data : Bytes) : State :=
  let it : FabItem :=
    { src := 0xFF, srcChan := 0, ctx := some c, kind := 0, dest := p, dchan := chan, rchan := 0, token := token, data := data }
  { s with fabric := { s.fabric with inflight := s.fabric.inflight ++ [it] } }

/-- Items waiting on receive channel n of a Pan. -/
def rxOf (p : Pan) (n : Nat) : List FabItem := (lookupN p.rx n).getD []

/-- Receive channel n with other items. -/
def setRx (p : Pan) (n : Nat) (l : List FabItem) : Pan :=
  { p with rx := if l.isEmpty then eraseN p.rx n else insertN p.rx n l }

/-! ### The harvest's geometry (R263, R281, R355) -/

/-- Fields of the HARVEST_OPEN parameter block (Table HVS-3). -/
def hvId (c : Ctx) : Bytes := slice c.block 0 16
def hvNonce (c : Ctx) : Bytes := slice c.block 16 12
def hvRing (c : Ctx) : Nat := byteAt c.block 28
def hvPrg (c : Ctx) : Nat := byteAt c.block 29
def hvMode (c : Ctx) : Nat := byteAt c.block 30
def hvPaths (c : Ctx) : Nat := byteAt c.block 31
def hvSlots (c : Ctx) : Nat := leAt c.block 32 4
def hvVector (c : Ctx) : Nat := leAt c.block 36 4
def hvK (c : Ctx) : Nat := leAt c.block 40 2
def hvT (c : Ctx) : Nat := leAt c.block 42 2
def hvFloor (c : Ctx) : Nat := leAt c.block 44 4
def hvSigmaNum (c : Ctx) : Nat := leAt c.block 48 4
def hvSigmaDen (c : Ctx) : Nat := leAt c.block 52 4
def hvSettling (c : Ctx) : Nat := byteAt c.block 56
def hvMetric (c : Ctx) : Nat := byteAt c.block 57
def hvCmp (c : Ctx) : Nat := byteAt c.block 58
def hvThreshold (c : Ctx) : Nat := leAt c.block 60 4
def hvWindow (c : Ctx) : Nat := leAt c.block 64 4
def hvDeqCount (c : Ctx) : Nat := leAt c.block 68 2
def hvLayerCount (c : Ctx) : Nat := leAt c.block 70 2
def hvEvidLen (c : Ctx) : Nat := leAt c.block 72 4
def hvParentKey (c : Ctx) : Bytes := slice c.block 80 32
def hvDeq (c : Ctx) (j : Nat) : Bytes := slice c.block (128 + 16 * j) 16
def hvLayer (c : Ctx) (l : Nat) : Nat := leAt c.block (128 + 16 * hvDeqCount c + 4 * l) 4
def hvEvidence (c : Ctx) : Bytes := slice c.block (128 + 16 * hvDeqCount c + 4 * hvLayerCount c) (hvEvidLen c)

/-- The ring width in bits. -/
def ringW (c : Ctx) : Nat := 16 * 2 ^ (hvRing c)

/-- The layer lengths: one layer of VECTOR words where the block lists none. -/
def layersOf (c : Ctx) : List Nat :=
  if hvLayerCount c = 0 then [hvVector c] else (List.range (hvLayerCount c)).map (hvLayer c)

/-- The slices of every layer that the member of rank r of D holds (R263): local start, global start, length. -/
def segmentsFrom (r d : Nat) : Nat → Nat → List Nat → List (Nat × Nat × Nat)
  | _, _, [] => []
  | loc, glob, len :: rest =>
    let a := r * len / d
    let n := (r + 1) * len / d - a
    (loc, glob + a, n) :: segmentsFrom r d (loc + n) (glob + len) rest

/-- The segments of this member's update vector in the whole vector. -/
def segmentsOf (c : Ctx) : List (Nat × Nat × Nat) :=
  if hvMode c = 1 then segmentsFrom c.rank (max 1 c.ranks.length) 0 0 (layersOf c) else [(0, 0, hvVector c)]

/-- Words of the vector that a member of rank r of d holds. -/
def shareWords (c : Ctx) (r d : Nat) : Nat :=
  ((layersOf c).map fun len => (r + 1) * len / d - r * len / d).sum

/-- The Pan's rank among its context's Pans, and their number. -/
def State.panRank (s : State) (p : Nat) : Nat × Nat :=
  match (s.pan p).ctx with
  | none => (0, 0)
  | some c => (((s.pansOf c).takeWhile (· != p)).length, (s.pansOf c).length)

/-- First word and word count of a Pan's accumulator slice (R281). -/
def State.sliceOf (s : State) (c p : Nat) : Nat × Nat :=
  let v := (s.ctx c).words
  let (i, n) := s.panRank p
  let lo := i * v / max 1 n
  (lo, (i + 1) * v / max 1 n - lo)

/-- Where word k of a Pan's slice is kept: true for Pan memory, and the address. On-chip slices start at logical address
0 of the Pan (R282 gives no place: DESIGN CHOICE, log entry 21); a Store-resident accumulator holds word i of the vector
at byte i·w/8 of ACCUM. -/
def State.accPlace (s : State) (c p k : Nat) : Bool × Nat :=
  let x := s.ctx c
  if x.onChip then (true, k * (ringW x / 8)) else (false, s.partBase c 1 + ((s.sliceOf c p).1 + k) * (ringW x / 8))

/-- `n` bytes of accumulator from word k of a Pan's slice; none where they cannot be read. -/
def State.accRead (s : State) (c p k n : Nat) : Option Bytes :=
  let (chip, a) := s.accPlace c p k
  if chip then panRead (s.pan p) a n else s.storeRead a n

/-- Accumulator bytes written from word k of a Pan's slice on. -/
def State.accWrite (s : State) (c p k : Nat) (bs : Bytes) : State :=
  let (chip, a) := s.accPlace c p k
  if chip then s.updPan p fun q => panWrite q a bs else s.storeWrite a bs

/-- The accumulator of a context set to zero (R284). -/
def State.accZero (s : State) (c : Nat) : State :=
  let x := s.ctx c
  if x.onChip then
    (s.pansOf c).foldl (fun s p =>
      (s.updPan p fun q => panZero q 0 ((s.sliceOf c p).2 * (ringW x / 8))).clearSaved p 0 ((s.sliceOf c p).2 * (ringW x / 8))) s
  else s.storeZero (s.partBase c 1) (x.words * (ringW x / 8))

/-- Ring words of width w in a byte string. -/
def ringWords (w : Nat) (bs : Bytes) : List Nat := (chunksOf (w / 8) (bs.length / (w / 8)) bs).map leNat

/-- Bytes of ring words. -/
def wordBytes (w : Nat) (l : List Nat) : Bytes := l.flatMap (leBytes (w / 8))

/-- Word by word ADD or SUB of two byte strings of ring words (R273). -/
def ringBytes (sub : Bool) (w : Nat) (a b : Bytes) : Bytes :=
  wordBytes w (((ringWords w a).zip (ringWords w b)).map fun x => ringOp sub w x.1 x.2)

/-! ### Keystream (R302 to R304, R312) -/

/-- Keystream bytes [off, off + n) of a seed under PRG 0 (AES-256-CTR) or 1 (ChaCha20). -/
def keystream (prg : Nat) (seed nonce : Bytes) (off n : Nat) : Bytes :=
  let b := if prg = 0 then 16 else 64
  let first := off / b
  let cnt := (off + n + b - 1) / b - first
  let ks := if prg = 0 then Crypto.aesCtr seed (beNat nonce * 2 ^ 32 + first) (16 * cnt)
    else Crypto.chachaBlocks seed nonce cnt first
  (ks.drop (off - first * b)).take n

/-- The mask bytes of a seed over local words [k, k + n) of a member's vector: the mask word of R304 has the index in the
whole vector. -/
def maskBytes (c : Ctx) (seed : Bytes) (k n : Nat) : Bytes :=
  let b := ringW c / 8
  (segmentsOf c).flatMap fun sg =>
    let lo := max k sg.1
    let hi := min (k + n) (sg.1 + sg.2.2)
    if lo < hi then keystream (hvPrg c) seed (hvNonce c) ((sg.2.1 + (lo - sg.1)) * b) ((hi - lo) * b) else []

end Sys2Proof.Machine
end

