-- ==== Sys2Proof/Machine/CarOps.lean ====
section
/-! DEFINITION. Carillon's shared operations (CAR): positions and paths, records, keys of an epoch, BATCH flits. The body of
a CONTROL record begins with one byte that says which firmware message it is; the spec gives these messages no layout
(DESIGN CHOICE, log entry 22). -/
namespace Sys2Proof.Machine

open Sys2Proof

/-! ### Paths (R558, R568, R581) -/

/-- The link of this device that leads to a position (R558). -/
def State.linkTo (s : State) (pos : Nat) : Option Nat :=
  if pos = s.power.pos ∨ 4 ≤ pos then none else some ((s.power.pos ^^^ pos) - 1)

/-- A link is UP. -/
def State.linkUp (s : State) (k : Nat) : Bool := (s.link k).st == 2

/-- The members other than this device. -/
def State.peers (s : State) : List Nat := (List.range 4).filter fun p => bitOf s.car.members p && p != s.power.pos

/-- The positions of the current membership. -/
def State.memberList (s : State) : List Nat := (List.range 4).filter (bitOf s.car.members)

/-- This device is the Treble of a formed Quad. -/
def State.isTreble (s : State) : Bool := s.car.formed && s.treble == s.power.pos

/-- The link that records for a position leave on: the direct one, or, where that is down or its traffic is still relayed
(R581), the one to the lowest other member that is UP. -/
def State.pathTo (s : State) (pos : Nat) : Option Nat :=
  match s.linkTo pos with
  | none => none
  | some k =>
    if s.linkUp k && !(s.link k).relaying then some k
    else
      (s.peers.filter (· != pos)).findSome? fun q =>
        match s.linkTo q with
        | some j => if s.linkUp j then some j else none
        | none => none

/-- A policy allows relay (RELAY_ALLOWED). -/
def State.relayOk (s : State) : Bool := bitOf (leAt s.policy 12 4) 4

/-- The link that job traffic for a position leaves on (R581): the direct one where it carries traffic, else that of a third
member where the image allows relay. -/
def State.jobPath (s : State) (pos : Nat) : Option Nat :=
  match s.linkTo pos with
  | none => none
  | some k =>
    if s.linkUp k && !(s.link k).relaying && !(s.link k).returning then some k
    else if s.relayOk then (s.pathTo pos).filter (· != k)
    else none

/-- A control path to a position that does not begin with link `k` (R580). -/
def State.pathBut (s : State) (pos k : Nat) : Option Nat :=
  (((s.linkTo pos).toList ++ (s.peers.filter (· != pos)).filterMap s.linkTo).filter fun j => j != k && s.linkUp j).head?

/-! ### Flits (R561, R562, R566) -/

/-- CRC-24 of a flit. The spec names the width and no polynomial: OpenPGP's is taken (PRESUMED, log entry 23). -/
def crc24 (bs : Bytes) : Nat :=
  bs.foldl (fun c b =>
    (List.range 8).foldl (fun c _ => let c := c * 2; if bitOf c 24 then c ^^^ 0x1864CFB else c) (c ^^^ (b.toNat * 2 ^ 16))) 0xB704CE

/-- A flit's 200 bytes (Table CAR-1). -/
def flitBytes (kind seq ack : Nat) (payload : Bytes) : Bytes :=
  let h := kind % 16 * 2 ^ 60 + seq % 4096 * 2 ^ 48 + ack % 4096 * 2 ^ 36 + payload.length % 256 * 2 ^ 28
  let body := padTo 192 payload
  leBytes 8 (h + crc24 ((leBytes 8 h).drop 3 ++ body)) ++ body

/-- A flit leaves on a link and enters its replay buffer. -/
def State.launchFlit (s : State) (k kind seq : Nat) (payload : Bytes) : State :=
  (s.emit (.flit k (flitBytes kind seq ((s.link k).rxSeq + 4095) payload))).updLink k fun l =>
    { l with replay := l.replay ++ [{ kind := kind, seq := seq, payload := payload }] }

/-- A flit sent on a link: DATA, TOLL and BATCH flits stay in the replay buffer until an ACK covers them, and wait where it
holds 1,024. -/
def State.sendFlit (s : State) (k kind : Nat) (payload : Bytes) : State :=
  let l := s.link k
  if kind == 1 || kind == 2 || kind == 4 then
    let s := s.updLink k fun l => { l with txSeq := (l.txSeq + 1) % 4096 }
    if 1024 ≤ l.replay.length then s.updLink k fun l => { l with waiting := l.waiting ++ [(kind, (l.txSeq + 4095) % 4096, payload)] }
    else s.launchFlit k kind l.txSeq payload
  else s.emit (.flit k (flitBytes kind l.txSeq (l.rxSeq + 4095) payload))

/-- The flits that waited for room in the replay buffer leave, while it has room. -/
def State.drainFlits (s : State) (k : Nat) : State :=
  let l := s.link k
  let n := 1024 - l.replay.length
  (l.waiting.take n).foldl (fun s f => s.launchFlit k f.1 f.2.1 f.2.2)
    (s.updLink k fun l => { l with waiting := l.waiting.drop n })

/-- The SEQ of the last flit sent on a link. -/
def State.lastFlit (s : State) (k : Nat) : Nat := ((s.link k).txSeq + 4095) % 4096

/-- A transfer's last flit has not been acknowledged. -/
def State.unacked (s : State) (t : Transfer) : Bool :=
  let l := s.link t.link
  decide (t.link < 3) && (l.replay.any (·.seq == t.last) || l.waiting.any (·.2.1 == t.last))

/-- A BATCH flit is placed on a link; it says the epoch that the records after it are under. -/
def State.placeBatch (s : State) (k : Nat) : State :=
  (s.updLink k fun l => { l with sinceBatch := 0 }).sendFlit k 4 (leBytes 4 (match s.car.job with | some j => j.epoch | none => 0))

/-- After a record on a link: the 256th since the last BATCH places one (R566). -/
def State.batchCount (s : State) (k : Nat) : State :=
  if 256 ≤ (s.link k).sinceBatch + 1 then s.placeBatch k
  else s.updLink k fun l => { l with sinceBatch := l.sinceBatch + 1 }

/-- A record's bytes leave on a link as DATA flits of 192 bytes (R565). -/
def State.sendBytes (s : State) (k : Nat) (rec : Bytes) : State :=
  let s := (chunksOf 192 ((rec.length + 191) / 192) rec).zipIdx.foldl
    (fun s x => s.sendFlit k 1 (x.1.take (rec.length - 192 * x.2))) s
  ((s.count .carTxbytes k rec.length).batchCount k)

/-! ### Records (R565) -/

/-- A record header (Table CAR-2). -/
def recHeader (typ src dst ctx epoch seq tag len : Nat) : Bytes :=
  [BitVec.ofNat 8 typ, BitVec.ofNat 8 src, BitVec.ofNat 8 dst, BitVec.ofNat 8 ctx] ++ leBytes 4 epoch ++ leBytes 8 seq ++
    leBytes 4 tag ++ leBytes 2 len ++ [0, 0]

/-- The nonce of a record. -/
def recNonce (src dst seq : Nat) : Bytes := [BitVec.ofNat 8 src, BitVec.ofNat 8 dst, 0, 0] ++ beBytes 8 seq

/-- K_e (R573). -/
def epochKey (j : Job) (e : Nat) : Bytes := kdf j.key j.hid (ascii "VZ epoch" ++ beBytes 4 e) 32

/-- The live job changed by `f`. -/
def State.updJob (s : State) (f : Job → Job) : State := { s with car := { s.car with job := s.car.job.map f } }

/-- The greatest SEQ of a pair in an epoch. -/
def seqLimit : Nat := 2 ^ 32 - 1

/-- Records of the Pans' own traffic, whose path the image governs; the others are control records, acknowledgements and CLEAR,
which use any control path (R568, R580; CLEAR so by DESIGN CHOICE, log entry 37). -/
def panTraffic (typ : Nat) : Bool := typ == 1 || typ == 3 || typ == 4 || typ == 5

/-- The link that a sealed record leaves on. -/
def State.sealedPath (s : State) (typ dst : Nat) : Option Nat := if panTraffic typ then s.jobPath dst else s.pathTo dst

/-- A sealed record of the job goes to a position by a link; past the SEQ limit it waits for the next epoch (R573). -/
def State.sendSealedBy (s : State) (path : Option Nat) (typ dst tag : Nat) (body : Bytes) : State :=
  match s.car.job, path with
  | some j, some k =>
    let seq := (lookupN j.txSeq dst).getD 0
    if seqLimit < seq then s.updJob fun j => { j with waitSeq := j.waitSeq ++ [(typ, dst, tag, body)] }
    else
      let src := s.power.pos
      let h := recHeader typ src dst j.ctx j.epoch seq tag body.length
      let r := h ++ Crypto.gcmSeal (epochKey j j.epoch) (recNonce src dst seq) h body
      let s := s.updJob fun j =>
        { j with txSeq := insertN j.txSeq dst (seq + 1), wantAdvance := j.wantAdvance || decide (seq = seqLimit) }
      (s.emit (.record dst r)).sendBytes k r
  | _, _ => s

/-- A sealed record by the path of its type. -/
def State.sendSealed (s : State) (typ dst tag : Nat) (body : Bytes) : State :=
  s.sendSealedBy (s.sealedPath typ dst) typ dst tag body

/-- A message as bodies of records: each begins with the message's byte and a byte that says whether more follow, and holds
at most 2,048 bytes (R565, log entry 22). -/
def segments (code : Nat) (body : Bytes) : List Bytes :=
  let n := max 1 ((body.length + 2045) / 2046)
  (List.range n).map fun k => [BitVec.ofNat 8 code, BitVec.ofNat 8 (b2n (k + 1 != n))] ++ (body.drop (2046 * k)).take 2046

/-- A plain record (FORM, MEMBERSHIP, DISSOLVE; the job-key exchange): its tag bytes are zero (log entry 22). -/
def State.sendPlain (s : State) (typ dst ctx : Nat) (body : Bytes) : State :=
  match s.pathTo dst with
  | none => s
  | some k =>
    let seq := (lookupN s.car.plainSeq dst).getD 0
    let r := recHeader typ s.power.pos dst ctx 0 seq 0 body.length ++ body ++ List.replicate 16 0
    let s := { s with car := { s.car with plainSeq := insertN s.car.plainSeq dst (seq + 1) } }
    (s.emit (.record dst r)).sendBytes k r

/-- The firmware messages of a job. -/
inductive Ctl where
  | params | roster | openAnswer | staged | go | done | added | backout | freezeList | shareForward | reveal
  | ledgerSeed | maskDone | partialSum | stepToken | stepReport | gateReport | releaseCopy | releaseAck | commit
  | void | pausedFlag | ledgerBytes | epochDirty
  deriving DecidableEq, Repr

/-- The byte that begins a message. -/
def ctlCode (c : Ctl) : Nat :=
  match c with
  | .params => 1 | .roster => 2 | .openAnswer => 3 | .staged => 4 | .go => 5 | .done => 6 | .added => 7 | .backout => 8
  | .freezeList => 9 | .shareForward => 10 | .reveal => 11 | .ledgerSeed => 12 | .maskDone => 13 | .partialSum => 14
  | .stepToken => 15 | .stepReport => 16 | .gateReport => 17 | .releaseCopy => 18 | .releaseAck => 19 | .commit => 20
  | .void => 21 | .pausedFlag => 22 | .ledgerBytes => 23 | .epochDirty => 24

/-- The messages that are answered: a control record awaiting its reply (R580). -/
def answered (c : Ctl) : Bool := c == .params || c == .roster || c == .releaseCopy

/-- A CONTROL message's records to one position by a link. -/
def State.ctlSend (s : State) (path : Option Nat) (dst code : Nat) (body : Bytes) : State :=
  (segments code body).foldl (fun s b => s.sendSealedBy path 0x10 dst 0 b) s

/-- A CONTROL message to one position. One that awaits its reply is a transfer until the reply comes; the commands to open
or to load at once, with no content, await none. -/
def State.ctl (s : State) (dst : Nat) (c : Ctl) (body : Bytes) : State :=
  let epoch := match s.car.job with | some j => j.epoch | none => 0
  let via := s.pathTo dst
  let s := s.ctlSend via dst (ctlCode c) body
  let t : Transfer := { kind := 2, tag := 4 * ctlCode c + dst, peer := dst, link := via.getD 3, epoch := epoch, timing := via.isNone,
                        last := s.lastFlit (via.getD 3), body := body }
  if answered c && s.car.job.isSome && body != [] then { s with car := { s.car with transfers := s.car.transfers ++ [t] } } else s

/-- The reply to a control message has come. -/
def State.ctlAnswered (s : State) (src : Nat) (l : List Ctl) : State :=
  { s with car := { s.car with transfers := s.car.transfers.filter fun t =>
      !(t.kind == 2 && t.peer == src && l.any fun c => t.tag == 4 * ctlCode c + src) } }

/-- A CONTROL record to every other member. -/
def State.ctlAll (s : State) (c : Ctl) (body : Bytes) : State := s.peers.foldl (fun s p => s.ctl p c body) s

/-- The fields of a record. -/
structure RecHead where
  typ : Nat
  src : Nat
  dst : Nat
  ctx : Nat
  epoch : Nat
  seq : Nat
  tag : Nat

def recHead (r : Bytes) : RecHead :=
  { typ := byteAt r 0, src := byteAt r 1, dst := byteAt r 2, ctx := byteAt r 3, epoch := leAt r 4 4, seq := leAt r 8 8,
    tag := leAt r 16 4 }

/-- The plaintext of a sealed record of the job: in the current epoch, or the one before while its key is kept. -/
def State.openRecord (s : State) (r : Bytes) : Option Bytes :=
  let h := recHead r
  match s.car.job with
  | none => none
  | some j =>
    if r.length < 40 ∨ h.ctx ≠ j.ctx ∨ h.dst ≠ s.power.pos ∨ !(h.epoch == j.epoch || j.oldEpoch == some h.epoch) ∨ j.key = [] then
      none
    else Crypto.gcmOpen (epochKey j h.epoch) (recNonce h.src h.dst h.seq) (r.take 24) (r.drop 24)

/-- The body of a plain record. -/
def plainBody (r : Bytes) : Bytes := (r.drop 24).take (r.length - 40)

end Sys2Proof.Machine
end

