-- ==== Sys2Proof/Machine/Ledger.lean ====
section
/-! DEFINITION. The ledger, the certificate and voiding (LDG, HVS R381, R382): ledger bytes and counters, the roster's
records, the COSE certificate, the void sequence. -/
namespace Sys2Proof.Machine

open Sys2Proof

/-! ### The roster (R361, Tables HVS-5 and HVS-6) -/

def rosterRecSize (c : Ctx) : Nat := 104 + 4 * hvK c
def rosterRec (c : Ctx) (i : Nat) : Bytes := slice c.roster (64 + i * rosterRecSize c) (rosterRecSize c)
def rosterHome (c : Ctx) (i : Nat) : Nat := byteAt (rosterRec c i) 4 % 4
def rosterMaskPk (c : Ctx) (i : Nat) : Bytes := slice (rosterRec c i) 8 32
def rosterAuthPk (c : Ctx) (i : Nat) : Bytes := slice (rosterRec c i) 40 32
def rosterCommit (c : Ctx) (i : Nat) : Bytes := slice (rosterRec c i) 72 32
def rosterNeighbours (c : Ctx) (i : Nat) : List Nat := (List.range (hvK c)).map fun k => leAt (rosterRec c i) (104 + 4 * k) 4

/-- N: the roster's slots; 0 before ROSTER_LOAD. -/
def rosterN (c : Ctx) : Nat := if c.roster = [] then 0 else hvSlots c

/-- The slots whose ledger byte lies here: in SPLIT those homed at this position. -/
def State.servesSlot (s : State) (c : Ctx) (i : Nat) : Bool :=
  decide (i < rosterN c) && (hvMode c != 2 || rosterHome c i == s.power.pos)

/-- A record of the roster lies in a condemned data unit of the ROSTER partition: it cannot be read back (R545). The spec says
nothing of what needs it then: a frame is refused, a share is refused, a secret does not verify, a seed is not derived (DESIGN
CHOICE, log entry 66). -/
def State.rosterLost (s : State) (c i : Nat) : Bool :=
  let n := rosterRecSize (s.ctx c)
  storesCondemned s.stores (s.partBase c 2 + 64 + i * n) n

/-! ### Ledger bytes (R389 to R394) -/

/-- A slot's byte: in Tally, or, at the Treble of a SPLIT harvest, as gathered from the slot's HOME. -/
def ledgerByte (c : Ctx) (i : Nat) : Nat := ((lookupN c.ledger i).or (lookupN c.gathered i)).getD 0
def ledStatus (b : Nat) : Nat := bitsOf b 1 0
def ledReveal (b : Nat) : Nat := bitsOf b 3 2
def ledVerified (b : Nat) : Bool := bitOf b 4
def ledFailed (b : Nat) : Bool := bitOf b 5
def ledGranted (b : Nat) : Bool := bitOf b 6

def isAdded (c : Ctx) (i : Nat) : Bool := ledStatus (ledgerByte c i) == 2
def isDropped (c : Ctx) (i : Nat) : Bool := ledStatus (ledgerByte c i) == 3

/-- The slots 0 to N − 1. -/
def slotList (c : Ctx) : List Nat := List.range (rosterN c)

def isNeeded (c : Ctx) (i : Nat) : Bool := isAdded c i || (isDropped c i && (rosterNeighbours c i).any (isAdded c))
def isResolved (c : Ctx) (i : Nat) : Bool := ledVerified (ledgerByte c i) || ledFailed (ledgerByte c i)

/-- What the counters of Table LDG-3 come to over a list of slots. -/
def countSlots (c : Ctx) (l : List Nat) : LedgerCounts :=
  { survivors := (l.filter (isAdded c)).length, dropped := (l.filter (isDropped c)).length
    failed := (l.filter fun i => ledFailed (ledgerByte c i)).length, needed := (l.filter (isNeeded c)).length
    resolved := (l.filter fun i => isNeeded c i && isResolved c i).length }

/-- Counters moved by what a write has changed. -/
def moveCounts (k before after : LedgerCounts) : LedgerCounts :=
  { survivors := k.survivors + after.survivors - before.survivors, dropped := k.dropped + after.dropped - before.dropped
    failed := k.failed + after.failed - before.failed, needed := k.needed + after.needed - before.needed
    resolved := k.resolved + after.resolved - before.resolved }

/-- The slot's byte lies in this device's Tally (R389). -/
def homedHere (c : Ctx) (i : Nat) : Bool := hvMode c != 2 || rosterHome c i == c.ranks.getD c.rank 0

/-- A byte where it belongs; zero bytes are not listed. -/
def putByte (c : Ctx) (i b : Nat) : Ctx :=
  let put (l : List (Nat × Nat)) : List (Nat × Nat) := if b = 0 then eraseN l i else insertN l i b
  if homedHere c i then { c with ledger := put c.ledger } else { c with gathered := put c.gathered }

/-- A ledger byte written, with the counters that the write changes (R394): those of the slot and of its neighbours. -/
def setLedger (c : Ctx) (i b : Nat) : Ctx :=
  let near := i :: rosterNeighbours c i
  let d := putByte c i b
  { d with counts := moveCounts c.counts (countSlots c near) (countSlots d near) }

/-- STATUS of a slot written. -/
def setStatus (c : Ctx) (i st : Nat) : Ctx := setLedger c i (setBits (ledgerByte c i) 1 0 st)

/-- A byte is legal (R393). -/
def ledLegal (quad : Bool) (b : Nat) : Bool :=
  !bitOf b 7 && ledReveal b != 3 &&
    (ledReveal b != 1 || ledStatus b == 2) && (ledReveal b != 2 || ledStatus b == 3) &&
    (!ledVerified b || ledReveal b != 0) && !(ledVerified b && ledFailed b) &&
    (!ledGranted b || ((ledStatus b == 1 || ledStatus b == 2) && quad)) &&
    (!quad || ledStatus b != 2 || ledGranted b)

/-- The ledger digest (R395). -/
def ledgerDigest (c : Ctx) : Bytes := Crypto.sha384 ((slotList c).map fun i => BitVec.ofNat 8 (ledgerByte c i))

/-- Carried survivors (R406). -/
def carried (c : Ctx) : Nat := (((slotList c).filter (isAdded c)).map fun i => (lookupN c.weights i).getD 1).sum

/-- max(8, FLOOR). -/
def effFloor (c : Ctx) : Nat := max 8 (hvFloor c)

/-! ### The certificate (R403, R404, Table LDG-9) -/

/-- FP32 bits as FP64 bits. -/
def widen32 (b : Nat) : Nat := (toFp64 .nearest false (fp32Of b)).1

/-- An Assay record is valid for the harvest (R265). -/
def assayValid (c : Ctx) (r : Bytes) : Bool :=
  leAt r 0 4 == hvMetric c && decide (1 ≤ leAt r 4 4) && decide (leAt r 4 4 ≤ 2 ^ 24) && allZero (slice r 24 8) &&
    (if hvMetric c = 1 then decide (leAt r 8 8 ≤ leAt r 4 4) else bitsOf (leAt r 16 8) 62 52 != 2047)

/-- The assay claim: null when the Assay is not selected or no valid record was accepted. -/
def assayClaim (c : Ctx) : Cbor :=
  match c.assay with
  | none => .null
  | some r =>
    if hvMetric c = 0 || !assayValid c r then .null
    else .arr [.uint (hvMetric c), .uint (hvCmp c), .f64 (widen32 (hvThreshold c)), .uint (leAt r 4 4),
      if hvMetric c = 1 then .uint (leAt r 8 8) else .f64 (leAt r 16 8), .bool c.assayMet]

/-- SHA-384 of the device identity key of a position. -/
def State.identityOf (s : State) (pos : Nat) : Bytes :=
  if pos = s.power.pos then Crypto.sha384 s.keyhold.identityPub
  else match s.car.peerIds.find? fun e => e.1 == pos with
    | some e => e.2.2
    | none => z48

/-- The context with Tally as it stood at its void (R404). -/
def atVoid (c : Ctx) : Ctx :=
  match c.kept with
  | some l => { c with ledger := l }
  | none => c

/-- The toll counter of claim 20: this device's, or at a member of a Quad the Treble's, reckoned from what it last said of it
(DESIGN CHOICE, log entry 34). -/
def State.claimToll (s : State) (x : Ctx) : Nat :=
  match x.tollRef with
  | some (theirs, own) => theirs + (s.cad.toll - own)
  | none => s.cad.toll

/-- The debug scopes of a harvest: those of the members' gate reports with this device's own (R530). -/
def allScopes (c : Ctx) : Nat := c.gateReports.foldl (fun d r => Nat.lor d r.2.2) c.debug

/-- The claims map of a certificate with an outcome, a cause and a result digest. -/
def State.claims (s : State) (c : Nat) (outcome cause : Nat) (result : Cbor) : Cbor :=
  let x := atVoid (s.ctx c)
  let kids := x.children.map fun e => Cbor.bstr e.2
  .map [.uint 1, .uint 1, .uint 2, .uint outcome, .uint 3, .bstr (hvId x), .uint 4, .uint c, .uint 5, .bstr x.meas,
    .uint 6, .bstr x.polMeas, .uint 7, .bstr (Crypto.sha384 x.block), .uint 8, .bstr x.rosterDigest,
    .uint 9, .uint x.counts.survivors, .uint 10, .uint x.counts.dropped, .uint 11, .uint (leAt x.policy 8 4),
    .uint 12, .uint (effFloor x), .uint 13, .uint (carried x),
    .uint 14, .arr [.uint (hvSigmaNum x), .uint (hvSigmaDen x), .bool (bitOf (byteAt x.policy 12) 0)],
    .uint 15, assayClaim x, .uint 16, .bstr (ledgerDigest x), .uint 17, result, .uint 18, .uint x.conflicts,
    .uint 19, .uint x.counts.failed, .uint 20, .uint (s.claimToll x), .uint 21, .arr kids,
    .uint 22, .arr [.uint (hvMode x), .arr (x.ids.map fun e => .arr [.uint e.1, .bstr e.2])],
    .uint 23, .arr (if allScopes x = 0 then [.uint 0, .uint 0] else [.uint 1, .uint (allScopes x)]),
    .uint 24, .uint (byteAt x.policy 208), .uint 25, .uint cause]

/-! ### Voiding (R381, R382) -/

/-- Slots whose ingest frame waited for the add, with the frame's origin. -/
def waitingReplies (c : Ctx) : List (Nat × Origin) :=
  c.slots.filterMap fun e => match e.last with | some o => if 4 ≤ o.port then some (e.slot, o) else none | none => none

/-- What a void discards of a context: staging, HPKE contexts, receipts, secrets, staged copies, work in progress. Tally's
bytes are kept for the certificate's claims. -/
def voidDiscard (c : Ctx) : Ctx :=
  { c with
           slots := [], receipts := [], origins := [], owed := [], adds := [], shares := [], recons := [], masks := []
           staged := none, acks := [], freezing := false, windowOn := false, seedWait := [], result := [], resultDigest := []
           kept := some c.ledger, lostReplies := c.lostReplies ++ waitingReplies c }

/-- The job ends (R571): its keys are zeroised with the context's HARVEST keys. -/
def State.endJob (s : State) (c : Nat) : State :=
  match s.car.job with
  | some j =>
    let idle (l : CarLink) : CarLink := { l with relaying := false, returning := false }
    if j.ctx = c then { s with car := { s.car with job := none, transfers := [], links := s.car.links.map idle } } else s
  | none => s

/-- The ledger bytes of the slots homed here, in ascending order (R395). -/
def State.homeBytes (s : State) (c : Nat) : Bytes :=
  let x := s.ctx c
  ((slotList x).filter fun i => rosterHome x i == s.power.pos).map fun i => BitVec.ofNat 8 (ledgerByte x i)

/-- A SPLIT member's conflict count and ledger bytes, for the Treble (R394, R395). -/
def State.sendBytesHome (s : State) (c : Nat) : State :=
  s.ctl s.treble .ledgerBytes (leBytes 4 (s.ctx c).conflicts ++ s.homeBytes c)

/-- The members whose ledger bytes the Treble of a SPLIT harvest still has to gather (R395). -/
def State.unmerged (s : State) (c : Nat) : List Nat :=
  let x := s.ctx c
  if hvMode x = 2 && s.isTreble then s.peers.filter fun p => !x.merged.contains (p + 4) else []

/-- Steps 1 to 5 of R382, with the certificate's cause in HOLD. In SPLIT the members send their ledger bytes, and the Treble
awaits them (R395). -/
def State.voidCore (s : State) (c : Nat) (cause : Status) : State :=
  let pans := s.pansOf c
  let s := if hvMode (s.ctx c) = 2 && s.car.formed && !s.isTreble then s.sendBytesHome c else s
  let s := pans.foldl (fun s p => s.updPan p fun q => zeroGrainer (stopEngines q)) s
  let s := s.returnPans c
  let s := s.accZero c
  let wait := s.unmerged c
  s.updCtx c fun x => { voidDiscard x with st := .voiding, was := x.st, hold := statusCode cause, gather := wait }

/-- The flags of a live harvest end with it. -/
def clearPause (c : Ctx) : Ctx := { c with pauseBme := false, pauseLink := false, pauseQuad := false }

/-- Steps 6 and 7 of R382, once every ledger byte is gathered: the VOIDED certificate is signed into the release window, and
the context enters VOIDED. Both wait while the DRBG gives nothing (R497). A parked SETTLE completes with VOIDED. -/
def State.finishVoid (s : State) (c : Nat) : State :=
  let x := s.ctx c
  if x.st != .voiding || x.gather != [] then s
  else
    match s.signCose (s.claims c 1 x.hold .null).encode with
    | none => s.noteWait 0
    | some (cert, s) =>
      let s := (s.updCtx c fun x => { clearPause x with cert := cert, kept := none }).endHarvestKeys c
      ((s.enterState c .voided (statusOf x.hold)).finishSettle c .voided).endJob c

/-- Voids that waited go on as far as they can. -/
def State.retryCerts (s : State) : State := (List.range 4).foldl State.finishVoid s

/-- The Treble gathers from members of its Quad alone: one that has left it is not waited for. Its bytes stand as the Treble
last knew them (DESIGN CHOICE, log entry 34). -/
def State.stopGather (s : State) : State :=
  let left (x : Ctx) : Ctx := { x with gather := x.gather.filter fun p => s.peers.contains p }
  ({ s with ctxs := s.ctxs.map left }).retryCerts

/-- A live harvest becomes VOIDED (R382); anywhere else nothing happens (R381). -/
def State.voidLocal (s : State) (c : Nat) (cause : Status) : State :=
  if !ctxLive (s.ctx c).st then s else (s.voidCore c cause).finishVoid c

/-- A live harvest is voided, and a Quad-wide one on every other member too (R380). -/
def State.voidCtx (s : State) (c : Nat) (cause : Status) : State :=
  if !ctxLive (s.ctx c).st then s
  else
    let s := if (s.ctx c).quad then s.ctlAll .void (leBytes 2 (statusCode cause) ++ leBytes 8 s.cad.toll) else s
    s.voidLocal c cause

/-- What a read of a slot's ledger byte finds. `tally` is what Tally's SECDED finds in that read: a word, named by one of its
eight slots, that was upset. A corrected error is counted; an uncorrectable word is never retried (R389, R393, R646). False
where the read is uncorrectable or finds an illegal byte. -/
def tallyOk (c : Ctx) (slot : Nat) (tally : Option (Nat × Upset)) : Bool :=
  ledLegal c.quad (ledgerByte c slot) && !tally.any fun e => e.1 / 8 == slot / 8 && e.2 != .corrected

/-- A FATAL fault with harvest scope (R650, Table FLT-3): counted, logged and reported, and the live harvest is VOIDED with
LASTING_FAULT. UNIT, INDEX and LOCATION are those of the fault. -/
def State.fatalVoid (s : State) (c unit index loc : Nat) : State :=
  if !ctxLive (s.ctx c).st then s
  else (s.fault 3 unit index (statusCode .lastingFault) (some c) loc 0).voidCtx c .lastingFault

/-- Keyhold reads a slot's ledger byte, and goes on with it where the read is good; else the harvest is voided by a FATAL
fault (R393, Table FLT-3). -/
def State.tallyRead (s : State) (c slot : Nat) (tally : Option (Nat × Upset)) (f : State → State) : State :=
  if !tallyOk (s.ctx c) slot tally then s.fatalVoid c 5 0 slot
  else f (if tally.any fun e => e.1 / 8 == slot / 8 then s.classCount 0 else s)

/-- Every live harvest is voided. -/
def State.voidAll (s : State) (cause : Status) : State := (List.range 4).foldl (fun s c => s.voidCtx c cause) s

/-! ### Weights of a live harvest -/

/-- A context's harvest is live (RDST, R337). -/
def State.liveOn (s : State) (c : Option Nat) : Bool :=
  match c with
  | some c => ctxLive (s.ctx c).st
  | none => false

end Sys2Proof.Machine
end

