-- ==== Sys2Proof/Machine/Issue.lean ====
section
/-! DEFINITION. Issue on a Pan sequencer (SEQ, R329 to R350): registers, the prefetch buffer, the checks of Table SEQ-7, traps,
engine queues and held generators. -/
namespace Sys2Proof.Machine

open Sys2Proof

/-! ### Registers and memory of the sequencer (Table SEQ-1) -/

/-- g0 reads zero. -/
def gReg (p : Pan) (n : Nat) : Nat := if n = 0 then 0 else p.g.getD n 0

/-- Writes to g0 are ignored. -/
def setG (p : Pan) (n v : Nat) : Pan := if n = 0 then p else { p with g := setAt 32 p.g 0 n (v % 2 ^ 64) }

/-- p0 reads 1. -/
def pReg (p : Pan) (n : Nat) : Bool := n == 0 || p.p.getD n false

/-- Writes to p0 are ignored. -/
def setP (p : Pan) (n : Nat) (v : Bool) : Pan := if n = 0 then p else { p with p := setAt 8 p.p false n v }

def agOf (p : Pan) (n : Nat) : AddrGen := p.ag.getD n {}
def setAg (p : Pan) (n : Nat) (a : AddrGen) : Pan := { p with ag := setAt 4 p.ag {} n a }

/-- A word of instruction memory. -/
def imemWord (p : Pan) (i : Nat) : Nat := (lookupN p.imem (i % 16384)).getD 0

/-- A word of instruction memory written. -/
def setImem (p : Pan) (i v : Nat) : Pan :=
  { p with imem := if v = 0 then eraseN p.imem i else insertN p.imem i v }

/-- NSTAT and CSTAT flags set by an engine (R229, R277). -/
def orNstat (p : Pan) (f : Nat) : Pan := { p with nstat := Nat.lor p.nstat f }
def orCstat (p : Pan) (f : Nat) : Pan := { p with cstat := Nat.lor p.cstat f }

/-- The words at pc to pc + 4 as fetched (R342): those already in the buffer, and the rest as instruction memory holds them
now. -/
def fetched (p : Pan) : List Nat :=
  p.prefetch ++ (List.range (5 - p.prefetch.length)).map fun k => imemWord p (p.pc + p.prefetch.length + k)

/-! ### Address generators (R334) -/

/-- Row address and scale address of the k-th row from the current position on. -/
def rowAddr (a : AddrGen) (k : Nat) : Int := (a.base : Int) + ((a.pos + k) % a.count : Nat) * a.stride
def scaleAddr (a : AddrGen) (k : Nat) : Int := (a.sbase : Int) + ((a.pos + k) % a.count : Nat) * a.sstride

/-- A generator after `n` rows. -/
def advAg (a : AddrGen) (n : Nat) : AddrGen := { a with pos := (a.pos + n) % a.count }

/-- [x, x + n) lies in a Pan's logical memory. -/
def inRange (p : Pan) (x : Int) (n : Nat) : Bool := decide (0 ≤ x) && decide (x + n ≤ panBytes p)

/-- Every row of `n` bytes of a generator over `rows` rows lies in range. Positions repeat after COUNT rows. -/
def rowsIn (p : Pan) (a : AddrGen) (rows n : Nat) : Bool :=
  (List.range (min rows a.count)).all fun k => inRange p (rowAddr a k) n
def scalesIn (p : Pan) (a : AddrGen) (rows n : Nat) : Bool :=
  n == 0 || (List.range (min rows a.count)).all fun k => inRange p (scaleAddr a k) n

/-- The generators that an engine instruction uses. -/
def gensOf : EngOp → List Nat
  | .kcfg _ | .kout _ | .gseed _ | .gexp _ | .gexpLane | .caddItem | .cnoise | .sigt .. => []
  | .kload _ g ch => if ch.isNone then [g] else []
  | .krun _ _ e _ src fu _ o =>
    (if src.isNone then [0] else []) ++ [1] ++ (if o.fused ≠ 0 ∧ fu.isNone ∧ e = 2 then [2] else []) ++ (if o.stats ≠ 0 ∧ e = 2 then [3] else [])
  | .kpass _ _ fu o => [0, 1] ++ (if o.fused ≠ 0 ∧ fu.isNone then [2] else []) ++ (if o.stats ≠ 0 then [3] else [])
  | .gstream _ g .. => match g with | some g => [g] | none => []
  | .cring _ _ ch _ => (if ch.isNone then [0] else []) ++ [1]
  | .cfield op _ => if op = 4 then [0, 3] else if op = 3 then [0, 1, 2, 3] else [0, 1, 3]
  | .cdeq _ => [1]
  | .cfuse op .. => if op = 3 then [0, 1, 2, 3] else if op = 4 ∨ op = 5 ∨ op = 6 ∨ op = 11 ∨ op = 12 then [0, 3] else [0, 1, 3]
  | .send _ g _ => [g]

/-- The engine queues. -/
def engQ (p : Pan) (e : Engine) : List EngEntry :=
  match e with | .kettle => p.kq | .grainer => p.gq | .crystalliser => p.cq | .port => p.pq
def setEngQ (p : Pan) (e : Engine) (l : List EngEntry) : Pan :=
  match e with
  | .kettle => { p with kq := l } | .grainer => { p with gq := l } | .crystalliser => { p with cq := l }
  | .port => { p with pq := l }

/-- Every engine entry of a Pan. -/
def allEntries (p : Pan) : List EngEntry := p.kq ++ p.gq ++ p.cq ++ p.pq

/-- A generator is held by an issued instruction (R334). -/
def heldGen (p : Pan) (g : Nat) : Bool := (allEntries p).any fun e => (gensOf e.op).contains g

/-- An instruction joins an engine's queue, with the generators as they stand. -/
def enqueueEng (p : Pan) (e : Engine) (op : EngOp) : Pan :=
  let q := setEngQ p e (engQ p e ++ [{ op := op, pc := p.pc, order := p.issueOrder, ag := p.ag }])
  { q with issueOrder := p.issueOrder + 1 }

/-! ### Traps (R339 to R341, Table SEQ-7) -/

/-- The status of a cause. -/
def causeStatus (k : Nat) : Status :=
  match k with
  | 1 => .illegalOpcode | 2 => .reservedNonzero | 3 => .badEnum | 4 => .staleOperand | 11 => .uncorrectable | _ => .refused

/-- A Pan traps at a word with a cause (R340): TRAPPED, PAN_TRAP, ERROR, and a live harvest of its context is voided. -/
def State.trap (s : State) (p pc cause : Nat) : State :=
  let st := causeStatus cause
  let c := (s.pan p).ctx
  let s := s.updPan p fun q =>
    { q with st := .trapped, trapPc := pc, trapCode := statusCode st, blocked := none, debugHalt := false }
  let s := s.errorEvent c (statusCode st) 1 cause p pc 0
  match c with
  | some c => s.voidCtx c st
  | none => s

/-! ### One issue -/

/-- What the sequencer does after an instruction. -/
inductive Flow where
  | next
  | jump (t : Nat)
  | refetch
  | block (b : Blocked)

/-- An instruction as its word gives it: what the checks of Table SEQ-7 find, what it needs before it can issue, what it
does. -/
structure Plan where
  rsv : Bool := false
  bad : Bool := false
  gens : List Nat := []
  engines : List Engine := []
  /-- It waits for something else (a Sweep slice, R209). -/
  wait : Bool := false
  cause : Option Nat := none
  /-- Its effect; for a read that fails twice (cause 0x0B), what the failed read itself does. -/
  act : State → State := id
  flow : Flow := .next

/-- A field of a word. -/
def fld (w : BitVec 25) (hi lo : Nat) : Nat := bitsOf w.toNat hi lo

/-- The bits of [20:0] that `m` names are zero. -/
def rsvBits (w : BitVec 25) (l : List (Nat × Nat)) : Bool := l.any fun r => fld w r.1 r.2 != 0

/-- Issue can take place: the Pan runs, nothing blocks it, no debug halt holds it. -/
def canIssue (p : Pan) (step : Bool) : Bool :=
  p.st == .running && p.blocked.isNone && (step || !p.debugHalt)

/-- pc and the buffer after an instruction. -/
def flowPan (p : Pan) (buf : List Nat) (f : Flow) : Pan :=
  match f with
  | .next => { p with pc := (p.pc + 1) % 16384, prefetch := buf.drop 1 }
  | .jump t => { p with pc := t % 16384, prefetch := [] }
  | .refetch => { p with pc := (p.pc + 1) % 16384, prefetch := [] }
  | .block b => { p with blocked := some b, prefetch := buf }

/-- A TRCQ item for an issued instruction while TRACE is open (R455, R528). -/
def State.traceIssue (s : State) (p word : Nat) : State :=
  if s.traceOpen && s.queuesOpen then
    s.produce 6 0x81 0xFF 0 (BitVec.ofNat 8 p :: (List.replicate 3 0 ++ padTo 40 (Config.traceData p word))) false 0
  else s

/-- One issue of the word at pc (R331 to R347). Nothing where the Pan cannot issue, the word at pc is another one, or the
instruction waits for a held generator or a full queue. -/
def State.issueWord (s : State) (p word : Nat) (step : Bool) (plan : State → Plan) : State :=
  let q := s.pan p
  let buf := fetched q
  if !canIssue q step || buf.head? != some word then s
  else
    let k := plan s
    let ex := pReg q (bitsOf word 24 22) != bitOf word 21
    if ex && (k.wait || k.gens.any (heldGen q) || k.engines.any fun e => decide (4 ≤ (engQ q e).length)) then s
    else
      let s := (s.traceIssue p word).updPan p fun q => { q with pcnt := updAt q.pcnt 3 (· + 1) }
      if k.rsv then s.trap p q.pc 2
      else if k.bad then s.trap p q.pc 3
      else if !ex then s.updPan p fun q => flowPan q buf .next
      else
        match k.cause with
        | some c => (if c = 11 then k.act s else s).trap p q.pc c
        | none => (k.act s).updPan p fun q => flowPan q buf k.flow

/-- The least of the causes that apply. -/
def firstCause (l : List (Bool × Nat)) : Option Nat := (l.find? (·.1)).map (·.2)

/-- The whole word of an opcode. -/
def wordOfOp (op : Nat) (w : BitVec 25) : Nat := op * 2 ^ 25 + w.toNat

end Sys2Proof.Machine
end

