-- ==== Sys2Proof/Machine/Sequencer.lean ====
section
/-! DEFINITION. The scalar and blocking instructions of the Pan sequencer (SEQ, R329 to R350, Table SEQ-4). -/
namespace Sys2Proof.Machine

open Sys2Proof

/-- A sign-extended field as an integer. -/
def sext (n v : Nat) : Int := signed n v

/-- gA plus a signed offset, modulo 2^64. -/
def addS (g : Nat) (i : Int) : Nat := unsigned 64 ((g : Int) + i)

/-! ### Arithmetic -/

/-- An instruction of three registers. -/
def planAlu (f : Nat → Nat → Nat) (p : Nat) (w : BitVec 25) (_ : State) : Plan :=
  { rsv := rsvBits w [(5, 0)]
    act := fun s => s.updPan p fun q => setG q (fld w 20 16) (f (gReg q (fld w 15 11)) (gReg q (fld w 10 6))) }

def opAdd (a b : Nat) : Nat := a + b
def opSub (a b : Nat) : Nat := a + 2 ^ 64 - b
def opAnd (a b : Nat) : Nat := a &&& b
def opOr (a b : Nat) : Nat := a ||| b
def opXor (a b : Nat) : Nat := a ^^^ b
def opShl (a b : Nat) : Nat := a * 2 ^ (b % 64)
def opShr (a b : Nat) : Nat := a / 2 ^ (b % 64)
def opMul (a b : Nat) : Nat := a * b

def planNop (w : BitVec 25) (_ : State) : Plan := { rsv := rsvBits w [(20, 0)] }

def planAddi (p : Nat) (w : BitVec 25) (_ : State) : Plan :=
  { act := fun s => s.updPan p fun q => setG q (fld w 20 16) (addS (gReg q (fld w 20 16)) (sext 16 (fld w 15 0))) }

def planLdi (p : Nat) (w : BitVec 25) (_ : State) : Plan :=
  { act := fun s => s.updPan p fun q => setG q (fld w 20 16) (gReg q (fld w 20 16) * 2 ^ 16 + fld w 15 0) }

/-- The conditions of CMP. -/
def cmpHolds (cc a b : Nat) : Bool :=
  match cc with
  | 0 => a == b
  | 1 => a != b
  | 2 => decide (a < b)
  | 3 => decide (b ≤ a)
  | 4 => decide (signed 64 a < signed 64 b)
  | _ => decide (signed 64 b ≤ signed 64 a)

def planCmp (p : Nat) (w : BitVec 25) (_ : State) : Plan :=
  { rsv := rsvBits w [(20, 19), (5, 3)]
    bad := decide (6 ≤ fld w 2 0)
    act := fun s => s.updPan p fun q =>
      setP q (fld w 18 16) (cmpHolds (fld w 2 0) (gReg q (fld w 15 11)) (gReg q (fld w 10 6))) }

/-! ### LD and ST -/

/-- The address of LD and ST. -/
def lsAddr (q : Pan) (w : BitVec 25) : Nat := addS (gReg q (fld w 15 11)) (8 * sext 11 (fld w 10 0))

/-- ADDRESS before ALIGN (Table SEQ-7). -/
def lsCause (q : Pan) (a : Nat) : Option Nat := firstCause [(!inRange q a 8, 5), (a % 8 != 0, 6)]

/-- LD: it meets the upsets that its command names; a word that fails twice traps MEMORY (R210). -/
def planLd (p : Nat) (w : BitVec 25) (ups : List (Nat × Upset)) (s : State) : Plan :=
  let q := s.pan p
  let a := lsAddr q w
  let lost := failingIn q ups a 8
  let met (s : State) : State := (upsetsIn ups a 8).foldl (fun s u => s.meetUpset p q.pc u) s
  match lsCause q a with
  | some k => { cause := some k }
  | none =>
    { wait := s.held p a 8
      cause := if lost = [] then none else some 11
      act := fun s =>
        if lost = [] then (met s).updPan p fun q => setG q (fld w 20 16) (leNat (Memory.readN q.mem a 8))
        else s.panLost p lost none q.pc }

def planSt (p : Nat) (w : BitVec 25) (s : State) : Plan :=
  let q := s.pan p
  let a := lsAddr q w
  { wait := (lsCause q a).isNone && s.held p a 8
    cause := lsCause q a
    act := fun s => s.updPan p fun q => panWrite q a (leBytes 8 (gReg q (fld w 20 16))) }

/-! ### Control flow -/

def planJmp (w : BitVec 25) (_ : State) : Plan := { rsv := rsvBits w [(20, 14)], flow := .jump (fld w 13 0) }

/-- pc plus a sign-extended offset, modulo 16,384 (R331). -/
def branchTo (pc : Nat) (w : BitVec 25) : Nat := (((pc : Int) + sext 16 (fld w 15 0)) % 16384).toNat

def planBr (p : Nat) (w : BitVec 25) (s : State) : Plan :=
  { rsv := rsvBits w [(20, 16)], flow := .jump (branchTo (s.pan p).pc w) }

def planJr (p : Nat) (w : BitVec 25) (s : State) : Plan :=
  let t := gReg (s.pan p) (fld w 15 11)
  { rsv := rsvBits w [(20, 16), (10, 0)], cause := firstCause [(decide (16384 ≤ t), 5)], flow := .jump t }

/-- LOOP; on g0 nothing is written and the branch is always taken. -/
def planLoop (p : Nat) (w : BitVec 25) (s : State) : Plan :=
  let q := s.pan p
  let d := fld w 20 16
  let v := addS (gReg q d) (-1)
  { act := fun s => s.updPan p fun q => setG q d v
    flow := if v ≠ 0 ∨ d = 0 then .jump (branchTo q.pc w) else .next }

def planHalt (w : BitVec 25) (_ : State) : Plan := { rsv := rsvBits w [(20, 0)], flow := .block .halt }

/-! ### Status (R337, R229) -/

/-- The items of Table SEQ-6. -/
def rdstItem (s : State) (p sel : Nat) : Nat :=
  let q := s.pan p
  match sel with
  | 0 => q.nstat
  | 1 => q.cstat
  | 2 => s.cad.toll
  | 3 => (s.panRank p).1 + (s.panRank p).2 * 2 ^ 8 + p * 2 ^ 16 + q.ctx.getD 0 * 2 ^ 24
  | 4 =>
    match q.ctx with
    | some c => if ctxLive (s.ctx c).st then (s.sliceOf c p).1 + (s.sliceOf c p).2 * 2 ^ 32 else 0
    | none => 0
  | _ =>
    match q.ctx with
    | some c =>
      let x := s.ctx c
      if ctxLive x.st then hvRing x + hvPrg x * 4 + 8 + b2n x.quad * 16 else 0
    | none => 0

def planRdst (p : Nat) (w : BitVec 25) (_ : State) : Plan :=
  { rsv := rsvBits w [(15, 5)]
    bad := decide (6 ≤ fld w 4 0)
    act := fun s => s.updPan p fun q => setG q (fld w 20 16) (rdstItem s p (fld w 4 0)) }

/-- CLST; a MASK bit at a reserved flag position is a reserved bit. -/
def planClst (p : Nat) (w : BitVec 25) (_ : State) : Plan :=
  let m := fld w 15 0
  { rsv := rsvBits w [(20, 17)] || (if fld w 16 16 = 0 then bitsOf m 15 7 != 0 else bitsOf m 15 3 != 0)
    act := fun s => s.updPan p fun q =>
      if fld w 16 16 = 0 then { q with nstat := q.nstat - (q.nstat &&& m) } else { q with cstat := q.cstat - (q.cstat &&& m) } }

/-! ### Address generators (R334, R348) -/

def planAgset (p : Nat) (w : BitVec 25) (s : State) : Plan :=
  let q := s.pan p
  let a := gReg q (fld w 15 11)
  let b := gReg q (fld w 10 6)
  let base := bitsOf a 22 0
  let stride := sext 24 (bitsOf b 23 0)
  let count := bitsOf b 48 32
  { rsv := rsvBits w [(20, 18), (5, 0)]
    gens := [fld w 17 16]
    cause := firstCause [(base % 32 != 0 || stride % 32 != 0, 6), (count == 0 || decide (65536 < count), 7)]
    act := fun s => s.updPan p fun q =>
      setAg q (fld w 17 16) { agOf q (fld w 17 16) with base := base, stride := stride, count := count, pos := 0 } }

def planAgscl (p : Nat) (w : BitVec 25) (s : State) : Plan :=
  let q := s.pan p
  { rsv := rsvBits w [(20, 18), (5, 0)]
    gens := [fld w 17 16]
    act := fun s => s.updPan p fun q' =>
      setAg q' (fld w 17 16) { agOf q' (fld w 17 16) with
        sbase := bitsOf (gReg q (fld w 15 11)) 22 0, sstride := sext 24 (bitsOf (gReg q (fld w 10 6)) 23 0) } }

def planAgadv (p : Nat) (w : BitVec 25) (s : State) : Plan :=
  let a := agOf (s.pan p) (fld w 17 16)
  { rsv := rsvBits w [(20, 18)]
    gens := [fld w 17 16]
    cause := firstCause [(a.count == 0, 7)]
    act := fun s => s.updPan p fun q =>
      setAg q (fld w 17 16) { a with pos := (((a.pos : Int) + sext 16 (fld w 15 0)) % a.count).toNat } }

def planAgrd (p : Nat) (w : BitVec 25) (s : State) : Plan :=
  let a := agOf (s.pan p) (fld w 1 0)
  { rsv := rsvBits w [(15, 2)]
    gens := [fld w 1 0]
    cause := firstCause [(a.count == 0, 7)]
    act := fun s => s.updPan p fun q => setG q (fld w 20 16) (unsigned 64 ((a.base : Int) + a.pos * a.stride)) }

/-! ### Channels (R200 to R203) -/

/-- COUNT when a generator is unset; the address check of its rows otherwise. -/
def rowCauses (q : Pan) (g rows n : Nat) : List (Bool × Nat) :=
  let a := agOf q g
  if a.count = 0 then [(true, 7)] else [(!rowsIn q a rows n, 5)]

/-- A receive channel is in the receive mask. -/
def rxExpected (q : Pan) (c : Nat) : Bool := bitOf q.rxMask c

/-- The head of a receive channel is a token, or a data item. -/
def headToken (q : Pan) (c : Nat) : Option Bool := (rxOf q c).head?.map (·.token)

def planSend (p : Nat) (w : BitVec 25) (s : State) : Plan :=
  let q := s.pan p
  { rsv := rsvBits w [(8, 0)]
    gens := [fld w 14 13]
    engines := [.port]
    cause := firstCause (rowCauses q (fld w 14 13) 1 (128 * (fld w 12 9 + 1)) ++
      [(!routeValid (cachedRoute q (fld w 20 15)), 8)])
    act := fun s => s.updPan p fun q => enqueueEng q .port (.send (fld w 20 15) (fld w 14 13) (fld w 12 9 + 1)) }

def planSigt (p : Nat) (w : BitVec 25) (s : State) : Plan :=
  let q := s.pan p
  let r := cachedRoute q (fld w 20 15)
  { rsv := rsvBits w [(9, 0)]
    engines := [.port]
    cause := firstCause [(!routeValid r || routeKind r != 0, 8)]
    act := fun s => s.updPan p fun q => enqueueEng q .port (.sigt (fld w 20 15) (gReg q (fld w 14 10) % 2 ^ 32)) }

def planRecv (p : Nat) (w : BitVec 25) (s : State) : Plan :=
  let q := s.pan p
  { rsv := rsvBits w [(7, 0)]
    gens := [fld w 14 13]
    engines := [.port]
    cause := firstCause (rowCauses q (fld w 14 13) 1 2048 ++
      [(!rxExpected q (fld w 20 15), 8), (headToken q (fld w 20 15) == some true, 9)])
    flow := .block (.recv (fld w 20 15) (fld w 14 13) (fld w 12 8)) }

def planWaitt (p : Nat) (w : BitVec 25) (s : State) : Plan :=
  let q := s.pan p
  { rsv := rsvBits w [(9, 0)]
    engines := [.port]
    cause := firstCause [(!rxExpected q (fld w 20 15), 8), (headToken q (fld w 20 15) == some false, 9)]
    flow := .block (.waitt (fld w 20 15) (fld w 14 10)) }

/-! ### FENCE, FENCEC, SYNCI, STI -/

def planFence (w : BitVec 25) (_ : State) : Plan := { rsv := rsvBits w [(20, 0)], flow := .block .fence }

/-- The Pan's context has a live Quad-wide harvest. -/
def State.quadLive (s : State) (p : Nat) : Bool :=
  match (s.pan p).ctx with
  | some c => ctxLive (s.ctx c).st && (s.ctx c).quad
  | none => false

/-- FENCEC; outside a live Quad-wide harvest it completes after one issue with OK (R349). -/
def planFencec (p : Nat) (w : BitVec 25) (s : State) : Plan :=
  if s.quadLive p then { rsv := rsvBits w [(15, 0)], flow := .block (.fencec (fld w 20 16)) }
  else { rsv := rsvBits w [(15, 0)], act := fun s => s.updPan p fun q => setG q (fld w 20 16) 0 }

def planSynci (w : BitVec 25) (_ : State) : Plan := { rsv := rsvBits w [(20, 0)], flow := .refetch }

def planSti (p : Nat) (w : BitVec 25) (s : State) : Plan :=
  let q := s.pan p
  let a := gReg q (fld w 15 11)
  { rsv := rsvBits w [(20, 16), (5, 0)]
    cause := firstCause [(decide (16384 ≤ a), 5)]
    act := fun s => s.updPan p fun q => setImem q a (gReg q (fld w 10 6) % 2 ^ 32) }

def execNop (p : Fin 48) (w : BitVec 25) (s : State) : Host.Outcome State Fault Refusal :=
  s.done (s.issueWord p (wordOfOp 0x01 w) false (planNop w))
def execAdd (p : Fin 48) (w : BitVec 25) (s : State) : Host.Outcome State Fault Refusal :=
  s.done (s.issueWord p (wordOfOp 0x02 w) false (planAlu opAdd p w))
def execSub (p : Fin 48) (w : BitVec 25) (s : State) : Host.Outcome State Fault Refusal :=
  s.done (s.issueWord p (wordOfOp 0x03 w) false (planAlu opSub p w))
def execAnd (p : Fin 48) (w : BitVec 25) (s : State) : Host.Outcome State Fault Refusal :=
  s.done (s.issueWord p (wordOfOp 0x04 w) false (planAlu opAnd p w))
def execOr (p : Fin 48) (w : BitVec 25) (s : State) : Host.Outcome State Fault Refusal :=
  s.done (s.issueWord p (wordOfOp 0x05 w) false (planAlu opOr p w))
def execXor (p : Fin 48) (w : BitVec 25) (s : State) : Host.Outcome State Fault Refusal :=
  s.done (s.issueWord p (wordOfOp 0x06 w) false (planAlu opXor p w))
def execShl (p : Fin 48) (w : BitVec 25) (s : State) : Host.Outcome State Fault Refusal :=
  s.done (s.issueWord p (wordOfOp 0x07 w) false (planAlu opShl p w))
def execShr (p : Fin 48) (w : BitVec 25) (s : State) : Host.Outcome State Fault Refusal :=
  s.done (s.issueWord p (wordOfOp 0x08 w) false (planAlu opShr p w))
def execMul (p : Fin 48) (w : BitVec 25) (s : State) : Host.Outcome State Fault Refusal :=
  s.done (s.issueWord p (wordOfOp 0x09 w) false (planAlu opMul p w))
def execAddi (p : Fin 48) (w : BitVec 25) (s : State) : Host.Outcome State Fault Refusal :=
  s.done (s.issueWord p (wordOfOp 0x0A w) false (planAddi p w))
def execLdi (p : Fin 48) (w : BitVec 25) (s : State) : Host.Outcome State Fault Refusal :=
  s.done (s.issueWord p (wordOfOp 0x0B w) false (planLdi p w))
def execCmp (p : Fin 48) (w : BitVec 25) (s : State) : Host.Outcome State Fault Refusal :=
  s.done (s.issueWord p (wordOfOp 0x0C w) false (planCmp p w))
def execLd (p : Fin 48) (w : BitVec 25) (ups : List (Nat × Upset)) (s : State) : Host.Outcome State Fault Refusal :=
  s.done (s.issueWord p (wordOfOp 0x0D w) false (planLd p w ups))
def execSt (p : Fin 48) (w : BitVec 25) (s : State) : Host.Outcome State Fault Refusal :=
  s.done (s.issueWord p (wordOfOp 0x0E w) false (planSt p w))
def execJmp (p : Fin 48) (w : BitVec 25) (s : State) : Host.Outcome State Fault Refusal :=
  s.done (s.issueWord p (wordOfOp 0x10 w) false (planJmp w))
def execBr (p : Fin 48) (w : BitVec 25) (s : State) : Host.Outcome State Fault Refusal :=
  s.done (s.issueWord p (wordOfOp 0x11 w) false (planBr p w))
def execJr (p : Fin 48) (w : BitVec 25) (s : State) : Host.Outcome State Fault Refusal :=
  s.done (s.issueWord p (wordOfOp 0x12 w) false (planJr p w))
def execLoop (p : Fin 48) (w : BitVec 25) (s : State) : Host.Outcome State Fault Refusal :=
  s.done (s.issueWord p (wordOfOp 0x13 w) false (planLoop p w))
def execHalt (p : Fin 48) (w : BitVec 25) (s : State) : Host.Outcome State Fault Refusal :=
  s.done (s.issueWord p (wordOfOp 0x14 w) false (planHalt w))
def execRdst (p : Fin 48) (w : BitVec 25) (s : State) : Host.Outcome State Fault Refusal :=
  s.done (s.issueWord p (wordOfOp 0x15 w) false (planRdst p w))
def execClst (p : Fin 48) (w : BitVec 25) (s : State) : Host.Outcome State Fault Refusal :=
  s.done (s.issueWord p (wordOfOp 0x16 w) false (planClst p w))
def execAgset (p : Fin 48) (w : BitVec 25) (s : State) : Host.Outcome State Fault Refusal :=
  s.done (s.issueWord p (wordOfOp 0x18 w) false (planAgset p w))
def execAgscl (p : Fin 48) (w : BitVec 25) (s : State) : Host.Outcome State Fault Refusal :=
  s.done (s.issueWord p (wordOfOp 0x19 w) false (planAgscl p w))
def execAgadv (p : Fin 48) (w : BitVec 25) (s : State) : Host.Outcome State Fault Refusal :=
  s.done (s.issueWord p (wordOfOp 0x1A w) false (planAgadv p w))
def execAgrd (p : Fin 48) (w : BitVec 25) (s : State) : Host.Outcome State Fault Refusal :=
  s.done (s.issueWord p (wordOfOp 0x1B w) false (planAgrd p w))
def execSend (p : Fin 48) (w : BitVec 25) (s : State) : Host.Outcome State Fault Refusal :=
  s.done (s.issueWord p (wordOfOp 0x20 w) false (planSend p w))
def execRecv (p : Fin 48) (w : BitVec 25) (s : State) : Host.Outcome State Fault Refusal :=
  s.done (s.issueWord p (wordOfOp 0x21 w) false (planRecv p w))
def execWaitt (p : Fin 48) (w : BitVec 25) (s : State) : Host.Outcome State Fault Refusal :=
  s.done (s.issueWord p (wordOfOp 0x22 w) false (planWaitt p w))
def execSigt (p : Fin 48) (w : BitVec 25) (s : State) : Host.Outcome State Fault Refusal :=
  s.done (s.issueWord p (wordOfOp 0x23 w) false (planSigt p w))
def execFence (p : Fin 48) (w : BitVec 25) (s : State) : Host.Outcome State Fault Refusal :=
  s.done (s.issueWord p (wordOfOp 0x50 w) false (planFence w))
def execFencec (p : Fin 48) (w : BitVec 25) (s : State) : Host.Outcome State Fault Refusal :=
  s.done (s.issueWord p (wordOfOp 0x51 w) false (planFencec p w))
def execSynci (p : Fin 48) (w : BitVec 25) (s : State) : Host.Outcome State Fault Refusal :=
  s.done (s.issueWord p (wordOfOp 0x52 w) false (planSynci w))
def execSti (p : Fin 48) (w : BitVec 25) (s : State) : Host.Outcome State Fault Refusal :=
  s.done (s.issueWord p (wordOfOp 0x53 w) false (planSti p w))

/-- The opcodes of Table SEQ-4. -/
def listedOps : List Nat :=
  [0x01, 0x02, 0x03, 0x04, 0x05, 0x06, 0x07, 0x08, 0x09, 0x0A, 0x0B, 0x0C, 0x0D, 0x0E, 0x10, 0x11, 0x12, 0x13, 0x14, 0x15,
   0x16, 0x18, 0x19, 0x1A, 0x1B, 0x20, 0x21, 0x22, 0x23, 0x30, 0x31, 0x32, 0x33, 0x34, 0x35, 0x40, 0x41, 0x42, 0x43, 0x44,
   0x45, 0x46, 0x47, 0x48, 0x50, 0x51, 0x52, 0x53]

/-- An undefined opcode traps OPCODE, whatever its predicate says (R338, R347). -/
def State.issueUndefined (s : State) (p word : Nat) (step : Bool) : State :=
  let q := s.pan p
  if !canIssue q step || (fetched q).head? != some word then s
  else ((s.traceIssue p word).updPan p fun q => { q with pcnt := updAt q.pcnt 3 (· + 1) }).trap p q.pc 1

/-- UNDEFINED_OPCODE (R338). -/
def execUndefinedOpcode (p : Fin 48) (word : BitVec 32) (s : State) : Host.Outcome State Fault Refusal :=
  s.done (if listedOps.contains (word.toNat / 2 ^ 25) then s else s.issueUndefined p word.toNat false)

/-! ### The end of a blocking instruction (R332) -/

/-- The blocking instruction has completed: the sequencer moves on. -/
def unblock (p : Pan) : Pan := { p with blocked := none, pc := (p.pc + 1) % 16384, prefetch := p.prefetch.drop 1 }

/-- A blocked Pan. -/
def blockedOn (p : Pan) : Option Blocked := if p.st = .running then p.blocked else none

/-- Every engine instruction of the Pan has completed. -/
def enginesIdle (p : Pan) : Bool := (allEntries p).isEmpty

/-- HALT_COMPLETE (R336): every earlier instruction has completed; the Pan is HALTED. -/
def execHaltComplete (p : Fin 48) (s : State) : Host.Outcome State Fault Refusal :=
  match blockedOn (s.pan p) with
  | some .halt => s.done (if enginesIdle (s.pan p) then s.updPan p fun q => { unblock q with st := .halted } else s)
  | _ => .next s

/-- KDRAIN_COMPLETE (R246). -/
def execKdrainComplete (p : Fin 48) (s : State) : Host.Outcome State Fault Refusal :=
  match blockedOn (s.pan p) with
  | some .kdrain =>
    s.done (if (s.pan p).kq.any fun e => match e.op with | .krun .. | .kpass .. => true | _ => false then s
      else s.updPan p unblock)
  | _ => .next s

/-- No item that the Pan sourced is in flight. -/
def State.portIdle (s : State) (p : Nat) : Bool := !s.fabric.inflight.any fun i => i.src == p

/-- FENCE_COMPLETE (R336). -/
def execFenceComplete (p : Fin 48) (s : State) : Host.Outcome State Fault Refusal :=
  match blockedOn (s.pan p) with
  | some .fence => s.done (if enginesIdle (s.pan p) && s.portIdle p then s.updPan p unblock else s)
  | _ => .next s

/-- A posted write that this Pan has issued is neither acknowledged nor failed: it waits in the port's queue, is on its way
to Carillon, or awaits its WRITE_ACK. -/
def State.writesOpen (s : State) (p : Nat) : Bool :=
  let q := s.pan p
  let posts (r : Nat) : Bool := routeKind r == 3 && routeDchan r == 0
  (s.car.transfers.any fun t => t.kind == 0 && t.pan == p) ||
    (s.fabric.inflight.any fun i => i.src == p && i.kind == 3 && i.dchan == 0) ||
    q.pq.any fun e => match e.op with | .send chan .. => posts (cachedRoute q chan) | _ => false

/-- FENCEC_COMPLETE (R349): no posted write of this Pan in the epoch is open any more. -/
def execFencecComplete (p : Fin 48) (s : State) : Host.Outcome State Fault Refusal :=
  match blockedOn (s.pan p) with
  | some (.fencec d) =>
    let open_ := s.writesOpen p
    let dirty := match s.car.job with | some j => j.dirty && s.quadLive p | none => false
    s.done (if open_ && s.quadLive p then s
      else s.updPan p fun q => unblock (setG q d (statusCode (if dirty then .postedFail else .ok))))
  | _ => .next s

/-- The port has served every instruction queued before the RECV or WAITT that blocks the sequencer (R332). -/
def portTurn (p : Pan) : Bool := p.pq.isEmpty

/-- RECV_COMPLETE (R336): in its turn on the port, the item is written to one row of the generator; a token at the head
traps KIND. -/
def execRecvComplete (p : Fin 48) (s : State) : Host.Outcome State Fault Refusal :=
  match blockedOn (s.pan p) with
  | some (.recv c g d) =>
    match rxOf (s.pan p) c with
    | [] => .next s
    | it :: rest =>
      if !portTurn (s.pan p) then .next s
      else if it.token then s.done (s.trap p (s.pan p).pc 9)
      else
        let a := (rowAddr (agOf (s.pan p) g) 0).toNat
        let bs := padTo (128 * flitsOf it.data) it.data
        if s.held p a bs.length then .next s
        else
          s.done (s.updPan p fun q =>
            unblock (setG (setAg (setRx (panWrite q a bs) c rest) g (advAg (agOf q g) 1)) d (flitsOf it.data)))
  | _ => .next s

/-- WAITT_COMPLETE (R336). -/
def execWaittComplete (p : Fin 48) (s : State) : Host.Outcome State Fault Refusal :=
  match blockedOn (s.pan p) with
  | some (.waitt c d) =>
    match rxOf (s.pan p) c with
    | [] => .next s
    | it :: rest =>
      if !portTurn (s.pan p) then .next s
      else if !it.token then s.done (s.trap p (s.pan p).pc 9)
      else s.done (s.updPan p fun q => unblock (setG (setRx q c rest) d (leAt it.data 0 4)))
  | _ => .next s

end Sys2Proof.Machine
end

