-- ==== Sys2Proof/Machine/Engines.lean ====
section
/-! DEFINITION. The engine instructions as they issue: Kettle, Grainer and Crystalliser words of Table SEQ-4 and their
checks (SEQ R336 to R339; KTL; GRN; CRY). -/
namespace Sys2Proof.Machine

open Sys2Proof

/-! ### Kettle -/

/-- The configurations differ in what the banks' contents depend on (R242, R268). -/
def kcfgDiffers (a b : KCfg) : Bool := a.stat != b.stat || a.str != b.str || a.openMode != b.openMode || a.passes != b.passes

/-- A KLOAD that can start does (R245, R332): at the head of the queue, or behind the KRUN on the other bank that runs. -/
def startKload (q : Pan) : Pan :=
  let begin (e : EngEntry) (b : Nat) : EngEntry × Pan :=
    ({ e with started := true }, { q with banks := updAt q.banks b fun _ => { st := .loading } })
  match q.kq with
  | [] => q
  | e :: rest =>
    match e.op with
    | .kload b .. => if e.started then q else let (e, q) := begin e b; { q with kq := e :: rest }
    | .krun b .. =>
      match rest with
      | [] => q
      | f :: rest' =>
        match f.op with
        | .kload b' .. =>
          if f.started || b == b' then q else let (f, q) := begin f b'; { q with kq := e :: f :: rest' }
        | _ => q
    | _ => q

/-- KCFG (R247). -/
def planKcfg (p : Nat) (w : BitVec 25) (_ : State) : Plan :=
  let nm := fld w 7 0
  let sf := fmtOf (fld w 20 17)
  let tf := fmtOf (fld w 16 13)
  let c : KCfg :=
    { stat := sf.getD .s19, str := tf.getD .s19, openMode := fld w 12 11 == 1, passes := bitsOf nm 5 4, ftz := bitOf nm 2 }
  { rsv := rsvBits w [(10, 8), (7, 6)]
    bad := sf.isNone || tf.isNone || decide (2 ≤ fld w 12 11) || c.passes == 0 || !pairingListed c
    engines := [.kettle]
    act := fun s => s.updPan p fun q =>
      { enqueueEng q .kettle (.kcfg c) with
        kcfgIssue := c, bankIssue := if kcfgDiffers q.kcfgIssue c then [false, false] else q.bankIssue } }

/-- KOUT (R259). -/
def planKout (p : Nat) (w : BitVec 25) (_ : State) : Plan :=
  let nm := fld w 7 0
  let o : KOut :=
    { fmt := (fmtOf (fld w 20 17)).getD .fp32, fused := fld w 16 15, fusedFmt := (fmtOf (fld w 14 11)).getD .fp32,
      stats := fld w 10 9, nm := nmodeOf nm }
  { rsv := rsvBits w [(8, 8), (7, 6)]
    bad := (fmtOf (fld w 20 17)).isNone || fld w 16 15 == 3 || (fmtOf (fld w 14 11)).isNone || fmtOf (fld w 14 11) == some .int32 ||
      fld w 10 9 == 3
    engines := [.kettle]
    act := fun s => s.updPan p fun q => { enqueueEng q .kettle (.kout o) with koutIssue := o } }

/-- Address causes of a row-wise operand: COUNT when the generator is unset; otherwise ADDRESS over its rows and scale
bytes. -/
def opndCauses (q : Pan) (g rows n sc : Nat) : List (Bool × Nat) :=
  let a := agOf q g
  if a.count = 0 then [(true, 7)] else [(!(rowsIn q a rows n && scalesIn q a rows sc), 5)]

/-- The causes in the order of Table SEQ-7, those of a count that is out of range standing alone (R339). -/
def orderCauses (countBad : Bool) (free dep : List (Bool × Nat)) : Option Nat :=
  let l := if countBad then free ++ [(true, 7)] else free ++ dep
  (List.range 12).find? fun k => l.any fun x => x.1 && x.2 == k

/-- KLOAD (R243). -/
def planKload (p : Nat) (w : BitVec 25) (s : State) : Plan :=
  let q := s.pan p
  let c := q.kcfgIssue
  let chan := fld w 16 16 == 1
  let b := fld w 20 20
  { rsv := rsvBits w [(19, 19), (9, 0)] || (!chan && fld w 15 10 != 0)
    gens := if chan then [] else [fld w 18 17]
    engines := [.kettle]
    cause := if chan then none
      else orderCauses false [] (opndCauses q (fld w 18 17) 128 (operandRowBytes c c.stat) (scaleRowBytes c c.stat))
    act := fun s => s.updPan p fun q =>
      startKload { enqueueEng q .kettle (.kload b (fld w 18 17) (if chan then some (fld w 15 10) else none)) with
        bankIssue := updAt q.bankIssue b fun _ => true } }

/-- Bytes of one row of a fused operand, and of its scales. -/
def fusedRow (o : KOut) : Nat := 128 * fmtBits o.fusedFmt / 8
def fusedScales (o : KOut) : Nat := match fmtBlock o.fusedFmt with | some b => 128 / b | none => 0

/-- A count of rows is in range. -/
def rowsOk (n : Nat) : Bool := decide (1 ≤ n) && decide (n ≤ 65536)

/-- The output stage that a KRUN runs: INT32 values of the integer path pass unchanged, without steps 2 and 3 (R259). -/
def outOf (c : KCfg) (o : KOut) : KOut := if o.fmt = .int32 ∧ intPath c then { o with fused := 0, stats := 0 } else o

/-- KRUN (R244, R245, R254). -/
def planKrun (p : Nat) (w : BitVec 25) (s : State) : Plan :=
  let q := s.pan p
  let c := q.kcfgIssue
  let o := outOf c q.koutIssue
  let b := fld w 20 20
  let em := fld w 18 17
  let add := fld w 19 19 == 1
  let src := fld w 11 11 == 1
  let ts := fld w 10 10 == 1
  let rows := gReg q (fld w 16 12)
  let fin := em == 2
  let fused := fin && o.fused != 0
  let op : EngOp := .krun b add em rows (if src then some (fld w 9 4) else none)
    (if ts && fused then some (fld w 9 4) else none) c o
  let res := resultRowBytes em o
  { rsv := rsvBits w [(3, 0)] || (!src && !ts && fld w 9 4 != 0)
    bad := em == 3 || (src && ts) || (em == 1 && intPath c)
    gens := gensOf op
    engines := [.kettle]
    cause := orderCauses (!rowsOk rows) [(!q.bankIssue.getD b false, 4)]
      ((if src then [] else opndCauses q 0 rows (operandRowBytes c c.str) (scaleRowBytes c c.str)) ++
        opndCauses q 1 rows (if add then max 512 res else res) (if fin then resultScaleBytes o else 0) ++
        (if fused && !ts then opndCauses q 2 rows (fusedRow o) (fusedScales o) else []) ++
        (if fin && o.stats != 0 then opndCauses q 3 rows 16 0 else []))
    act := fun s => s.updPan p fun q => startKload (enqueueEng q .kettle op) }

/-- KPASS (R261). -/
def planKpass (p : Nat) (w : BitVec 25) (s : State) : Plan :=
  let q := s.pan p
  let o := q.koutIssue
  let wide := fld w 15 15 == 1
  let ts := fld w 14 14 == 1
  let rows := gReg q (fld w 20 16)
  let op : EngOp := .kpass wide rows (if ts && o.fused != 0 then some (fld w 13 8) else none) o
  { rsv := rsvBits w [(7, 0)] || (!ts && fld w 13 8 != 0)
    gens := gensOf op
    engines := [.kettle]
    cause := orderCauses (!rowsOk rows) []
      (opndCauses q 0 rows (if wide then 1024 else 512) 0 ++ opndCauses q 1 rows (resultRowBytes 2 o) (resultScaleBytes o) ++
        (if o.fused != 0 && !ts then opndCauses q 2 rows (fusedRow o) (fusedScales o) else []) ++
        (if o.stats != 0 then opndCauses q 3 rows 16 0 else []))
    act := fun s => s.updPan p fun q => startKload (enqueueEng q .kettle op) }

def planKdrain (w : BitVec 25) (_ : State) : Plan :=
  { rsv := rsvBits w [(20, 0)], engines := [.kettle], flow := .block .kdrain }

/-! ### Grainer -/

def planGseed (p : Nat) (w : BitVec 25) (s : State) : Plan :=
  let q := s.pan p
  let a := gReg q (fld w 15 11)
  { rsv := rsvBits w [(20, 16), (10, 0)]
    engines := [.grainer]
    cause := firstCause [(!inRange q a 32, 5), (a % 32 != 0, 6)]
    act := fun s => s.updPan p fun q => enqueueEng q .grainer (.gseed a) }

/-- GEXP takes a place in the Grainer's and in the Crystalliser's queue; of 0 entries it completes at once. -/
def planGexp (p : Nat) (w : BitVec 25) (s : State) : Plan :=
  let n := gReg (s.pan p) (fld w 15 11)
  { rsv := rsvBits w [(20, 16), (10, 0)]
    engines := [.grainer, .crystalliser]
    cause := firstCause [(decide (2 ^ 32 ≤ n), 7)]
    act := fun s =>
      if n = 0 then s
      else s.updPan p fun q =>
        let o := q.issueOrder
        { enqueueEng { enqueueEng q .grainer (.gexp n) with issueOrder := o } .crystalliser .gexpLane with issueOrder := o + 1 } }

/-- A count of elements or units is in range (1 to 2^24). -/
def elemsOk (n : Nat) : Bool := decide (1 ≤ n) && decide (n ≤ 2 ^ 24)

/-- COUNT, or ADDRESS of a contiguous operand of `n` bytes at the generator's current row. -/
def flatCauses (q : Pan) (g n : Nat) : List (Bool × Nat) :=
  let a := agOf q g
  if a.count = 0 then [(true, 7)] else [(!inRange q (rowAddr a 0) n, 5)]

def planGstream (p : Nat) (w : BitVec 25) (s : State) : Plan :=
  let q := s.pan p
  let cha := fld w 20 19 == 1
  let toChan := fld w 18 18 == 1
  let nonce := gReg q (fld w 9 5)
  let b := gReg q (fld w 4 0)
  let len := bitsOf b 31 0
  let ctr := bitsOf b 63 32
  let per := if cha then 2 else 8
  let past := elemsOk len && decide (2 ^ 32 < ctr + per * len)
  { rsv := (toChan && fld w 17 16 != 0) || (!toChan && fld w 15 10 != 0)
    bad := decide (2 ≤ fld w 20 19)
    gens := if toChan then [] else [fld w 17 16]
    engines := [.grainer]
    cause := orderCauses (!elemsOk len) [(!inRange q nonce 12, 5), (nonce % 4 != 0, 6)]
      ((if toChan then [] else flatCauses q (fld w 17 16) (128 * len)) ++ [(past, 7)])
    act := fun s => s.updPan p fun q => enqueueEng q .grainer
      (.gstream cha (if toChan then none else some (fld w 17 16)) (fld w 15 10) nonce ctr len) }

/-! ### Crystalliser -/

/-- A ring width other than the live harvest's (R274). -/
def State.wrongRing (s : State) (p wd : Nat) : Bool :=
  match (s.pan p).ctx with
  | some c => ctxLive (s.ctx c).st && hvRing (s.ctx c) != wd
  | none => false

/-- CADD and CSUB (R273, R285). -/
def planRing (sub : Bool) (p : Nat) (w : BitVec 25) (s : State) : Plan :=
  let q := s.pan p
  let wd := fld w 20 19
  let src := fld w 18 17
  let n := gReg q (fld w 10 6)
  let bytes := n * 2 * 2 ^ wd
  let chan := if src = 1 then some (fld w 16 11) else none
  let op : EngOp := if src = 2 then .caddItem else .cring sub (16 * 2 ^ wd) chan n
  { rsv := rsvBits w [(5, 0)] || (src != 1 && fld w 16 11 != 0) || (src == 2 && fld w 10 6 != 0)
    bad := wd == 3 || src == 3 || (sub && src == 2) || s.wrongRing p wd
    gens := gensOf op
    engines := [.crystalliser]
    cause := if src = 2 then none
      else orderCauses false [] ((if src = 0 then flatCauses q 0 bytes else []) ++ flatCauses q 1 bytes)
    act := fun s => s.updPan p fun q => enqueueEng q .crystalliser op }

def planCfield (p : Nat) (w : BitVec 25) (s : State) : Plan :=
  let q := s.pan p
  let n := gReg q (fld w 17 13)
  let op : EngOp := .cfield (fld w 20 18) n
  { rsv := rsvBits w [(12, 0)]
    bad := decide (5 ≤ fld w 20 18)
    gens := gensOf op
    engines := [.crystalliser]
    cause := orderCauses (!elemsOk n) [] ((gensOf op).flatMap fun g => flatCauses q g (8 * n))
    act := fun s => s.updPan p fun q => enqueueEng q .crystalliser op }

/-- CNOISE may run (R339, cause 0x0A): the noise step of its context's live harvest, once per Pan and harvest. -/
def State.noiseAllowed (s : State) (p : Nat) : Bool :=
  match (s.pan p).ctx with
  | some c => (s.ctx c).st == .settling && (s.ctx c).step == 2 && !(s.pan p).noiseIssued
  | none => false

def planCnoise (p : Nat) (w : BitVec 25) (s : State) : Plan :=
  { rsv := rsvBits w [(20, 0)]
    engines := [.crystalliser]
    cause := firstCause [(!s.noiseAllowed p, 10)]
    act := fun s => s.updPan p fun q =>
      { enqueueEng q .crystalliser .cnoise with noiseIssued := true, noiseStart := s.cad.toll } }

/-- Words of the Pan's slice while a harvest of its context is live. -/
def State.sliceWords (s : State) (p : Nat) : Nat :=
  match (s.pan p).ctx with
  | some c => if ctxLive (s.ctx c).st then (s.sliceOf c p).2 else 0
  | none => 0

def planCdeq (p : Nat) (w : BitVec 25) (s : State) : Plan :=
  let q := s.pan p
  let settling := match q.ctx with | some c => (s.ctx c).st == .settling | none => false
  { rsv := rsvBits w [(20, 8), (7, 6)]
    gens := [1]
    engines := [.crystalliser]
    cause := orderCauses false [] (flatCauses q 1 (4 * s.sliceWords p) ++ [(!settling, 10)])
    act := fun s => s.updPan p fun q => enqueueEng q .crystalliser (.cdeq (nmodeOf (fld w 7 0))) }

/-- Bytes per element of CFUSE: operands and result. -/
def fuseIn (op : Nat) (p64 : Bool) : Nat := if op = 5 then 4 else if p64 then 8 else 4
def fuseOut (op : Nat) (p64 : Bool) : Nat :=
  if op = 4 then (if p64 then 4 else 8) else if op = 6 ∨ op = 9 ∨ op = 10 then 4 else if p64 then 8 else 4

def planCfuse (p : Nat) (w : BitVec 25) (s : State) : Plan :=
  let q := s.pan p
  let f := fld w 20 17
  let p64 := fld w 16 16 == 1
  let n := gReg q (fld w 15 11)
  let op : EngOp := .cfuse f p64 n (nmodeOf (fld w 7 0))
  { rsv := rsvBits w [(10, 8), (7, 6)]
    bad := decide (13 ≤ f) || (decide (11 ≤ f) && p64)
    gens := gensOf op
    engines := [.crystalliser]
    cause := orderCauses (!elemsOk n) []
      ((gensOf op).flatMap fun g => flatCauses q g (n * if g = 3 then fuseOut f p64 else fuseIn f p64))
    act := fun s => s.updPan p fun q => enqueueEng q .crystalliser op }

def execKcfg (p : Fin 48) (w : BitVec 25) (s : State) : Host.Outcome State Fault Refusal :=
  s.done (s.issueWord p (wordOfOp 0x30 w) false (planKcfg p w))
def execKout (p : Fin 48) (w : BitVec 25) (s : State) : Host.Outcome State Fault Refusal :=
  s.done (s.issueWord p (wordOfOp 0x31 w) false (planKout p w))
def execKload (p : Fin 48) (w : BitVec 25) (s : State) : Host.Outcome State Fault Refusal :=
  s.done (s.issueWord p (wordOfOp 0x32 w) false (planKload p w))
def execKrun (p : Fin 48) (w : BitVec 25) (s : State) : Host.Outcome State Fault Refusal :=
  s.done (s.issueWord p (wordOfOp 0x33 w) false (planKrun p w))
def execKpass (p : Fin 48) (w : BitVec 25) (s : State) : Host.Outcome State Fault Refusal :=
  s.done (s.issueWord p (wordOfOp 0x34 w) false (planKpass p w))
def execKdrain (p : Fin 48) (w : BitVec 25) (s : State) : Host.Outcome State Fault Refusal :=
  s.done (s.issueWord p (wordOfOp 0x35 w) false (planKdrain w))
def execGseed (p : Fin 48) (w : BitVec 25) (s : State) : Host.Outcome State Fault Refusal :=
  s.done (s.issueWord p (wordOfOp 0x40 w) false (planGseed p w))
def execGexp (p : Fin 48) (w : BitVec 25) (s : State) : Host.Outcome State Fault Refusal :=
  s.done (s.issueWord p (wordOfOp 0x41 w) false (planGexp p w))
def execGstream (p : Fin 48) (w : BitVec 25) (s : State) : Host.Outcome State Fault Refusal :=
  s.done (s.issueWord p (wordOfOp 0x42 w) false (planGstream p w))
def execCadd (p : Fin 48) (w : BitVec 25) (s : State) : Host.Outcome State Fault Refusal :=
  s.done (s.issueWord p (wordOfOp 0x43 w) false (planRing false p w))
def execCsub (p : Fin 48) (w : BitVec 25) (s : State) : Host.Outcome State Fault Refusal :=
  s.done (s.issueWord p (wordOfOp 0x44 w) false (planRing true p w))
def execCfield (p : Fin 48) (w : BitVec 25) (s : State) : Host.Outcome State Fault Refusal :=
  s.done (s.issueWord p (wordOfOp 0x45 w) false (planCfield p w))
def execCnoise (p : Fin 48) (w : BitVec 25) (s : State) : Host.Outcome State Fault Refusal :=
  s.done (s.issueWord p (wordOfOp 0x46 w) false (planCnoise p w))
def execCdeq (p : Fin 48) (w : BitVec 25) (s : State) : Host.Outcome State Fault Refusal :=
  s.done (s.issueWord p (wordOfOp 0x47 w) false (planCdeq p w))
def execCfuse (p : Fin 48) (w : BitVec 25) (s : State) : Host.Outcome State Fault Refusal :=
  s.done (s.issueWord p (wordOfOp 0x48 w) false (planCfuse p w))

/-- The plan of a listed opcode. -/
def planOf (op p : Nat) (w : BitVec 25) : State → Plan :=
  match op with
  | 0x01 => planNop w | 0x02 => planAlu opAdd p w | 0x03 => planAlu opSub p w | 0x04 => planAlu opAnd p w
  | 0x05 => planAlu opOr p w | 0x06 => planAlu opXor p w | 0x07 => planAlu opShl p w | 0x08 => planAlu opShr p w
  | 0x09 => planAlu opMul p w | 0x0A => planAddi p w | 0x0B => planLdi p w | 0x0C => planCmp p w
  | 0x0D => planLd p w [] | 0x0E => planSt p w | 0x10 => planJmp w | 0x11 => planBr p w | 0x12 => planJr p w
  | 0x13 => planLoop p w | 0x14 => planHalt w | 0x15 => planRdst p w | 0x16 => planClst p w | 0x18 => planAgset p w
  | 0x19 => planAgscl p w | 0x1A => planAgadv p w | 0x1B => planAgrd p w | 0x20 => planSend p w | 0x21 => planRecv p w
  | 0x22 => planWaitt p w | 0x23 => planSigt p w | 0x30 => planKcfg p w | 0x31 => planKout p w | 0x32 => planKload p w
  | 0x33 => planKrun p w | 0x34 => planKpass p w | 0x35 => planKdrain w | 0x40 => planGseed p w | 0x41 => planGexp p w
  | 0x42 => planGstream p w | 0x43 => planRing false p w | 0x44 => planRing true p w | 0x45 => planCfield p w
  | 0x46 => planCnoise p w | 0x47 => planCdeq p w | 0x48 => planCfuse p w | 0x50 => planFence w | 0x51 => planFencec p w
  | 0x52 => planSynci w | 0x53 => planSti p w
  | _ => fun _ => {}

/-- One word of any kind is issued (DBG STEP). -/
def State.issueAny (s : State) (p word : Nat) (step : Bool) : State :=
  let op := word / 2 ^ 25
  if listedOps.contains op then s.issueWord p word step (planOf op p (BitVec.ofNat 25 word))
  else s.issueUndefined p word step

end Sys2Proof.Machine
end

