-- ==== Sys2Proof/Machine/Transcend.lean ====
section
/-! DEFINITION. exp2 and log2 in FP32 (R278, Table CRY-3): special and exact results as the table gives them; an ordinary
result is any FP32 value within 2 units in the last place of the exact one, and which of them is a free value. -/
namespace Sys2Proof.Machine

open Sys2Proof

/-- Binary places of the fixed-point numbers here; the digits of an exponent or a logarithm that are taken. -/
def expPlaces : Nat := 256
def logPlaces : Nat := 128

/-- 2^(2^-1), 2^(2^-2), …: `n` square roots one of the other, from a number on, in fixed point. -/
def expRoots : Nat → Nat → List Nat
  | 0, _ => []
  | n + 1, c =>
    let r := isqrt (c * 2 ^ expPlaces) (expPlaces + 2) 0
    r :: expRoots n r

/-- 2^f for the fraction f = `f` / 2^`n`, in fixed point, rounded down: the product of the roots that f's digits select. -/
def expFrac (f n : Nat) : Nat :=
  ((expRoots n (2 * 2 ^ expPlaces)).zipIdx).foldl
    (fun a r => if bitOf f (n - 1 - r.2) then a * r.1 / 2 ^ expPlaces else a) (2 ^ expPlaces)

/-- `n` binary digits of log2 of `t` / 2^256, which lies from 1 to 2: squared, the digit is whether 2 is reached. -/
def logDigits : Nat → Nat → Nat
  | 0, _ => 0
  | n + 1, t =>
    let u := t * t / 2 ^ expPlaces
    if 2 * 2 ^ expPlaces ≤ u then 2 ^ n + logDigits n (u / 2) else logDigits n u

/-- The exact exp2 of ±m × 2^e for an argument between −161 and 128, rounded down: a magnitude and its exponent. -/
def expLow (neg : Bool) (m : Nat) (e : Int) : Nat × Int :=
  let n := (-e).toNat
  let x : Int := (if neg then -(m : Int) else m) * 2 ^ e.toNat
  (expFrac (x % 2 ^ n).toNat n, x / 2 ^ n - expPlaces)

/-- The exact log2 of m × 2^e: its sign, and its magnitude rounded down, in units of 2^-128. -/
def logLow (m : Nat) (e : Int) : Bool × Nat :=
  let k := bitLen m - 1
  let l : Int := (e + k) * 2 ^ logPlaces + logDigits logPlaces (m * 2 ^ (expPlaces - k))
  if l < 0 then (true, (-l - 1).toNat) else (false, l.toNat)

/-- An FP32 result within 2 units in the last place of the exact one, which lies just above ±m × 2^e (m not zero): the free
value `pick` chooses among all of them. The flags are those of an inexact result (R214); with FTZ a subnormal one is flushed. -/
def withinTwo (nm : NMode) (neg : Bool) (m : Nat) (e : Int) (pick : Nat) : Nat × Nat :=
  let unit : Int := max (-149) (e + bitLen m - 24)
  let q := min e unit
  let x := m * 2 ^ (e - q).toNat
  let d := 2 * 2 ^ (unit - q).toNat
  let code (v : Nat) : Nat := (toFp32 .zero false (.fin false v q)).1
  let lo := if x < d then 0 else code (x - d) + 1
  let hi := min (code (x + d)) 0x7F7FFFFF
  let rounded := toFp32 nm.rnd nm.ftz (.fin neg (2 * m + 1) (e - 1))
  let bits := lo + pick % (hi + 1 - lo)
  let kept := toFp32 nm.rnd nm.ftz (fp32Of bits)
  (kept.1 % 2 ^ 31 + b2n neg * 2 ^ 31, fOr rounded.2 kept.2)

/-- exp2 (operation 11) and log2 of a value. -/
def transcend (op : Nat) (nm : NMode) (v : FVal) : Nat × Nat :=
  let pick : Nat := Config.transcend op ((toFp32 .nearest false v).1 +
    2 ^ 32 * (b2n nm.ftz + 2 * (match nm.rnd with | .nearest => 0 | .zero => 1 | .up => 2 | .down => 3)))
  match v with
  | .nan .. => (((toFp32 nm.rnd nm.ftz (quiet v)).1), if isSNaN v then fInvalid else 0)
  | .inf neg => if op = 11 then (if neg then (0, 0) else (0x7F800000, 0)) else (if neg then (0x7FC00000, fInvalid) else (0x7F800000, 0))
  | .fin neg m e =>
    if op = 11 then
      if m = 0 then (0x3F800000, 0)
      else
        let (i, changed) := toInt .zero neg m e
        if !changed ∧ -149 ≤ i ∧ i ≤ 127 then toFp32 nm.rnd nm.ftz (.fin false 1 i)
        else if 128 ≤ i then toFp32 nm.rnd nm.ftz (.fin false 1 4096)
        else if i < -160 then toFp32 nm.rnd nm.ftz (.fin false 1 (-4096))
        else
          let y := expLow neg m e
          withinTwo nm false y.1 y.2 pick
    else if m = 0 then (0xFF800000, fDivzero)
    else if neg then (0x7FC00000, fInvalid)
    else if m = 2 ^ (bitLen m - 1) then toFp32 nm.rnd nm.ftz (ofUnit (e + bitLen m - 1) 0 false)
    else
      let y := logLow m e
      withinTwo nm y.1 y.2 (-128) pick

end Sys2Proof.Machine
end

