-- ==== Sys2Proof/Machine/EngineWork.lean ====
section
/-! DEFINITION. What the engines do (KTL R241 to R261, GRN R301 to R315, CRY R272 to R293, SEQ R341): the work of an engine
instruction on Pan memory and channels, its end, and the traps after issue. -/
namespace Sys2Proof.Machine

open Sys2Proof

/-! ### Work and what stops it -/

/-- What stops an engine's work. -/
inductive Stop where
  /-- A subarray that Sweep holds (R209), channel data that has not come, a channel without room. -/
  | wait
  /-- DRBG output that has not come (R290). -/
  | drbg
  /-- Words of Pan memory that fail twice (R210). -/
  | lost (ws : List Nat)
  /-- Words of the on-chip accumulator that fail twice, or a data unit of the Store-resident one (R315, R650). -/
  | acc (ws : List Nat)
  | unit (a : Nat)
  /-- A staged contribution that fails twice (Table CRY-6). -/
  | staged
  deriving DecidableEq, Repr

/-- Work of an engine on the device: a step of it answers, or stops. -/
abbrev Work (α : Type) := ExceptT Stop (StateM State) α

/-- Whose reads these are: the Pan, the word index of the instruction, and the upsets that the command lets them meet. -/
structure Probe where
  pan : Nat
  pc : Nat
  ups : List (Nat × Upset)

/-- A read of Pan memory by an engine (R188, R209, R210). -/
def rd (u : Probe) (a : Int) (n : Nat) : Work Bytes := do
  let s ← get
  let q := s.pan u.pan
  let x := a.toNat
  if s.held u.pan x n then throw .wait
  set ((upsetsIn u.ups x n).foldl (fun s e => s.meetUpset u.pan u.pc e) s)
  match failingIn q u.ups x n with
  | [] => return Memory.readN q.mem x n
  | w :: ws => throw (.lost (w :: ws))

/-- A write of Pan memory by an engine. -/
def wr (u : Probe) (a : Int) (bs : Bytes) : Work Unit := do
  let s ← get
  if s.held u.pan a.toNat bs.length then throw .wait
  set (s.updPan u.pan fun q => panWrite q a.toNat bs)

/-- The Pan changes. -/
def onPan (u : Probe) (f : Pan → Pan) : Work Unit := modify fun s => s.updPan u.pan f

/-- Rows `k` to `k + n - 1` of some work, in order: how far it came, what stopped it, and the device. A row that has to wait
leaves nothing; one that fails leaves what its reads have found. -/
def runRows (f : Nat → Work Unit) (k : Nat) : Nat → State → Nat × Option Stop × State
  | 0, s => (k, none, s)
  | n + 1, s =>
    match (f k).run s with
    | (.ok _, t) => runRows f (k + 1) n t
    | (.error .wait, _) => (k, some .wait, s)
    | (.error x, t) => (k, some x, t)

/-- A work count of a Pan. -/
def countWork (q : Pan) (i n : Nat) : Pan := { q with pcnt := updAt q.pcnt i (· + n) }

/-- Address generator g of an entry. -/
def entAg (e : EngEntry) (g : Nat) : AddrGen := e.ag.getD g {}

/-! ### Channels -/

/-- The channel that an instruction reads data from, and how many bytes it reads. -/
def chanNeed (cfg : KCfg) : EngOp → Option (Nat × Nat)
  | .kload _ _ (some c) => some (c, 128 * (operandRowBytes cfg cfg.stat + scaleRowBytes cfg cfg.stat))
  | .krun _ _ _ rows (some c) _ k _ => some (c, rows * (operandRowBytes k k.str + scaleRowBytes k k.str))
  | .krun _ _ _ rows none (some c) _ o => some (c, rows * (fusedRow o + fusedScales o))
  | .kpass _ rows (some c) o => some (c, rows * (fusedRow o + fusedScales o))
  | .cring _ w (some c) n => some (c, n * (w / 8))
  | _ => none

/-- Whole data items taken from a channel until `need` bytes are there: bytes and items left (R336, CADD). -/
def takeItems (need : Nat) (got : Bytes) : List FabItem → Bytes × List FabItem
  | [] => (got, [])
  | i :: r =>
    if need ≤ got.length ∨ i.token then (got, i :: r)
    else takeItems need (got ++ padTo (128 * flitsOf i.data) i.data) r

/-- An entry in service takes what its channel holds. -/
def feed (q : Pan) (e : EngEntry) : EngEntry × Pan :=
  match chanNeed q.kcfg e.op with
  | none => (e, q)
  | some (c, need) =>
    let (got, rest) := takeItems need e.got (rxOf q c)
    ({ e with got := got }, setRx q c rest)

/-- The entry at position `i` of an engine's queue takes what its channel holds. -/
def feedAt (q : Pan) (e : Engine) (i : Nat) : Pan :=
  match (engQ q e)[i]? with
  | none => q
  | some x =>
    let (x, q) := feed q x
    setEngQ q e (updAt (engQ q e) i fun _ => x)

/-- Every instruction in service takes what its channel holds. -/
def pull (q : Pan) : Pan :=
  let q := feedAt (feedAt q .kettle 0) .crystalliser 0
  match q.kq[1]? with
  | some x => if x.started then feedAt q .kettle 1 else q
  | none => q

/-- An entry has all the channel data it needs. -/
def fed (q : Pan) (e : EngEntry) : Bool :=
  match chanNeed q.kcfg e.op with
  | none => true
  | some (_, need) => decide (need ≤ e.got.length)

/-! ### Kettle -/

/-- Row k of an operand: from Pan memory, or from channel data, where each row is followed by its scale bytes (the spec
gives channel rows no other layout: DESIGN CHOICE, log entry 24). A channel row waits until it is there. -/
def operandRow (u : Probe) (a : AddrGen) (chan : Bool) (got : Bytes) (k n sc : Nat) : Work (Bytes × Bytes) := do
  if chan then
    if got.length < (k + 1) * (n + sc) then throw .wait
    return (slice got (k * (n + sc)) n, slice got (k * (n + sc) + n) sc)
  else
    let r ← rd u (rowAddr a k) n
    let s ← if sc = 0 then pure [] else rd u (scaleAddr a k) sc
    return (r, s)

/-- The values of a fused operand's row. -/
def fusedVals (o : KOut) (row sc : Bytes) : List FVal :=
  (List.range 128).map fun i =>
    let s := match fmtBlock o.fusedFmt with | some b => byteAt sc (i / b) | none => 0
    decodeElem o.fusedFmt s (rowElem (fmtBits o.fusedFmt) row i)

/-- Steps 2 to 4 of the output stage for row k (R259, R260): the fused operand, the statistics, the converted row. -/
def outputRow (u : Probe) (o : KOut) (e : EngEntry) (fused : Option Nat) (k : Nat) (vs : List FVal) (wide : Option (List FVal))
    (fl : Nat) : Work Unit := do
  let ts ← if o.fused = 0 then pure []
    else do
      let (r, s) ← operandRow u (entAg e 2) fused.isSome e.got k (fusedRow o) (fusedScales o)
      pure (fusedVals o r s)
  let old ← if o.stats = 2 then rd u (rowAddr (entAg e 3) k) 16 else pure []
  let (eb, sb, st, f2) := outputStage o vs wide ts (statsOf old)
  wr u (rowAddr (entAg e 1) k) eb
  if sb ≠ [] then wr u (scaleAddr (entAg e 1) k) sb
  if o.stats ≠ 0 then wr u (rowAddr (entAg e 3) k) (statsBytes st)
  onPan u fun q => orNstat q (fOr fl f2)

/-- One streamed row of a KRUN (R244, R252, R254). CHAIN64 takes 8 Crystalliser handshakes for it (R280). -/
def krunRow (u : Probe) (b : Bank) (add : Bool) (em : Nat) (src fused : Option Nat) (c : KCfg) (o : KOut) (e : EngEntry)
    (k : Nat) : Work Unit := do
  let (row, sc) ← operandRow u (entAg e 0) src.isSome e.got k (operandRowBytes c c.str) (scaleRowBytes c c.str)
  let start ← if add then do pure ((chunksOf 4 128 (← rd u (rowAddr (entAg e 1) k) 512)).map leNat)
    else pure (List.replicate 128 0)
  let (accs, f1) := arrayRow c b row sc start
  let raw : Work Unit := do
    wr u (rowAddr (entAg e 1) k) (accs.flatMap (leBytes 4))
    onPan u fun q => orNstat q f1
  match em with
  | 0 => raw
  | 1 =>
    let old ← rd u (rowAddr (entAg e 1) k) 1024
    let r := (((chunksOf 8 128 old).map leNat).zip accs).map fun x => chain64 x.1 x.2
    wr u (rowAddr (entAg e 1) k) (r.flatMap fun x => leBytes 8 x.1)
    onPan u fun q => countWork (orNstat q (r.foldl (fun a x => fOr a x.2) f1)) 2 8
  | _ =>
    if o.fmt = .int32 ∧ intPath c then raw
    else
      let (vs, f2) := stageInput c o accs
      outputRow u o e fused k vs none (fOr f1 f2)
  onPan u fun q => countWork q 0 c.passes

/-- One row of a KPASS (R261). -/
def kpassRow (u : Probe) (wide : Bool) (fused : Option Nat) (o : KOut) (e : EngEntry) (k : Nat) : Work Unit := do
  let bs ← rd u (rowAddr (entAg e 0) k) (if wide then 1024 else 512)
  if wide then
    let (vs, xs, f) := passInput o ((chunksOf 8 128 bs).map leNat)
    outputRow u o e fused k vs (some xs) f
  else outputRow u o e fused k (((chunksOf 4 128 bs).map leNat).map fp32Of) none 0
  onPan u fun q => countWork q 0 1

/-! ### Grainer -/

/-- Keystream of GSTREAM from unit k on, `n` units of 128 bytes (R309, R336). The nonce is read once, with unit 0, and kept
with the entry. -/
def streamUnits (u : Probe) (cha : Bool) (na ctr k n : Nat) (e : EngEntry) : Work Bytes := do
  let nonce ← if k = 0 then rd u na 12 else pure (((← get).pan u.pan).gq.head?.getD e).got
  let q := (← get).pan u.pan
  onPan u fun q => { q with gq := q.gq.set 0 { q.gq.head?.getD e with got := nonce } }
  onPan u fun q => countWork q 1 (if cha then 2 * n else n)
  return keystream (b2n cha) q.progSeed nonce (ctr * (if cha then 64 else 16) + 128 * k) (128 * n)

/-- An item leaves on a channel, unless ROUTE_SYNC holds the port (R204) or its way has no room (R199). -/
def sendRow (u : Probe) (chan : Nat) (token : Bool) (data : Bytes) : Work Unit := do
  let s ← get
  if s.fabric.sync.any (fun y => y.pans.contains u.pan) || !s.mayLeave (s.itemOf u.pan chan token data) then throw .wait
  set (s.sendItem u.pan chan token data)

/-! ### Crystalliser -/

/-- Elements [k·m, k·m + m) of a contiguous operand of `n` elements of `b` bytes: its address and its bytes. -/
def chunkAt (a : AddrGen) (b m n k : Nat) : Int × Nat := (rowAddr a 0 + (b * (m * k) : Nat), b * min m (n - m * k))

/-- Handshake k of a ring instruction: 256 bytes of accumulator (R272, R273). -/
def cringRow (u : Probe) (sub : Bool) (w : Nat) (chan : Option Nat) (n : Nat) (e : EngEntry) (k : Nat) : Work Unit := do
  let m := 2048 / w
  let (a, len) := chunkAt (entAg e 0) (w / 8) m n k
  let (d, _) := chunkAt (entAg e 1) (w / 8) m n k
  let src ← if chan.isSome then
      (if e.got.length < 256 * k + len then throw .wait else pure (slice e.got (256 * k) len))
    else rd u a len
  let dst ← rd u d len
  wr u d (ringBytes sub w dst src)
  onPan u fun q => countWork q 2 1

/-- Handshakes of CFIELD's k-th 32 elements (R275, R276). -/
def cfieldRow (u : Probe) (op n : Nat) (e : EngEntry) (k : Nat) : Work Unit := do
  let get (g : Nat) (use : Bool) : Work (List Nat) := do
    let (a, len) := chunkAt (entAg e g) 8 32 n k
    if use then return (chunksOf 8 (len / 8) (← rd u a len)).map leNat
    else return List.replicate (len / 8) 0
  let a ← get 0 true
  let b ← get 1 (op != 4)
  let c ← get 2 (op == 3)
  let r := ((a.zip b).zip c).map fun x => fieldOp op x.1.1 x.1.2 x.2
  wr u (chunkAt (entAg e 3) 8 32 n k).1 (r.flatMap fun x => leBytes 8 x.1)
  onPan u fun q => countWork (orCstat q (r.foldl (fun a x => fOr a x.2) 0)) 2 (if op = 4 then 77 else 1)

/-- One element of CFUSE (R278, R214, R215): result bits and flags. -/
def fuseElem (op : Nat) (p64 : Bool) (nm : NMode) (a b c : Nat) : Nat × Nat :=
  let dec (x : Nat) : FVal × Nat := if p64 then flush64 nm.ftz (fp64Of x) else flush32 nm.ftz (fp32Of x)
  let enc (v : FVal) : Nat × Nat := if p64 then toFp64 nm.rnd nm.ftz v else toFp32 nm.rnd nm.ftz v
  let (x, f0) := dec a
  let (y, f1) := dec b
  let (z, f2) := dec c
  let fin (r : FVal × Nat) (f : Nat) : Nat × Nat := let (bits, g) := enc r.1; (bits, fOr (fOr r.2 g) f)
  match op with
  | 0 => fin (addV nm.rnd x y) (fOr f0 f1)
  | 1 => fin (addV nm.rnd x (if isNaN y then y else negV y)) (fOr f0 f1)
  | 2 => fin (mulV x y) (fOr f0 f1)
  | 3 => fin (fmaV nm.rnd x y z) (fOr (fOr f0 f1) f2)
  | 4 =>
    let v := quiet x
    let (bits, g) := if p64 then toFp32 nm.rnd nm.ftz v else toFp64 nm.rnd nm.ftz v
    (bits, fOr (fOr g f0) (snanFlag [x]))
  | 5 => enc (ofUnit (signed 32 a) 0 false)
  | 6 => let (bits, g) := toInt32 nm.rnd x; (bits, fOr g f0)
  | 7 => fin (minmaxV false x y) (fOr f0 f1)
  | 8 => fin (minmaxV true x y) (fOr f0 f1)
  | 9 => (if cmpV x y = some 0 then 0xFFFFFFFF else 0, fOr (fOr f0 f1) (snanFlag [x, y]))
  | 10 => (if cmpV x y = some 1 then 0xFFFFFFFF else 0, fOr (fOr f0 f1) (snanFlag [x, y]))
  | _ => let (bits, g) := transcend op nm x; (bits, fOr g f0)

/-- Handshakes of CFUSE's k-th 16 elements (R278, Table CRY-1). -/
def cfuseRow (u : Probe) (op : Nat) (p64 : Bool) (n : Nat) (nm : NMode) (e : EngEntry) (k : Nat) : Work Unit := do
  let w := fuseIn op p64
  let gs := gensOf (.cfuse op p64 n nm)
  let get (g : Nat) : Work (List Nat) := do
    let (a, len) := chunkAt (entAg e g) w 16 n k
    if gs.contains g then return (chunksOf w (len / w) (← rd u a len)).map leNat
    else return List.replicate (len / w) 0
  let a ← get 0
  let b ← get 1
  let c ← get 2
  let r := ((a.zip b).zip c).map fun x => fuseElem op p64 nm x.1.1 x.1.2 x.2
  wr u (chunkAt (entAg e 3) (fuseOut op p64) 16 n k).1 (r.flatMap fun x => leBytes (fuseOut op p64) x.1)
  onPan u fun q => countWork (orNstat q (r.foldl (fun a x => fOr a x.2) 0)) 2 (if 11 ≤ op then 4 else 1)

/-- The dequantisation entry that covers a word (R293, R294): the last one whose START is at or below it. -/
def deqEntry (c : Ctx) (i : Nat) : Nat × Int :=
  let j := ((List.range (hvDeqCount c)).filter fun j => decide (leAt (hvDeq c j) 0 4 ≤ i)).length - 1
  (leAt (hvDeq c j) 4 4, signed 64 (leAt (hvDeq c j) 8 8))

/-- The index in the whole vector of local word k (R304, R312). -/
def globalWord (c : Ctx) (k : Nat) : Nat :=
  match (segmentsOf c).find? fun sg => decide (sg.1 ≤ k) && decide (k < sg.1 + sg.2.2) with
  | some sg => sg.2.1 + (k - sg.1)
  | none => k

/-! ### Accumulators (R281 to R286, R315) -/

/-- `n` words of a Pan's slice from word k on (R286: a read that fails writes nothing and moves nothing). -/
def accRd (u : Probe) (c k n : Nat) : Work Bytes := do
  let s ← get
  let len := n * (ringW (s.ctx c) / 8)
  let (chip, a) := s.accPlace c u.pan k
  if chip then
    try rd u a len
    catch
      | .lost ws => throw (.acc ws)
      | x => throw x
  else
    match s.storeRead a len with
    | some bs => return bs
    | none => throw (.unit a)

/-- Words of a Pan's slice written from word k on. -/
def accWr (u : Probe) (c k : Nat) (bs : Bytes) : Work Unit := do
  let s ← get
  let (chip, a) := s.accPlace c u.pan k
  if chip then wr u a bs else set (s.storeWrite a bs)

/-- Words of one accumulator row of 256 bytes, and of a Store tile of 16 KiB (R272, R283). -/
def rowWords (c : Ctx) : Nat := 2048 / ringW c
def tileWords (c : Ctx) : Nat := 16384 / (ringW c / 8)

/-- Bytes of words [k, k + n) of the Pan's slice of a staged contribution. -/
def State.stagedWords (s : State) (c p slot k n : Nat) : Option Bytes :=
  let x := s.ctx c
  match x.slots.find? fun e => e.slot == slot with
  | none => none
  | some e => s.storeRead (e.base + ((s.sliceOf c p).1 + k) * (ringW x / 8)) (n * (ringW x / 8))

/-- Words [k, k + n) of the Pan's slice with those of a slot's staged contribution added or subtracted. -/
def addWords (u : Probe) (sub : Bool) (c slot k n : Nat) : Work Bytes := do
  let s ← get
  match s.stagedWords c u.pan slot k n with
  | none => throw .staged
  | some src => return ringBytes sub (ringW (s.ctx c)) (← accRd u c k n) src

/-- Row k of an add to an on-chip accumulator: the words are written and NEXT passes them, as one step (R286). -/
def addRow (u : Probe) (c slot k : Nat) : Work Unit := do
  let s ← get
  let m := rowWords (s.ctx c)
  let n := min m ((s.sliceOf c u.pan).2 - k * m)
  let bs ← addWords u false c slot (k * m) n
  accWr u c (k * m) bs
  onPan u fun q => countWork { q with commit := { q.commit with st := .adding, slot := slot, next := k * m + n } } 2 1

/-- A tile of an add to a Store-resident accumulator is computed: TILE (R283, R286). -/
def addTile (u : Probe) (c slot : Nat) : Work Unit := do
  let s ← get
  let k := (s.pan u.pan).commit.next
  let n := min (tileWords (s.ctx c)) ((s.sliceOf c u.pan).2 - k)
  let bs ← addWords u false c slot k n
  onPan u fun q =>
    countWork { q with commit := { st := .adding, slot := slot, next := k, tile := true, buf := bs } } 2 ((bs.length + 255) / 256)

/-- Words [k, k + n) of the Pan's slice with one entry's mask words applied under its operation. -/
def maskWords (u : Probe) (c k n : Nat) (m : SeedEntry) (dst : Bytes) : Work Bytes := do
  let s ← get
  let x := s.ctx c
  return ringBytes m.sub (ringW x) dst (maskBytes x m.seed ((s.sliceOf c u.pan).1 + k) n)

/-- Row k of an expansion into an on-chip accumulator, under the progress record (R315). -/
def expandRow (u : Probe) (c : Nat) (m : SeedEntry) (k : Nat) : Work Unit := do
  let s ← get
  let r := rowWords (s.ctx c)
  let n := min r ((s.sliceOf c u.pan).2 - k * r)
  let bs ← maskWords u c (k * r) n m (← accRd u c (k * r) n)
  accWr u c (k * r) bs
  onPan u fun q => { q with expandTag := some m.tag, expandNext := k * r + n }

/-- A tile of a Store-resident accumulator is computed with the batch of entries applied to it (R314). -/
def expandTile (u : Probe) (c left : Nat) : Work Unit := do
  let s ← get
  let q := s.pan u.pan
  let x := s.ctx c
  let batch := if q.expandBatch = 0 then min 16 (min q.seedQ.length left) else q.expandBatch
  let n := min (tileWords x) ((s.sliceOf c u.pan).2 - q.expandNext)
  let bs ← (q.seedQ.take batch).foldlM (fun b m => maskWords u c q.expandNext n m b) (← accRd u c q.expandNext n)
  onPan u fun q =>
    { q with expandBatch := batch, expandTile := true, expandBuf := bs, expandTag := (q.seedQ.head?).map (·.tag) }

/-- 16 words of CDEQ's operand: one FP32 per word, contiguously at a1 (R293). -/
def cdeqRow (u : Probe) (c : Nat) (nm : NMode) (e : EngEntry) (k : Nat) : Work Unit := do
  let s ← get
  let x := s.ctx c
  let (lo, len) := s.sliceOf c u.pan
  let n := min 16 (len - 16 * k)
  let bs ← accRd u c (16 * k) n
  let r := (ringWords (ringW x) bs).zipIdx.map fun w =>
    let (sc, zp) := deqEntry x (globalWord x (lo + 16 * k + w.2))
    dequantWord (ringW x) nm sc zp w.1
  wr u (chunkAt (entAg e 1) 4 16 len k).1 (r.flatMap fun v => leBytes 4 v.1)
  onPan u fun q => countWork (orNstat q (r.foldl (fun a v => fOr a v.2) 0)) 2 1

/-- One draw of the noise sampler, or the addition of the sample that it has found (R288 to R290). The stream gives its
output in requests of 4,096 bytes (R289 fixes none: DESIGN CHOICE, log entry 25). -/
def noiseRow (u : Probe) (c : Nat) (_ : Nat) : Work Unit := do
  let s ← get
  let q := s.pan u.pan
  let x := s.ctx c
  let a := hvSigmaNum x
  let b := hvSigmaDen x
  if (s.sliceOf c u.pan).2 ≤ q.noiseNext then throw .wait
  else if q.sampler.stage = .done then
    let w := ringW x
    let bs ← accRd u c q.noiseNext 1
    accWr u c q.noiseNext (leBytes (w / 8) (unsigned w ((leNat bs : Int) + q.sampler.y)))
    onPan u fun q => { q with noiseNext := q.noiseNext + 1, sampler := {} }
  else
    let n := uniformBytes (sampleBound a b q.sampler)
    if q.noiseBuf.length < n then
      match s.draw (u.pan + 1) 4096 with
      | none => throw .drbg
      | some (bs, s) => set (s.updPan u.pan fun q => { q with noiseBuf := q.noiseBuf ++ bs })
    onPan u fun q => { q with sampler := sampleStep a b q.sampler q.noiseBuf, noiseBuf := q.noiseBuf.drop n }

/-! ### The work of an entry -/

/-- The work of an entry in service: its rows, and what its last one ends. -/
structure EngJob where
  total : Nat
  row : Nat → Work Unit
  fin : Pan → Pan := id

/-- The context of a Pan while a harvest of it is live. -/
def State.liveCtx (s : State) (p : Nat) : Option Nat := (s.pan p).ctx.filter fun c => ctxLive (s.ctx c).st

/-- The work of the instruction at the head of a queue, where it is done row by row; `none` where it cannot be in service
now, or ends by a command of its own. -/
def State.workOf (s : State) (u : Probe) (e : EngEntry) : Option EngJob :=
  let q := s.pan u.pan
  match e.op with
  | .kout o => some { total := 0, row := fun _ => pure (), fin := fun q => { q with kout := o } }
  | .krun b add em rows src fu c o =>
    match q.banks[b]? with
    | some k => if k.st = .valid then some { total := rows, row := krunRow u k add em src fu c o e } else none
    | none => none
  | .kpass wide rows fu o => some { total := rows, row := kpassRow u wide fu o e }
  | .gseed a => some { total := 1, row := fun _ => do
      let z ← rd u a 32
      onPan u fun q => countWork { q with progSeed := z } 1 16 }
  | .gstream cha (some g) _ na ctr len => some { total := len, row := fun k => do
      let bs ← streamUnits u cha na ctr k 1 e
      wr u (rowAddr (entAg e g) 0 + (128 * k : Nat)) bs }
  | .gstream cha none chan na ctr len =>
    if routeValid (cachedRoute q chan) then some { total := (len + 15) / 16, row := fun k => do
        let bs ← streamUnits u cha na ctr (16 * k) (min 16 (len - 16 * k)) e
        sendRow u chan false bs }
    else none
  | .cring sub w ch n => some { total := (n * w + 2047) / 2048, row := cringRow u sub w ch n e }
  | .cfield op n => some { total := (n + 31) / 32, row := cfieldRow u op n e }
  | .cfuse op p64 n nm => some { total := (n + 15) / 16, row := cfuseRow u op p64 n nm e }
  | .cdeq nm => (s.liveCtx u.pan).map fun c => { total := ((s.sliceOf c u.pan).2 + 15) / 16, row := cdeqRow u c nm e }
  | .send c g f => some { total := 1, row := fun _ => do sendRow u c false (← rd u (rowAddr (entAg e g) 0) (128 * f)) }
  | .sigt c v => some { total := 1, row := fun _ => sendRow u c true (leBytes 4 v) }
  | _ => none

/-! ### The end of an instruction -/

/-- Rows that an instruction consumed of each generator. -/
def rowsUsed : EngOp → Nat
  | .kload .. => 128
  | .krun _ _ _ rows .. => rows
  | .kpass _ rows .. => rows
  | _ => 1

/-- The generators of a completed instruction have moved on. -/
def advGens (q : Pan) (e : EngEntry) : Pan :=
  (gensOf e.op).foldl (fun q g => setAg q g (advAg (agOf q g) (rowsUsed e.op))) q

/-- The head of an engine's queue has completed: its place and its generators are free. -/
def popHead (q : Pan) (e : Engine) : Pan :=
  match engQ q e with
  | [] => q
  | x :: rest => startKload (advGens (setEngQ q e rest) x)

/-- The head of an engine's queue has done rows up to k. -/
def setRows (q : Pan) (e : Engine) (k : Nat) : Pan := setEngQ q e (updAt (engQ q e) 0 fun x => { x with row := k })

/-- An engine instruction traps after issue (R341): PAN_TRAP has its word; engine instructions issued after it are
discarded, and the rows that they have written stand. -/
def State.engineTrap (s : State) (p : Nat) (e : EngEntry) (cause : Nat) : State :=
  let keep (l : List EngEntry) : List EngEntry := l.filter fun x => decide (x.order < e.order)
  let s := s.updPan p fun q =>
    let banks := match e.op with | .kload b .. => updAt q.banks b fun _ => {} | _ => q.banks
    let live (b : Nat) : Bool := (keep q.kq).any fun x => match x.op with | .kload b' .. => b == b' | _ => false
    { q with kq := keep q.kq, gq := keep q.gq, cq := keep q.cq, pq := keep q.pq
             banks := banks.zipIdx.map fun x => if x.1.st = .loading ∧ !live x.2 then {} else x.1 }
  s.trap p e.pc cause

/-- The engines of a Pan work: it is running, or trapped or halted with instructions left. -/
def engineRuns (q : Pan) : Bool := q.st == .running || q.st == .trapped || q.st == .halted

/-- The harvest of a context is voided for a read of its accumulator that fails twice (R315, R650, Table CRY-6). -/
def State.accLost (s : State) (c p : Nat) (ws : List Nat) (pc : Nat) : State :=
  (s.panLost p ws (some c) pc).fatalVoid c 1 p (wordLoc (s.pan p) (ws.headD 0))
def State.unitLost (s : State) (c a : Nat) : State := (s.condemn a (some c)).fatalVoid c 2 (s.pcAt a) a

/-- What a stop of an entry's work does: nothing while it waits; NOISE_WAITED and the timed wait where it waits for the DRBG
(R290, R497); a trap (R341), the void of Table FLT-3, or the BACKOUT of Table CRY-6 where a read failed twice. -/
def State.stopped (s : State) (p : Nat) (e : EngEntry) (x : Stop) : State :=
  match x with
  | .wait => s
  | .drbg => (s.noteWait (p + 1)).updPan p fun q => orCstat q 4
  | .lost ws => (s.panLost p ws none e.pc).engineTrap p e 11
  | .acc ws => match s.liveCtx p with | some c => s.accLost c p ws e.pc | none => s
  | .unit a => match s.liveCtx p with | some c => s.unitLost c a | none => s
  | .staged => s.updPan p fun q => { q with commit := { q.commit with st := .backout, slot := q.addItems.headD q.commit.slot } }

/-! ### Serving the engines -/

/-- The add item that the head of the Crystalliser's queue serves: its context and slot. One that has not begun waits while
its context is PAUSED; one that is backed out is served no more (Table CRY-6). -/
def State.addReady (s : State) (p : Nat) : Option (Nat × Nat) :=
  let q := s.pan p
  match s.liveCtx p, q.cq.head?, q.addItems with
  | some c, some e, slot :: _ =>
    if e.op == .caddItem && engineRuns q &&
        (q.commit.st == .adding || (q.commit.st == .idle && !paused (s.ctx c))) then some (c, slot) else none
  | _, _, _ => none

/-- The Pan's slice is added whole: DONE. The instruction that served it leaves its queue, unless a quiesce request has
discarded it. -/
def addDone (q : Pan) (slot n : Nat) : Pan :=
  { (if q.cq.head?.any fun e => e.op == .caddItem then popHead q .crystalliser else q) with commit := { st := .done, slot := slot, next := n }, addItems := q.addItems.drop 1 }

/-- A GEXP is at the head of both its queues, with an entry to expand; the context is not PAUSED or already expands. -/
def State.gexpReady (s : State) (p : Nat) : Option (Nat × SeedEntry × Nat) :=
  let q := s.pan p
  match s.liveCtx p, q.gq.head?, q.cq.head?, q.seedQ with
  | some c, some e, some l, m :: _ =>
    match e.op with
    | .gexp left =>
      if l.op == .gexpLane && engineRuns q && (!paused (s.ctx c) || q.expandTag.isSome) then some (c, m, left) else none
    | _ => none
  | _, _, _, _ => none

/-- Rows that a slice of a context's accumulator takes. -/
def State.sliceRows (s : State) (c p : Nat) : Nat := ((s.sliceOf c p).2 + rowWords (s.ctx c) - 1) / rowWords (s.ctx c)

/-- The columns of a shift-in, from Pan memory or from channel data. -/
def loadCols (u : Probe) (c : KCfg) (e : EngEntry) (g : Nat) (chan : Bool) (k : Nat) : Nat → Work (List (Bytes × Bytes))
  | 0 => pure []
  | n + 1 => do
    let r ← operandRow u (entAg e g) chan e.got k (operandRowBytes c c.stat) (scaleRowBytes c c.stat)
    let rest ← loadCols u c e g chan (k + 1) n
    return r :: rest

/-- The 128 steps of a shift-in, and the bank that they fill (R242, R243). -/
def shiftIn (u : Probe) (e : EngEntry) (b g : Nat) (chan : Bool) : Work Unit := do
  let c := ((← get).pan u.pan).kcfg
  let l ← loadCols u c e g chan 0 128
  let (bank, fl) := fillBank c l
  onPan u fun q => startKload (countWork (advGens (orNstat { q with
    banks := updAt q.banks b fun _ => bank
    kq := q.kq.filter fun x => x.order != e.order } fl) e) 0 128)

/-- The instructions in service on an engine: the head of its queue, and a shift-in that has started behind it (R245). -/
def inService (q : Pan) (eng : Engine) : List EngEntry :=
  match engQ q eng with
  | [] => []
  | e :: rest => e :: rest.filter (·.started)

/-- `n` rows of an entry's work at most, at the head of an engine's queue; with its last row it leaves the queue. -/
def State.serveRows (s : State) (p : Nat) (eng : Engine) (e : EngEntry) (j : EngJob) (n : Nat) : Option Stop × State :=
  let (k, x, t) := runRows j.row e.row (min n (j.total - e.row)) s
  if x.isNone && decide (j.total ≤ k) then (none, t.updPan p fun q => popHead (j.fin q) eng)
  else (x, t.updPan p fun q => setRows q eng k)

/-- `n` rows at most of the add that the Crystalliser serves; into a Store-resident accumulator the one tile that is not yet
computed. -/
def State.serveAdd (s : State) (u : Probe) (c slot n : Nat) : Option Stop × State :=
  let p := u.pan
  let len := (s.sliceOf c p).2
  let k := (s.pan p).commit.next
  if (s.ctx c).onChip then
    let m := rowWords (s.ctx c)
    let (k, x, t) := runRows (addRow u c slot) (k / m) (min n (s.sliceRows c p - k / m)) s
    if x.isNone && decide (s.sliceRows c p ≤ k) then (none, t.updPan p fun q => addDone q slot len) else (x, t)
  else if len = 0 then (none, s.updPan p fun q => addDone q slot 0)
  else if (s.pan p).commit.tile || n = 0 then (some .wait, s)
  else
    let (_, x, t) := runRows (fun _ => addTile u c slot) 0 1 s
    (x, t)

/-- `n` rows at most of the expansion that a GEXP serves; into a Store-resident accumulator the one tile that is not yet
computed. The entry itself ends by MASK_ENTRY_DONE. -/
def State.serveExpand (s : State) (u : Probe) (c : Nat) (m : SeedEntry) (left n : Nat) : Option Stop × State :=
  let p := u.pan
  let q := s.pan p
  let len := (s.sliceOf c p).2
  if (s.ctx c).onChip then
    let k := q.expandNext / rowWords (s.ctx c)
    let (_, x, t) := runRows (expandRow u c m) k (min n (s.sliceRows c p - k)) s
    (x, t)
  else if q.expandTile || decide (len ≤ q.expandNext) || n = 0 then (some .wait, s)
  else
    let (_, x, t) := runRows (fun _ => expandTile u c left) 0 1 s
    (x, t)

/-- `n` rows at most of the instruction in service on an engine, each read meeting the upsets that the command names. -/
def State.serve (s : State) (p : Nat) (eng : Engine) (e : EngEntry) (n : Nat) (ups : List (Nat × Upset)) : Option Stop × State :=
  let u : Probe := { pan := p, pc := e.pc, ups := ups }
  if !engineRuns (s.pan p) then (some .wait, s)
  else
    match e.op with
    | .caddItem => match s.addReady p with | some (c, slot) => s.serveAdd u c slot n | none => (some .wait, s)
    | .gexp _ => match s.gexpReady p with | some (c, m, left) => s.serveExpand u c m left n | none => (some .wait, s)
    | .cnoise =>
      match s.liveCtx p with
      | some c =>
        if (s.ctx c).st != .settling then (some .wait, s)
        else let (_, x, t) := runRows (noiseRow u c) 0 n s; (x, t)
      | none => (some .wait, s)
    | .kload b g ch =>
      if !e.started then (some .wait, s)
      else let (_, x, t) := runRows (fun _ => shiftIn u e b g ch.isSome) 0 1 s; (x, t)
    | _ => match s.workOf u e with | some j => s.serveRows p eng e j n | none => (some .wait, s)

/-- What a served instruction leaves: the device, and what its stop does. -/
def State.served (s : State) (p : Nat) (eng : Engine) (e : EngEntry) (n : Nat) (ups : List (Nat × Upset)) : State :=
  match s.serve p eng e n ups with
  | (none, t) => t
  | (some x, t) => t.stopped p e x

/-- ENGINE_INSTRUCTION_COMPLETE (R332): the instruction at the head of an engine's queue does its work, `n` rows of it at most,
and leaves the queue with the last one. Fewer rows than it has leave it in service at a handshake boundary, where a trap or
a quiesce may stop it (R341, R343). `ups` are the words in which its reads meet an upset. -/
def execEngineInstructionComplete (p : Fin 48) (eng : Engine) (n : Nat) (ups : List (Nat × Upset)) (s : State) :
    Host.Outcome State Fault Refusal :=
  let t := s.updPan p pull
  match (engQ (t.pan p) eng).head? with
  | none => s.done t
  | some e => s.done (match e.op with | .kload .. => t | _ => t.served p eng e n ups)

/-- KCFG_APPLY (R268): the KCFG behind nothing but shift-ins takes effect; a change of configuration makes both banks
INVALID and abandons those shift-ins. -/
def execKcfgApply (p : Fin 48) (s : State) : Host.Outcome State Fault Refusal :=
  let q := s.pan p
  let before := q.kq.takeWhile fun e => match e.op with | .kload .. => true | _ => false
  match q.kq.drop before.length with
  | [] => .next s
  | e :: rest =>
    match e.op with
    | .kcfg c =>
      if !engineRuns q then .next s
      else if kcfgDiffers q.kcfg c then
        s.done (s.updPan p fun q => startKload { q with kcfg := c, banks := List.replicate 2 {}, kq := rest })
      else s.done (s.updPan p fun q => startKload { q with kcfg := c, kq := before ++ rest })
    | _ => .next s

/-- SHIFT_IN_DONE (R242, R243): the 128th step of the shift-in that has started completes. -/
def execShiftInDone (p : Fin 48) (ups : List (Nat × Upset)) (s : State) : Host.Outcome State Fault Refusal :=
  let t := s.updPan p pull
  match (t.pan p).kq.find? (·.started) with
  | none => s.done t
  | some e => s.done (if fed (t.pan p) e then t.served p .kettle e 1 ups else t)

/-- A token is at the head of the channel that an instruction in service reads, and it has not all its data yet. -/
def meetsToken (q : Pan) (e : EngEntry) : Bool :=
  match chanNeed q.kcfg e.op with
  | some (c, need) => decide (e.got.length < need) && headToken q c == some true
  | none => false

/-- A read of an instruction in service meets the word named, which fails twice: what it stops with, and the device. -/
def State.meetsLost (s : State) (p : Nat) (eng : Engine) (word : Nat) (e : EngEntry) : Option State :=
  match s.serve p eng e (2 ^ 24) [(word, .lasting)] with
  | (some (.lost ws), t) => some (t.stopped p e (.lost ws))
  | (some (.acc ws), t) => some (t.stopped p e (.acc ws))
  | _ => none

/-- ENGINE_TRAP (R341, R315, Table CRY-6): KIND when the channel's head is a token; MEMORY when an instruction in service
comes to the word named and it fails twice, which voids the harvest instead where the word is of its accumulator (R650). -/
def execEngineTrap (p : Fin 48) (eng : Engine) (kind : Bool) (word : Nat) (s : State) : Host.Outcome State Fault Refusal :=
  let t := s.updPan p pull
  let q := t.pan p
  let l := inService q eng
  if kind then
    match l.find? (meetsToken q) with
    | some e => s.done (if engineRuns q then t.engineTrap p e 9 else t)
    | none => s.done t
  else s.done ((l.findSome? (t.meetsLost p eng word)).getD t)

/-! ### Expansion (R308, R312 to R315) -/

/-- The blocks of keystream that words [k, k + n) of a member's vector take under the harvest's PRG: each segment starts at
the block of its first word (R312). -/
def maskBlocks (c : Ctx) (k n : Nat) : Nat :=
  let b := ringW c / 8
  let blk := if hvPrg c = 0 then 16 else 64
  ((segmentsOf c).map fun sg =>
    let lo := max k sg.1
    let hi := min (k + n) (sg.1 + sg.2.2)
    if lo < hi then
      let first := (sg.2.1 + (lo - sg.1)) * b / blk
      let last := ((sg.2.1 + (hi - sg.1)) * b - 1) / blk
      last + 1 - first
    else 0).sum

/-- Handshakes that an entry's expansion over a slice takes (R313, Table GRN-1): 8 AES blocks or 1 ChaCha20 block each; a
Store-resident slice is expanded tile by tile (R314). -/
def State.expandShakes (s : State) (c p : Nat) : Nat :=
  let x := s.ctx c
  let (lo, n) := s.sliceOf c p
  let per := if hvPrg x = 0 then 8 else 1
  let m := if x.onChip then max 1 n else tileWords x
  ((List.range ((n + m - 1) / m)).map fun i => (maskBlocks x (lo + i * m) (min m (n - i * m)) + per - 1) / per).sum

/-- The entry in service is zeroised and counts against the GEXP, which ends with its last one. Setting up the next seed
takes 16 handshakes, overlapped with the expansion (R313). -/
def endEntry (shakes : Nat) (q : Pan) : Pan :=
  let more := decide (1 < q.expandBatch)
  let q : Pan := countWork (countWork q 1 (max 16 shakes)) 2 shakes
  let rest := q.seedQ.drop 1
  let q : Pan :=
    { q with
      seedQ := rest
      expandBatch := q.expandBatch - 1
      expandTag := if more then rest.head?.map SeedEntry.tag else none
      expandNext := if more then q.expandNext else 0 }
  match q.gq with
  | e :: rest =>
    match e.op with
    | .gexp n => if n ≤ 1 then { q with gq := rest, cq := q.cq.drop 1 } else { q with gq := { e with op := .gexp (n - 1) } :: rest }
    | _ => q
  | [] => q

/-- A Pan does the rest of the entry at the head of its ledger-seed queue and completes it: the tag where it does, what stops
it where it does not, and the device. -/
def State.expandEntry (s : State) (p : Nat) (ups : List (Nat × Upset)) : Option (Nat × Nat) × State :=
  match s.gexpReady p with
  | none => (none, s)
  | some (c, m, left) =>
    let e := (s.pan p).gq.head?
    let u : Probe := { pan := p, pc := (e.map (·.pc)).getD 0, ups := ups }
    let len := (s.sliceOf c p).2
    let fin (s : State) : Option (Nat × Nat) × State := (some (c, m.tag), s.updPan p (endEntry (s.expandShakes c p)))
    if (s.ctx c).onChip then
      match s.serveExpand u c m left (s.sliceRows c p) with
      | (none, t) => fin t
      | (some x, t) => (none, match e with | some e => t.stopped p e x | none => t)
    else if len = 0 ∨ (s.pan p).expandBatch ≠ 0 ∧ len ≤ (s.pan p).expandNext then fin s
    else (none, s)

/-- STORE_WRITE_ACK (R283, R286, R314, R315): the tile that an add or an expansion has computed is written to the Stores, and
NEXT passes it. -/
def execStoreWriteAck (p : Fin 48) (s : State) : Host.Outcome State Fault Refusal :=
  let q := s.pan p
  match s.liveCtx p with
  | none => .next s
  | some c =>
    let words (bs : Bytes) : Nat := bs.length / (ringW (s.ctx c) / 8)
    if q.commit.tile then
      let k := q.commit.next + words q.commit.buf
      s.done ((s.accWrite c p q.commit.next q.commit.buf).updPan p fun q =>
        if (s.sliceOf c p).2 ≤ k ∧ q.commit.st = .adding then addDone q q.commit.slot k
        else { q with commit := { q.commit with next := k, tile := false, buf := [] } })
    else if q.expandTile then
      s.done ((s.accWrite c p q.expandNext q.expandBuf).updPan p fun q =>
        { q with expandNext := q.expandNext + words q.expandBuf, expandTile := false, expandBuf := [] })
    else .next s

/-! ### Noise (R288 to R292) -/

/-- T × 2^j in toll ticks, rounded up to a tick (R291): T = 1 ms + N × 48 B / (4 GB/s). -/
def noiseTime (n j : Nat) : Nat := ((1000000 + 12 * n) * 2 ^ j + 999) / 1000

/-- A CNOISE reports at this tick (R291), at T × 2^j after its start for some j. -/
def State.noiseTick (s : State) (c p : Nat) : Bool :=
  (List.range 44).any fun j => (s.pan p).noiseStart + noiseTime (s.ctx c).words j == s.cad.toll

/-- CNOISE_COMPLETE (R288 to R291): at the tick T × 2^j after its start, with every sample of the slice drawn and added. -/
def execCnoiseComplete (p : Fin 48) (s : State) : Host.Outcome State Fault Refusal :=
  let q := s.pan p
  match s.liveCtx p, q.cq.head? with
  | some c, some e =>
    if e.op != .cnoise || !engineRuns q || (s.ctx c).st != .settling || q.noiseNext < (s.sliceOf c p).2 || !s.noiseTick c p then .next s
    else
      s.done (s.updPan p fun q =>
        countWork { popHead q .crystalliser with noiseDone := true, noiseBuf := [] } 2 (s.sliceRows c p))
  | _, _ => .next s

end Sys2Proof.Machine
end

