-- ==== Sys2Proof/Machine/PanLife.lean ====
section
/-! DEFINITION. The life of a Pan (PAN, FLT): the row map and its repairs, retirement, Sweep slices, strays, delivery at a
Pan, the rewriting of a Pan and ROUTE_SYNC. -/
namespace Sys2Proof.Machine

open Sys2Proof

/-! ### The row map (R188, R190, R191) -/

/-- Physical subarrays in the order of R190: position by position, and within each bank by bank. -/
def subOrder : List Nat := (List.range 384).map fun n => 8 * (n % 48) + n / 48

/-- The subarrays in service, in that order. -/
def subsIn (q : Pan) : List Nat := subOrder.filter fun s => !q.retiredSubs.contains s

/-- Logical subarrays mapped anew, as an apply does. -/
def remapPan (q : Pan) : Pan := { q with map := (subsIn q).take q.need }

/-- The lowest free good spare row of a subarray. -/
def freeSpare (q : Pan) (sub : Nat) : Option Nat :=
  (List.range 8).find? fun x => !q.badSpares.contains (sub, x) && !q.repairs.any fun r => r.1 == sub && r.2.2 == x

/-- The data row that a spare row stands for. -/
def rowOfSpare (q : Pan) (sub spare : Nat) : Option Nat :=
  match q.repairs.find? fun r => r.1 == sub && r.2.2 == spare with
  | some r => if spareOf q sub r.2.1 == some spare then some r.2.1 else none
  | none => none

/-! ### Strays (R205, R206) -/

/-- ROUTE_STRAY. -/
def State.strayEvent (s : State) (d reason src schan dchan n : Nat) : State :=
  s.event 4 0x13 0xFF (statusCode .routeStray)
    ([BitVec.ofNat 8 reason, BitVec.ofNat 8 src, BitVec.ofNat 8 schan, BitVec.ofNat 8 d, BitVec.ofNat 8 dchan, 0, 0, 0] ++
      leBytes 4 n)

/-- The stray accounting of a destination. -/
def State.strayOf (s : State) (d : Nat) : Stray := s.fabric.strays.getD d {}
def State.updStray (s : State) (d : Nat) (f : Stray → Stray) : State :=
  { s with fabric := { s.fabric with strays := updAt s.fabric.strays d f } }

/-- An item discarded at a Pan: counted, its event raised at once where the last one is a millisecond old, and the live
harvest of its source voided. An item of a shared port, whose source belongs to no context, voids the harvest of the context
that it was sent for (R206 names no shared port: DESIGN CHOICE, log entry 62). -/
def State.strayAt (s : State) (d : Nat) (it : FabItem) (reason : Nat) : State :=
  let toll := s.cad.toll
  let last := it.dchan * 2 ^ 26 + toll % 2 ^ 26 + d * 2 ^ 32 + it.srcChan * 2 ^ 42 + it.src * 2 ^ 48 + reason * 2 ^ 56
  let s := (s.bump .chgStrayPan d 15 0 1).bump .chgStrayTotal 0 31 0 1
  let s := { s with fabric := { s.fabric with lastStray := last } }
  let x := s.strayOf d
  let due := match x.last with | none => true | some t => decide (t + 1000 ≤ toll)
  let s :=
    if due then
      (s.strayEvent d reason it.src it.srcChan it.dchan (x.count + 1)).updStray d fun _ =>
        { last := some toll, count := 0, reason := reason, src := it.src, schan := it.srcChan, dchan := it.dchan }
    else s.updStray d fun x =>
      { x with count := x.count + 1, reason := reason, src := it.src, schan := it.srcChan, dchan := it.dchan }
  match it.ctx with
  | some c => s.voidCtx c .routeStray
  | none => s

/-- STRAY_EVENT_FLUSH (R205): the millisecond after an event has ended with strays in it. -/
def execStrayEventFlush (p : Fin 48) (s : State) : Host.Outcome State Fault Refusal :=
  let x := s.strayOf p
  match x.last with
  | none => .next s
  | some t =>
    if x.count = 0 ∨ s.cad.toll < t + 1000 then .next s
    else
      let toll := s.cad.toll
      s.done ((s.strayEvent p x.reason x.src x.schan x.dchan x.count).updStray p fun x =>
        { x with last := some toll, count := 0 })

/-! ### Retirement (R657, R658, R208) -/

/-- A Pan becomes RETIRED: its content is discarded, the live harvest of its context is voided, the items in its receive
buffers are strays. -/
def State.retireNow (s : State) (p : Nat) : State :=
  let q := s.pan p
  if q.st = .retired then s
  else
    let items := q.rx.flatMap (·.2)
    let s := s.updPan p fun q =>
      { stopEngines q with
        st := .retired, prior := none, ret := false, retiring := false, blocked := none, debugHalt := false, mem := [], bad := [], rx := [] }
    let sw := s.sweep
    let s := { s with sweep := { sw with
      panRetired := satAdd 16 sw.panRetired 1
      targets := sw.targets.filter fun t => t.1 != p
      testing := sw.testing.filter (· != p)
      failedOnce := sw.failedOnce.filter (· != p) } }
    let s := s.persist (repairEntry 4 p 0 0 0)
    let s := s.unitStateEvent 1 p (panCode q.st) 6 (b2n q.suspect)
    let s := match q.ctx with
      | some c => s.fatalVoid c 1 p 0
      | none => s
    items.foldl (fun s it => s.strayAt p it 2) s

/-- The retirement of a Pan (R193, R194): a Pan at work is asked to quiesce and retires from QUIESCED; any other is RETIRED at
once. -/
def State.retirePan (s : State) (p : Nat) : State :=
  match (s.pan p).st with
  | .retired => s
  | .running | .quiescing | .halted | .trapped => s.updPan p fun q => { quiescePan false q with retiring := true }
  | _ => s.retireNow p

/-! ### Slices (R651 to R656) -/

/-- Slices may run: not while booting before step 6, in LOCKED or Muffled, or while VDDC is not good. -/
def State.sweepRuns (s : State) : Bool :=
  s.power.vddc == .good &&
    match s.dev.st with
    | .booting => decide (6 ≤ s.dev.bootStep)
    | .untenanted | .tenantedIdle | .running => true
    | _ => false

/-- An image load that applies writes this Pan, or waits to (R172, step 8). -/
def State.loadTakes (s : State) (p : Nat) : Bool :=
  let q := s.pan p
  match s.img.load with
  | some ld => decide (2 ≤ ld.phase) && (ld.partialCtx.isNone || q.ctx == ld.partialCtx) && q.st != .retired && q.st != .returning
  | none => false

/-- The load in progress awaits this Pan's QUIESCED (R182). -/
def State.loadOwns (s : State) (p : Nat) : Bool := s.loadTakes p && s.img.load.any fun ld => ld.phase == 2

/-- A Pan is being written by an apply, or its scratch buffer serves a self-test: its slice is deferred (R653). -/
def State.beingWritten (s : State) (p : Nat) : Bool :=
  (s.pan p).st == .quiesced || s.loadTakes p || s.sweep.testing.contains p

/-- The next rotation position from `k` on that is in service, the positions left in the pass counted by `n`. -/
def State.nextPos (s : State) (k : Nat) : Nat → Option Nat
  | 0 => none
  | n + 1 =>
    let q := s.pan (k % 48)
    if q.st == .retired || q.st == .returning || q.retiredSubs.contains (k / 48) then s.nextPos (k + 1) n else some k

/-- The bytes of a physical subarray by offset within it, and its words that read uncorrectable. -/
def subContent (q : Pan) (sub : Nat) : List (Nat × Byte) × List Nat :=
  match q.map.findIdx? (· == sub) with
  | none => ([], [])
  | some l =>
    let need := max 1 q.need
    (q.mem.filterMap fun e => if e.1 / 32 % need = l then some (e.1 / 32 / need * 32 + e.1 % 32, e.2) else none,
     q.bad.filterMap fun w => if w / 4 % need = l then some (w / 4 / need * 4 + w % 4) else none)

/-- A slice begins: steps 1 and 2 of Table FLT-4. -/
def State.beginSlice (s : State) (p sub : Nat) (targeted : Bool) : State :=
  let c := subContent (s.pan p) sub
  let sl : Slice := { pan := p, sub := sub, targeted := targeted, saved := c.1, lost := c.2 }
  { s with sweep := { s.sweep with slice := some sl, lastPan := p, lastSub := sub, deferred := false } }

/-- SWEEP_SLICE_START (R651 to R653): a targeted slice first, else the next position of the rotation; the end of a pass
is counted. -/
def execSweepSliceStart (s : State) : Host.Outcome State Fault Refusal :=
  if !s.sweepRuns || s.sweep.slice.isSome then .next s
  else
    match s.sweep.targets.find? fun t => !s.beingWritten t.1 with
    | some t =>
      s.done (({ s with sweep := { s.sweep with targets := s.sweep.targets.filter (· != t) } }).beginSlice t.1 t.2 true)
    | none =>
      let sw := s.sweep
      match s.nextPos sw.pos (18432 - sw.pos) with
      | some k =>
        if s.beingWritten (k % 48) then s.done { s with sweep := { sw with pos := k, deferred := true } }
        else
          let last := k + 1 = 18432
          let s := { s with sweep := { sw with
            pos := if last then 0 else k + 1, passes := if last then (sw.passes + 1) % 2 ^ 64 else sw.passes } }
          s.done (s.beginSlice (k % 48) (k / 48) false)
      | none => s.done { s with sweep := { sw with pos := 0, passes := (sw.passes + 1) % 2 ^ 64 } }

/-- SWEEP_LAST. -/
def lastWord (result p sub row word bit : Nat) : Nat :=
  bit % 128 * 2 ^ 20 + word % 4 * 2 ^ 27 + row % 1024 * 2 ^ 29 + sub % 512 * 2 ^ 39 + p * 2 ^ 48 + result * 2 ^ 56

/-- A BIST_RESULT of a slice, kept in SWEEP_LAST. -/
def State.bistRow (s : State) (p sub row word bit result : Nat) : State :=
  let s := { s with sweep := { s.sweep with last := lastWord result p sub row word bit } }
  s.bistEvent p (sub / 8) (sub % 8) word row bit result

/-- How the repair of a subarray stands: its Pan, the rows remapped, the outcome once no spare was left. -/
structure Mend where
  st : State
  /-- 0 the subarray stays, 3 it is retired, 4 the Pan is retired. -/
  out : Nat := 0

/-- The subarray is retired: its logical subarray moves to the first unmapped subarray in service, or the Pan has fallen
below its NEED (R657). -/
def State.retireSub (s : State) (p sub : Nat) : Mend :=
  let q := s.pan p
  let s := s.updPan p fun q => { q with retiredSubs := q.retiredSubs ++ [sub] }
  let s := { s with sweep := { s.sweep with
    subRetired := satAdd 16 s.sweep.subRetired 1, targets := s.sweep.targets.filter (· != (p, sub)) } }
  let s := s.persist (repairEntry 3 p sub 0 0)
  match q.map.findIdx? (· == sub) with
  | none => { st := s, out := 3 }
  | some l =>
    match (subsIn (s.pan p)).find? fun x => !q.map.contains x with
    | some x => { st := s.updPan p fun q => { q with map := updAt q.map l fun _ => x }, out := 3 }
    | none => { st := s, out := 4 }

/-- Step 4 of Table FLT-4 for one row that failed both tests. -/
def Mend.row (m : Mend) (p sub : Nat) (f : RowFail) : Mend :=
  let q := m.st.pan p
  let s := (m.st.fault 2 1 p (statusCode .lastingFault) none (panLoc sub f.row f.word) 0).setSuspect p true
  if q.retiredSubs.contains sub then { m with st := s.bistRow p sub f.row f.word f.bit m.out }
  else
    let spare := f.row - 512
    let remap (s : State) (row : Nat) : Mend :=
      match freeSpare (s.pan p) sub with
      | some x =>
        let s := s.updPan p fun q => { q with repairs := q.repairs ++ [(sub, row, x)] }
        let s := { s with sweep := { s.sweep with rowsRepaired := satAdd 32 s.sweep.rowsRepaired 1 } }
        { m with st := (s.persist (repairEntry 1 p sub row x)).bistRow p sub f.row f.word f.bit 1 }
      | none =>
        let r := s.retireSub p sub
        { r with st := r.st.bistRow p sub f.row f.word f.bit r.out }
    if f.row < 512 then remap s f.row
    else
      let row := rowOfSpare q sub spare
      let s := s.updPan p fun q =>
        { q with badSpares := q.badSpares ++ [(sub, spare)]
                 repairs := q.repairs.filter fun r => !(r.1 == sub && r.2.2 == spare) }
      let s := s.persist (repairEntry 2 p sub 0 spare)
      match row with
      | some r => remap s r
      | none => { m with st := s.bistRow p sub f.row f.word f.bit 2 }

/-- A row whose test failed matters: a data row already remapped, and a spare row already bad, are out of use. -/
def rowMatters (q : Pan) (sub : Nat) (f : RowFail) : Bool :=
  decide (f.row < 520) && if f.row < 512 then (spareOf q sub f.row).isNone else !q.badSpares.contains (sub, f.row - 512)

/-- Step 5: the saved content put back through the new map; words saved lost stay uncorrectable. -/
def restoreSub (sub' : Option Nat) (sl : Slice) (q : Pan) : Pan :=
  match sub'.bind fun x => q.map.findIdx? (· == x) with
  | none => q
  | some l =>
    let need := max 1 q.need
    let keep := q.mem.filter fun e => e.1 / 32 % need != l
    { q with
      mem := sl.saved.foldl (fun m e => Memory.write m ((e.1 / 32 * need + l) * 32 + e.1 % 32) e.2) keep
      bad := (q.bad.filter fun w => w / 4 % need != l) ++ sl.lost.map fun w => (w / 4 * need + l) * 4 + w % 4 }

/-- Words that the slice found lost (R656): each row of them raises DATA_LOST; in the accumulator region of a live harvest
they void it. The bit of such an item is not stated: a free value. -/
def State.dataLost (s : State) (sl : Slice) (l : Option Nat) : State :=
  let p := sl.pan
  let rows := (sl.lost.map (· / 4)).eraseDups
  let s := rows.foldl (fun s r =>
    let (b, s) := s.drawFree 7
    s.bistRow p sl.sub r ((sl.lost.find? fun w => w / 4 == r).getD 0 % 4) (b % 72) 5) s
  match l, (s.pan p).ctx with
  | some l, some c =>
    let x := s.ctx c
    let n := (s.sliceOf c p).2 * (ringW x / 8)
    let need := max 1 (s.pan p).need
    if x.onChip && ctxLive x.st && sl.lost.any fun w => decide (8 * ((w / 4 * need + l) * 4 + w % 4) < n) then
      s.fatalVoid c 1 p (8 * (sl.lost.headD 0))
    else s
  | _, _ => s

/-- SUSPECT clears once no targeted slice of the Pan is left (R195, R652). -/
def State.clearSuspect (s : State) (p : Nat) : State :=
  if s.sweep.targets.any fun t => t.1 == p then s else s.setSuspect p false

/-- The rows that a slice found failing: those that passed their retest are TRANSIENT, the others are repaired. -/
def State.mendRows (s : State) (sl : Slice) (fails : List RowFail) : Mend :=
  fails.foldl (fun m f =>
    if !rowMatters (m.st.pan sl.pan) sl.sub f then m
    else if !f.lasting then
      { m with st := m.st.fault 1 1 sl.pan (statusCode .transientRetried) none (panLoc sl.sub f.row f.word) 0 }
    else if m.out = 4 then m
    else m.row sl.pan sl.sub f) { st := s }

/-- The end of a slice, steps 3 to 6 of Table FLT-4 (R654 to R657). -/
def State.endSlice (s : State) (sl : Slice) (fails : List RowFail) (lost : List Nat) (corrected : Nat) (scratch : Bool) :
    State :=
  let p := sl.pan
  let l := (s.pan p).map.findIdx? (· == sl.sub)
  let sl := { sl with lost := (sl.lost ++ lost.filter fun w => decide (w < 2048) && !sl.lost.contains w)
                      saved := sl.saved.filter fun e => !lost.contains (e.1 / 8) }
  let s := (s.bump .panEcc p 15 0 corrected).bump .panEcc p 31 16 (2 * lost.length)
  let s := (List.range corrected).foldl (fun s _ => s.classCount 0) s
  let m := if (s.pan p).retiredSubs.contains sl.sub then { st := s } else s.mendRows sl fails
  let s := m.st
  let again := fails.any (·.lasting) && !sl.targeted && m.out == 0
  let s := if again then s.addTarget p sl.sub else s
  let bad := m.out = 4 ∨ (scratch ∧ s.sweep.scratchTest.contains p)
  let s := if m.out = 4 then s else s.updPan p (restoreSub (l.bind fun i => (s.pan p).map[i]?) sl)
  let s := { s with sweep := { s.sweep with
    slice := none
    scratchTest := if scratch ∧ ¬ s.sweep.scratchTest.contains p then s.sweep.scratchTest ++ [p]
      else s.sweep.scratchTest.filter (· != p) } }
  let s := if m.out = 4 then s else s.dataLost sl l
  if bad then
    let s := if m.out = 4 then s else s.bistRow p sl.sub 0x3FF 3 0x7F 4
    s.retirePan p
  else if sl.targeted || m.out == 3 then s.clearSuspect p
  else s

/-! ### Rewriting a Pan and ROUTE_SYNC (R178, R202, R204) -/

/-- The routes record and the programs record of a Pan in the image in force. -/
def routesOf (l : Loaded) (c p : Nat) : Option Bytes :=
  (lookupN l.routes c).bind fun b =>
    ((List.range (b.length / 520)).map fun i => slice b (520 * i) 520).find? fun r => byteAt r 0 == p

/-- The records of a PROGRAMS body. -/
def programRecs : Nat → Bytes → List Bytes
  | 0, _ => []
  | n + 1, b =>
    if b.length < 16 then [] else
      let len := 16 + 4 * leAt b 8 4
      b.take len :: programRecs n (b.drop len)
def programOf (l : Loaded) (c p : Nat) : Option Bytes :=
  (lookupN l.programs c).bind fun b => (programRecs (b.length / 16) b).find? fun r => bitOf (leAt r 0 8) p

/-- The route table of a record: the entries that are not zero. -/
def routeTable (r : Bytes) : List (Nat × Nat) :=
  ((List.range 64).map fun n => (n, leAt r (8 + 8 * n) 8)).filter fun e => e.2 != 0
/-- The instruction memory of a record. -/
def codeOf (r : Bytes) : List (Nat × Nat) :=
  ((List.range (leAt r 8 4)).map fun i => (i, leAt r (16 + 4 * i) 4)).filter fun e => e.2 != 0

/-- Instruction memory, route table and entry of a Pan rewritten from the image in force. -/
def writeSections (l : Option Loaded) (p : Nat) (q : Pan) : Pan :=
  let r := l.bind fun l => q.ctx.bind fun c => routesOf l c p
  let g := l.bind fun l => q.ctx.bind fun c => programOf l c p
  { q with
    imem := match g with | some g => codeOf g | none => []
    entry := match g with | some g => leAt g 12 4 | none => 0
    routes := match r with | some r => routeTable r | none => []
    routePending := [], prefetch := [] }

/-- ROUTE_SYNC issued for the ports of a list of Pans (R204). -/
def State.routeSync (s : State) (l : List Nat) : State :=
  let old := match s.fabric.sync with | some y => y.pans | none => []
  { s with fabric := { s.fabric with sync := some { pans := old ++ l.filter fun p => !old.contains p } } }

/-- The logic self-test starts on a list of Pans (R660): both banks are left INVALID. -/
def State.startTests (s : State) (l : List Nat) : State :=
  let l := l.filter fun p => !((s.pan p).st == .retired || (s.pan p).st == .returning)
  let s := l.foldl (fun s p => s.updPan p fun q =>
    { q with banks := List.replicate 2 {}, bankIssue := List.replicate 2 false }) s
  { s with sweep := { s.sweep with
    testing := s.sweep.testing ++ l.filter fun p => !s.sweep.testing.contains p
    failedOnce := s.sweep.failedOnce.filter fun p => !l.contains p } }

/-- A Pan that is to go back to HALTED is rewritten, its port synchronised and its self-test started (R377, R382). -/
def State.rewritePan (s : State) (p : Nat) : State :=
  let l := s.written
  ((s.updPan p fun q => writeSections l p (remapPan q)).routeSync [p]).startTests [p]

/-- The state that an apply leaves a Pan in: at ENTRY with an empty sequencer (R173, R329). -/
def haltPan (q : Pan) : Pan :=
  { stopEngines q with
    st := if q.ctx.isSome then .halted else .unassigned
    prior := none, ret := false, pc := q.entry, prefetch := [], blocked := none, debugHalt := false
    kcfgIssue := q.kcfg, koutIssue := q.kout }

/-- A Pan whose return is done: sync and self-test over. One that an image load is to write stays QUIESCED for it. -/
def State.settlePan (s : State) (p : Nat) : State :=
  let q := s.pan p
  let sync := s.fabric.sync.any fun y => y.pans.contains p
  if (q.st == .quiesced || q.st == .unassigned) && q.ret && !sync && !s.sweep.testing.contains p && !s.loadOwns p then s.updPan p haltPan else s
def State.settlePans (s : State) : State := (List.range 48).foldl State.settlePan s

/-- The receive mask of a Pan (R202): entries of its context that lead to it, RCHANs of its own shared-kind entries,
channel 63 while it is assigned. -/
def State.rxMaskOf (s : State) (p : Nat) : Nat :=
  let q := s.pan p
  match q.ctx with
  | none => 0
  | some c =>
    let toIt := (s.pansOf c).flatMap fun o => (s.pan o).routes.filterMap fun e =>
      if routeValid e.2 && routeKind e.2 == 0 && routeDest e.2 == p then some (routeDchan e.2) else none
    let own := q.routes.filterMap fun e => if routeValid e.2 && routeKind e.2 != 0 then some (routeRchan e.2) else none
    (toIt ++ own).foldl (fun v n => setBits v n n 1) (2 ^ 63)

/-- Step 3 and 4 of R204 once nothing is in flight. -/
def State.syncDone (s : State) : State :=
  match s.fabric.sync with
  | none => s
  | some y =>
    if s.fabric.inflight.any fun i => y.pans.contains i.src then s
    else
      let s := y.pans.foldl (fun s p =>
        let m := s.rxMaskOf p
        s.updPan p fun q => { q with routeCache := q.routes, routePending := [], rxMask := m }) s
      { s with fabric := { s.fabric with sync := none, syncCount := (s.fabric.syncCount + 1) % 2 ^ 32 } }

/-! ### A returning Pan (R197) -/

/-- CONTSTS data of the image for a Pan, written to its memory. -/
def constRecs : Nat → Bytes → List Bytes
  | 0, _ => []
  | n + 1, b =>
    if b.length < 24 then [] else
      let len := 24 + leAt b 12 4
      b.take len :: constRecs n (b.drop len)
def writeConsts (l : Option Loaded) (p : Nat) (q : Pan) : Pan :=
  match l with
  | none => q
  | some l => (constRecs l.consts.length l.consts).foldl (fun q r =>
      if bitOf (leAt r 0 8) p then panWrite q (leAt r 8 4) (r.drop 24) else q) q

/-- The assignment that a LAYOUT gives a Pan: its context and its NEED. -/
def layoutCtx (lay : Bytes) (p : Nat) : Option Nat :=
  if lay = [] ∨ 4 ≤ byteAt lay (4 * p) then none else some (byteAt lay (4 * p))
def layoutNeed (lay : Bytes) (p : Nat) : Nat := if lay = [] then 0 else leAt lay (4 * p + 2) 2

/-- The return Sweep of a Pan has ended (R197): below NEED it is retired again; otherwise it is rewritten from the image in
force and its port synchronised. -/
def State.returnSwept (s : State) (p : Nat) : State :=
  let q := s.pan p
  if q.st != .returning || s.sweep.targets.any (fun t => t.1 == p) then s
  else
    let l := s.written
    let lay := s.layout
    let need := layoutNeed lay p
    if (subsIn q).length < need then s.retirePan p
    else
      let s := s.bistEvent p 0xFF 0xFF 0xFF 0xFFFF 0xFF 0
      (s.updPan p fun q => writeConsts l p (writeSections l p (remapPan
        { q with ctx := layoutCtx lay p, need := need, mem := [], bad := [] }))).routeSync [p]

/-- A returned Pan whose ROUTE_SYNC has run goes to HALTED or UNASSIGNED. -/
def State.settleReturn (s : State) (p : Nat) : State :=
  let q := s.pan p
  if q.st == .returning && !(s.sweep.targets.any fun t => t.1 == p) && !(s.fabric.sync.any fun y => y.pans.contains p) &&
      !s.sweep.slice.any (fun l => l.pan == p) then
    let s := s.updPan p haltPan
    s.unitStateEvent 1 p 7 (panCode (s.pan p).st) (b2n q.suspect)
  else s

/-- The slice in progress ends (R654): `fails` are the rows that failed a test, `lost` the words of the subarray that read
uncorrectable, `corrected` the single-bit errors corrected; `scratch` says that the scratch buffer failed (R670). -/
def State.sliceEnds (s : State) (fails : List RowFail) (lost : List Nat) (corrected : Nat) (scratch : Bool) : State :=
  match s.sweep.slice with
  | none => s
  | some sl => if s.power.vddc != .good then s else (s.endSlice sl fails lost corrected scratch).returnSwept sl.pan

/-! ### Delivery at a Pan (R200, R202, R205) -/

/-- Reason to discard an item at a Pan; none where it is accepted. -/
def State.strayReason (s : State) (it : FabItem) : Option Nat :=
  let d := s.pan it.dest
  if d.st == .retired || d.st == .returning then some 2
  else if d.ctx != it.ctx then some 3
  else if !bitOf d.rxMask it.dchan then some 1
  else none

/-- A receive channel's buffer of 16 flits has room for an item (R199: otherwise it holds back its source). -/
def roomFor (q : Pan) (it : FabItem) : Bool :=
  decide (((rxOf q it.dchan).map fun i => flitsOf i.data).sum + flitsOf it.data ≤ 16)

/-- An item at its destination Pan; none while the channel has no room. -/
def State.deliverPan (s : State) (it : FabItem) : Option State :=
  match s.strayReason it with
  | some r => some (s.strayAt it.dest it r)
  | none =>
    if roomFor (s.pan it.dest) it then
      some (s.updPan it.dest fun q => pull (setRx q it.dchan (rxOf q it.dchan ++ [it])))
    else none

/-- ROUTE_PICKUP (R207). -/
def execRoutePickup (p : Fin 48) (chan : Fin 64) (s : State) : Host.Outcome State Fault Refusal :=
  s.done (s.updPan p fun q =>
    if q.routePending.contains chan then
      let r := (lookupN q.routes chan).getD 0
      { q with routePending := q.routePending.filter (· != chan)
               routeCache := if r = 0 then eraseN q.routeCache chan else insertN q.routeCache chan r }
    else q)

end Sys2Proof.Machine
end

