-- ==== Sys2Proof/Machine/ImageLoad.lean ====
section
/-! DEFINITION. The Ocrath image (IMG, R156 to R186): its checks and its apply. -/
namespace Sys2Proof.Machine

open Sys2Proof

/-! ### The file (R156, R157) -/

/-- Entries of the section table. -/
def imgCount (f : Bytes) : Nat := leAt f 10 2
def imgEnts (f : Bytes) : List Bytes := (List.range (imgCount f)).map fun i => slice f (144 + 64 * i) 64
def entType (e : Bytes) : Nat := byteAt e 0
def entCtx (e : Bytes) : Nat := byteAt e 1
def entLen (e : Bytes) : Nat := leAt e 4 4
def entDigest (e : Bytes) : Bytes := slice e 8 48
def entOff (e : Bytes) : Nat := leAt e 56 4
def entAbsent (e : Bytes) : Bool := bitOf (leAt e 60 4) 0
/-- The body of an entry. -/
def entBody (f e : Bytes) : Bytes := slice f (entOff e) (entLen e)

/-- The first entry of a type and context. -/
def findEnt (l : List Bytes) (typ c : Nat) : Option Bytes := l.find? fun e => entType e == typ && entCtx e == c

/-- The message that the signature covers (R159). -/
def imgMessage (f : Bytes) : Bytes :=
  f.take 128 ++ ((imgEnts f).filter fun e => entType e != 6).flatMap fun e => e.take 56

/-- A check of Table IMG-10 that fails: its status, detail and section. -/
structure ImgFail where
  status : Status
  detail : Nat
  sec : Nat := 0xFF

/-- The first failing check of a list. -/
def firstFail (l : List (Bool × ImgFail)) : Option ImgFail := (l.find? (·.1)).map (·.2)

def rejected (bad : Bool) (detail : Nat) (sec : Nat := 0xFF) : Bool × ImgFail :=
  (bad, { status := .imageRejected, detail := detail, sec := sec })

/-! ### Step 3 (Tables IMG-1 to IMG-3) -/

/-- The middle of the table: ROUTES and PROGRAMS of contexts in ascending order. -/
def pairsOk : Option Nat → List Bytes → Bool
  | _, [] => true
  | _, [_] => false
  | last, r :: p :: rest =>
    entType r == 3 && entType p == 4 && entCtx r == entCtx p && decide (entCtx r < 4) &&
      (match last with | some k => decide (k < entCtx r) | none => true) && pairsOk (some (entCtx r)) rest

/-- The list of sections follows Table IMG-3. -/
def tableOk (l : List Bytes) : Bool :=
  let n := l.length
  let mid := (l.drop 2).take (n - 4)
  decide (6 ≤ n) && decide (n ≤ 12) && (l.take 2).map entType == [1, 2] && pairsOk none mid &&
    (l.drop (n - 2)).map entType == [5, 6] &&
    ((l.take 2) ++ l.drop (n - 2)).all (fun e => entCtx e == 0xFF) &&
    l.all fun e =>
      match entType e with
      | 1 => entLen e == 512
      | 2 => entLen e == 320
      | 4 => decide (20 ≤ entLen e) && decide (entLen e ≤ 3146496)
      | 6 => entLen e == 96
      | _ => true

/-- Bodies present stand in file order, aligned and apart; an absent one has offset 0. -/
def offsetsOk : Nat → List Bytes → Bool
  | _, [] => true
  | pos, e :: rest =>
    if entAbsent e then entOff e == 0 && offsetsOk pos rest
    else entOff e % 64 == 0 && decide (pos ≤ entOff e) && offsetsOk (entOff e + entLen e) rest

/-- The bytes between the table and the first body, and between bodies, are zero. -/
def gapsZero (f : Bytes) : Nat → List Bytes → Bool
  | _, [] => true
  | pos, e :: rest =>
    if entAbsent e then gapsZero f pos rest
    else allZero (slice f pos (entOff e - pos)) && gapsZero f (entOff e + entLen e) rest

/-- The end of the last body. -/
def bodiesEnd (n : Nat) (l : List Bytes) : Nat := l.foldl (fun m e => if entAbsent e then m else max m (entOff e + entLen e)) n

/-- Bodies that a partial image of context c carries (R175). -/
def partialBody (c : Nat) (e : Bytes) : Bool := entType e == 6 || ((entType e == 3 || entType e == 4) && entCtx e == c)

/-- The header's bytes that a partial image shares with the image in force (R177): not IMAGE_VERSION, COMPILER_ID and
LAYOUT_BASIS. -/
def headerBasis (h : Bytes) : Bytes := slice h 0 12 ++ slice h 20 60

/-- R177 and the ABSENT flags of R175: the bodies of c's ROUTES and PROGRAMS are there. A full image has no absent body (R157); one
that has gets detail PARTIAL (DESIGN CHOICE, log entry 65: the spec names no detail for it). -/
def partialOk (loaded : Option Loaded) (c : Option Nat) (f : Bytes) : Bool :=
  let l := imgEnts f
  match c with
  | none => l.all fun e => !entAbsent e
  | some c =>
    match loaded with
    | none => false
    | some img =>
      let recs := (l.filter fun e => entType e != 6).map (·.take 56)
      (findEnt l 3 c).isSome && (findEnt l 4 c).isSome && l.all (fun e => entAbsent e == !partialBody c e) &&
        headerBasis f == headerBasis img.header && recs.length == img.records.length &&
        (recs.zip img.records).all fun x => x.1 == x.2 || (partialBody c x.1 && entType x.1 == entType x.2 && entCtx x.1 == entCtx x.2)

/-- The LAYOUT that a file goes with: its own, or of a partial image the one in force. -/
def fileLayout (lay0 f : Bytes) : Bytes :=
  match (imgEnts f).find? fun e => entType e == 2 with
  | some e => if entAbsent e then lay0 else entBody f e
  | none => lay0

/-- The Pans that a LAYOUT assigns to a context, ascending. -/
def layoutPans (b : Bytes) (c : Nat) : List Nat := (List.range 48).filter fun p => byteAt b (4 * p) == c

/-- The sections of LAYOUT's contexts are those of the table (R158), and ROUTES has its length (Table IMG-3). -/
def contextsMatch (lay : Bytes) (l : List Bytes) : Bool :=
  ((List.range 4).all fun c => (layoutPans lay c != []) == (findEnt l 3 c).isSome) &&
    l.all fun e => entType e != 3 || entLen e == 520 * (layoutPans lay (entCtx e)).length

/-- The checks of step 3. Which defect gives which detail, and that SECTION stays 0xFF here and in step 4, are the model's: FORMAT for
the fields that name the format and the device and for TABLE_OFFSET, TABLE for the list of sections, its lengths, its match with
LAYOUT and the offsets, RESERVED for reserved bytes and for the zeros between bodies, SIZE for the file's length (DESIGN CHOICE, log
entry 65). Bytes behind the last body may have any value: R156 asks for zeros before it alone (DESIGN CHOICE, log entry 65). -/
def step3 (loaded : Option Loaded) (c : Option Nat) (len : Nat) (f : Bytes) : Option ImgFail :=
  let l := imgEnts f
  let tableEnd := 144 + 64 * l.length
  firstFail [
    rejected (slice f 0 4 != [0x4F, 0x43, 0x52, 0x49] || leAt f 4 2 != 1 || leAt f 6 2 != 0x4100 || byteAt f 8 != 0xA0 ||
      leAt f 136 4 != 144) 1,
    rejected (!tableOk l) 2,
    rejected (!offsetsOk tableEnd l) 2,
    rejected (byteAt f 9 != 0 || !allZero (slice f 20 12) || leAt f 140 4 != 0 ||
      l.any fun e => leAt e 2 2 != 0 || leAt e 60 4 / 2 != 0) 3,
    rejected (!gapsZero f tableEnd l) 3,
    rejected (leAt f 128 8 != len || decide (2 ^ 29 < len) || decide (len < bodiesEnd tableEnd l)) 4,
    rejected (!partialOk loaded c f) 14,
    rejected (!contextsMatch (fileLayout (match loaded with | some l => l.layout | none => []) f) l) 2]

/-! ### Steps 4 and 5 -/

/-- The signature (R160). -/
def State.step4 (s : State) (f : Bytes) : Option ImgFail :=
  let key := s.keyhold.tenantKey.getD []
  let sig := match (imgEnts f).find? fun e => entType e == 6 with | some e => entBody f e | none => []
  firstFail [
    (slice f 32 48 != Crypto.sha384 key, { status := .sigFail, detail := 5 }),
    ((ecVerify Crypto.cP384 key (imgMessage f) sig).1 != .ok, { status := .sigFail, detail := 6 })]

/-- Digests of the bodies present, in table order (R183). -/
def step5 (f : Bytes) : Option ImgFail :=
  firstFail ((imgEnts f).zipIdx.map fun x =>
    rejected (!entAbsent x.1 && Crypto.sha384 (entBody f x.1) != entDigest x.1) 7 x.2)

/-! ### Step 6 -/

/-- A P-384 or Ed25519 roster key with zeros behind it. -/
def rosterKeyOk (typ : Nat) (k : Bytes) : Bool :=
  if typ = 1 then (edKeyCheck (k.take 32)).isNone && allZero (k.drop 32)
  else (pointCheck Crypto.cP384 (k.take 97)).isNone && allZero (k.drop 97)

/-- POLICY (R164), its detail POLICY or RESULT_KEY. -/
def policyBad (b : Bytes) : Bool :=
  let consent := leAt b 2 2
  let scope := leAt b 4 4
  let flags := leAt b 12 4
  let mn := leAt b 16 4
  let md := leAt b 20 4
  let xn := leAt b 24 4
  let xd := leAt b 28 4
  let level := byteAt b 208
  let parents := byteAt b 209
  let metric := byteAt b 200
  leAt b 0 2 != 1 || decide (4 ≤ consent) || decide (16 ≤ scope) || (!bitOf consent 0 && scope != 0) ||
    decide (2 ^ 24 < leAt b 8 4) || decide (128 ≤ flags) || md == 0 || xd == 0 || decide (xn * md < mn * xd) ||
    (bitOf flags 0 && mn == 0) || decide (leAt b 36 4 < leAt b 8 4) ||
    byteAt b 32 == 0 || decide (8 ≤ byteAt b 32) || byteAt b 33 == 0 || decide (4 ≤ byteAt b 33) ||
    decide (16 ≤ byteAt b 34) || !(byteAt b 35 == 1 || byteAt b 35 == 2) ||
    decide (leAt b 36 4 < 8) || decide (2 ^ 24 < leAt b 36 4) || leAt b 40 4 == 0 || decide (2 ^ 28 < leAt b 40 4) ||
    decide (leAt b 44 2 < 2) || decide (512 < leAt b 44 2) || decide (leAt b 46 2 < 2) || decide (leAt b 44 2 < leAt b 46 2) ||
    bitsOf flags 3 1 == 0 || bitsOf flags 6 5 == 0 ||
    level == 0 || decide (4 < parents) || (level == 1 && parents != 0) || (decide (2 ≤ level) && parents == 0) ||
    leAt b 48 2 != (if level = 1 then 0x20 else 0) || leAt b 50 2 != 0 || (level != 1 && !allZero (slice b 52 32)) ||
    !allZero (slice b 84 12) || !rosterKeyOk (byteAt b 35) (slice b 96 104) ||
    decide (2 < metric) || decide (2 < byteAt b 201) || ((metric == 0) != (byteAt b 201 == 0)) || leAt b 202 2 != 0 ||
    bitsOf (leAt b 204 4) 30 23 == 255 || !allZero (slice b 210 14) ||
    !allZero (slice b (224 + 48 * parents) (192 - 48 * parents)) || !allZero (slice b 416 96)
def resultKeyBad (b : Bytes) : Bool := byteAt b 208 == 1 && lowOrder (slice b 52 32)

/-- LAYOUT (R166). -/
def layoutBad (b : Bytes) : Bool :=
  ((List.range 48).any fun p =>
    let c := byteAt b (4 * p)
    let need := leAt b (4 * p + 2) 2
    !(decide (c < 4) || c == 0xFF) || byteAt b (4 * p + 1) != 0 ||
      (if c = 0xFF then need != 0 else need == 0 || decide (384 < need))) ||
  ((List.range 4).any fun c =>
    !allZero (slice b (212 + 32 * c) 12) ||
      (!(List.range 48).any (fun p => byteAt b (4 * p) == c) && !allZero (slice b (192 + 32 * c) 20))) ||
  decide (2296 < ((List.range 20).map fun j => layoutUnits b (j / 5) (j % 5)).sum)

/-- A route entry is malformed (R201) or leads to a Pan of another context (R168). -/
def routeBad (pans : List Nat) (r : Nat) : Bool :=
  if !routeValid r then r != 0
  else
    let k := routeKind r
    let d := routeDest r
    let ch := routeDchan r
    bitsOf r 62 60 != 0 || bitsOf r 35 0 != 0 || decide (4 < k) ||
      (if k = 0 then !pans.contains d || routeRchan r != 0
       else if k = 1 then decide (3 < d) || decide (1 < ch)
       else if k = 2 then decide (1 < d) || ch != 0
       else d != 0 || decide (2 < ch))

/-- ROUTES of a context (R168). -/
def routesBad (pans : List Nat) (b : Bytes) : Bool :=
  let recs := (List.range (b.length / 520)).map fun i => slice b (520 * i) 520
  recs.map (fun r => byteAt r 0) != pans || b.length != 520 * pans.length ||
    recs.any fun r => byteAt r 1 != 64 || !allZero (slice r 2 6) ||
      (List.range 64).any fun n => routeBad pans (leAt r (8 + 8 * n) 8)

/-- PROGRAMS of a context (R169). -/
def programsBad (pans : List Nat) (b : Bytes) : Bool :=
  let recs := programRecs (b.length / 16) b
  let masks := recs.map fun r => leAt r 0 8
  let named := masks.flatMap fun m => (List.range 64).filter (bitOf m)
  (recs.map List.length).sum != b.length ||
    recs.any (fun r => leAt r 8 4 == 0 || decide (16384 < leAt r 8 4) || decide (leAt r 8 4 ≤ leAt r 12 4) ||
      r.length != 16 + 4 * leAt r 8 4 || decide (2 ^ 48 ≤ leAt r 0 8)) ||
    named.length != pans.length || !pans.all named.contains

/-- Two CONSTS records overlap in a Pan. -/
def constsClash : List Bytes → Bool
  | [] => false
  | r :: rest =>
    (rest.any fun t => Nat.land (leAt r 0 8) (leAt t 0 8) != 0 &&
      decide (leAt r 8 4 < leAt t 8 4 + leAt t 12 4) && decide (leAt t 8 4 < leAt r 8 4 + leAt r 12 4)) || constsClash rest

/-- CONSTS (R170). -/
def constsBad (lay b : Bytes) : Bool :=
  let recs := constRecs b.length b
  (recs.map List.length).sum != b.length ||
    recs.any (fun r =>
      let m := leAt r 0 8
      let off := leAt r 8 4
      let len := leAt r 12 4
      decide (2 ^ 48 ≤ m) || off % 32 != 0 || len == 0 || len % 32 != 0 || !allZero (slice r 16 8) || r.length != 24 + len ||
        (List.range 48).any fun p => bitOf m p && (byteAt lay (4 * p) == 0xFF || decide (leAt lay (4 * p + 2) 2 * 16384 < off + len))) ||
    constsClash recs

/-- Step 6: the bodies present, in file order. -/
def step6 (lay0 : Bytes) (f : Bytes) : Option ImgFail :=
  let l := imgEnts f
  let lay := fileLayout lay0 f
  firstFail (l.zipIdx.flatMap fun x =>
    let e := x.1
    let b := entBody f e
    if entAbsent e then []
    else
      match entType e with
      | 1 => [rejected (policyBad b) 8 x.2, rejected (resultKeyBad b) 9 x.2]
      | 2 => [rejected (layoutBad b) 10 x.2]
      | 3 => [rejected (routesBad (layoutPans lay (entCtx e)) b) 11 x.2]
      | 4 => [rejected (programsBad (layoutPans lay (entCtx e)) b) 12 x.2]
      | 5 => [rejected (constsBad lay b) 13 x.2]
      | _ => [])

/-! ### Step 7 (R167) -/

/-- LAYOUT against the partition layout in force; a RETURNING Pan is not in service. FENCED counts as retired (R548). -/
def State.step7 (s : State) (lay : Bytes) : Option ImgFail :=
  let used := (List.range 48).filter fun p => byteAt lay (4 * p) != 0xFF
  let out := ((List.range 128).filter fun i => (s.pc i).st != 0).length
  let units := ((List.range 20).map fun j => layoutUnits lay (j / 5) (j % 5)).sum
  let bad (b : Bool) (d : Nat) : Bool × ImgFail := (b, { status := .layoutConflict, detail := d, sec := 1 })
  firstFail [
    bad (used.any fun p => (s.pan p).st == .retired || (s.pan p).st == .returning) 0x10,
    bad (used.any fun p => decide (384 - (s.pan p).retiredSubs.length < leAt lay (4 * p + 2) 2)) 0x11,
    bad (decide (2296 < units + 18 * out)) 0x12]

/-! ### The image block -/

/-- The state that IMG_STATE shows outside a load. -/
def restState (i : Image) : Nat := if i.loaded.isSome then 2 else 0

/-- An image command ends: IMG_STATUS, and the completion unless its host is gone. -/
def State.endLoad (s : State) (pf : Nat) (status : Status) (detail sec : Nat) (orphan : Bool) : State :=
  let i := s.img
  let s := { s with img := { i with
    st := restState i, load := none, next := none, status := statusCode status, detail := detail, section_ := sec } }
  if orphan then s else s.finish pf status [BitVec.ofNat 8 detail, BitVec.ofNat 8 sec]

/-- Step 1 of an image command (R171, R176, Table IMG-9); none where it runs. -/
def State.imgGate (s : State) (c : Option Nat) : Option Status :=
  if s.dev.st == .untenanted then some .refused
  else if s.img.load.isSome || s.car.formed then some .busy
  else
    match c with
    | none => if s.dev.st == .running then some .busy else none
    | some c =>
      if s.img.loaded.isNone then some .refused
      else if (s.ctx c).st != .closed then some .busy
      else none

/-- An image command that fails in step 1 (detail STATE), or before its transfer. A load already in service goes on, and IMG_STATUS
stays its own: the command refused meanwhile leaves it unwritten (DESIGN CHOICE, log entry 65). -/
def State.endLoadGate (s : State) (pf : Nat) (st : Status) : State :=
  let d := if st = .paused then 0x0F else 0x20
  let s := if s.img.load.isSome then s
    else { s with img := { s.img with status := statusCode st, detail := d, section_ := 0xFF } }
  s.finish pf st [BitVec.ofNat 8 d, 0xFF]

/-- Steps 1 and 2 begin: the file is to be read from the host. The flag says whether the DMA is wanted. -/
def State.beginLoad (s : State) (pf len : Nat) (c : Option Nat) : State × Bool :=
  match s.imgGate c with
  | some st => (s.endLoadGate pf st, false)
  | none =>
    let ld : ImgLoad := { pf := pf, partialCtx := c, len := len, file := [], phase := 0 }
    let s := { s with img := { s.img with st := if c.isSome then 3 else 1, target := c.getD s.img.target, load := some ld } }
    if 2 ^ 29 < len then (s.endLoad pf .imageRejected 4 0xFF false, false) else (s, true)

/-- The file has been copied into the staging region. -/
def State.stageFile (s : State) (data : Bytes) : State :=
  match s.img.load with
  | none => s
  | some ld => { s with img := { s.img with load := some { ld with file := padTo ld.len data, phase := 1 } } }

/-- The Pans that an apply writes. -/
def State.applyPans (s : State) (c : Option Nat) : List Nat :=
  let l : List Nat := match c with | some c => s.pansOf c | none => List.range 48
  l.filter fun p => (s.pan p).st != .retired && (s.pan p).st != .returning

/-- The first check of steps 3 to 7 that fails for a staged file (Table IMG-10). -/
def State.imageFail (s : State) (ld : ImgLoad) : Option ImgFail :=
  let f := ld.file
  let lay := match ld.partialCtx with
    | some _ => s.layout
    | none => match (imgEnts f).find? fun e => entType e == 2 with | some e => entBody f e | none => []
  (step3 s.img.loaded ld.partialCtx ld.len f).or ((s.step4 f).or ((step5 f).or ((step6 s.layout f).or (s.step7 lay))))

/-- IMAGE_STAGED (R172): steps 3 to 7, and the quiesce requests of step 8. -/
def State.imageStaged (s : State) : State :=
  match s.img.load with
  | none => s
  | some ld =>
    if ld.phase ≠ 1 then s
    else
      match s.imageFail ld with
      | some e => s.endLoad ld.pf e.status e.detail e.sec ld.orphan
      | none =>
        let s := (s.applyPans ld.partialCtx).foldl (fun s p => s.updPan p (quiescePan false)) s
        { s with img := { s.img with load := some { ld with phase := 2 } } }

/-- The bodies and records of a file as the image in force, ROUTES and PROGRAMS of other contexts taken over for a
partial load. -/
def loadedOf (old : Option Loaded) (c : Option Nat) (f : Bytes) : Loaded :=
  let l := imgEnts f
  let body (typ k : Nat) : Bytes := match findEnt l typ k with | some e => entBody f e | none => []
  let recs := (l.filter fun e => entType e != 6).map (·.take 56)
  let sect (typ : Nat) : List (Nat × Bytes) :=
    (l.filter fun e => entType e == typ && !entAbsent e).map fun e => (entCtx e, entBody f e)
  let pol := match findEnt l 1 0xFF with | some e => entDigest e | none => []
  match c, old with
  | some c, some o =>
    { o with
      header := f.take 144, records := recs
      routes := insertN o.routes c (body 3 c), programs := insertN o.programs c (body 4 c)
      meas := Crypto.sha384 (imgMessage f), polMeas := pol }
  | _, _ =>
    { header := f.take 144, records := recs, policy := body 1 0xFF, layout := body 2 0xFF, routes := sect 3,
      programs := sect 4, consts := body 5 0xFF, meas := Crypto.sha384 (imgMessage f), polMeas := pol }

/-- The sealed result of each RELEASED context in its STAGING partition, where a rebuild or another LAYOUT has moved that (R171,
R541). -/
def State.carryResults (s : State) : State :=
  (List.range 4).foldl (fun s c =>
    if (s.ctx c).st == .released then s.storeWrite (s.partBase c 0) (s.ctx c).result else s) s

/-- Partitions whose placement or size a new LAYOUT changes are emptied, and the weights in them leave the evidence; sealed results
are carried over (R173, R541). -/
def State.placePartitions (s : State) (new : Bytes) : State :=
  let old := s.img.placed
  let moved := (List.range 20).filter fun j =>
    let c := j / 5
    let k := j % 5
    old == [] || layoutFirst old c k != layoutFirst new c k || layoutUnits old c k != layoutUnits new c k
  let free (s : State) (lay : Bytes) : State := moved.foldl (fun s j =>
    s.storeFree (layoutFirst lay (j / 5) (j % 5) * unitBytes) (layoutUnits lay (j / 5) (j % 5) * unitBytes)) s
  let s := free (free s old) new
  ({ s with blobs := s.blobs.filter fun b => !moved.contains (5 * b.1 + 3), img := { s.img with placed := new } }).carryResults

/-- The writes of a full apply (R173, steps 2 to 5). The image before it is gone (R181); the new one is in force from step 9 on. -/
def State.writeFull (s : State) (f : Bytes) : State :=
  let l := loadedOf none none f
  let s := (s.rebuildStripe).placePartitions l.layout
  let s := { s with img := { s.img with loaded := none, next := some l } }
  let pans := s.applyPans none
  let s := (List.range 48).foldl (fun s p => s.updPan p fun q =>
    let q := { q with ctx := layoutCtx l.layout p, need := layoutNeed l.layout p, mem := [], bad := [] }
    if q.st == .retired || q.st == .returning then q
    else { writeConsts (some l) p (writeSections (some l) p (remapPan q)) with ret := true }) s
  (s.routeSync pans).startTests pans

/-- The writes of a partial apply (R178). Measurement, version and digests stay those of the image in force until step 9 (R179). -/
def State.writePartial (s : State) (c : Nat) (f : Bytes) : State :=
  let l := loadedOf s.img.loaded (some c) f
  let s := { s with img := { s.img with next := some l } }
  let pans := s.applyPans (some c)
  let s := pans.foldl (fun s p => s.updPan p fun q => { writeSections (some l) p (remapPan q) with ret := true }) s
  (s.routeSync pans).startTests pans

/-- The recheck of step 9 has failed (R181): nothing of the new image is published, and of the old one only what was not written over
stands. -/
def State.dropImage (s : State) (c : Option Nat) : State :=
  match c with
  | none =>
    let s := { s with img := { s.img with loaded := none, next := none } }
    (List.range 48).foldl (fun s p => s.updPan p fun q =>
      let q := { q with ctx := none, need := 0, imem := [], routes := [], entry := 0 }
      if q.st == .halted || q.st == .quiesced then { q with st := .unassigned, prior := none, ret := false } else q) s
  | some c =>
    let l := s.img.loaded.map fun l => { l with routes := eraseN l.routes c, programs := eraseN l.programs c }
    let s := { s with img := { s.img with loaded := l, next := none } }
    (s.pansOf c).foldl (fun s p => s.updPan p fun q => { q with imem := [], routes := [], entry := 0, pc := 0 }) s

/-- The rest of an apply once its writes, ROUTE_SYNC and self-tests are over: R167 is checked again, then the measurement
is published (step 9). A recheck that fails by PAN_NEED or STORE_SPACE reports detail RETIRED_PAN and LAYOUT's index too, the one
detail that Table IMG-10 gives it (DESIGN CHOICE, log entry 65). -/
def State.publish (s : State) (ld : ImgLoad) : State :=
  let s := s.settlePans
  match s.step7 s.layout with
  | some _ => (s.dropImage ld.partialCtx).endLoad ld.pf .layoutConflict 0x10 1 ld.orphan
  | none =>
    let i := s.img
    let s := { s with img := { i with
      loaded := s.written, next := none
      full := if ld.partialCtx.isNone then satAdd 16 i.full 1 else i.full
      partial_ := if ld.partialCtx.isSome then satAdd 16 i.partial_ 1 else i.partial_ } }
    s.endLoad ld.pf .ok 0 0xFF ld.orphan

/-- IMAGE_APPLY (R173, R178, R181): the writes once every Pan is QUIESCED; then, with ROUTE_SYNC drained and the self-tests
over, the end of the load. -/
def State.imageApply (s : State) : State :=
  match s.img.load with
  | none => s
  | some ld =>
    let pans := s.applyPans ld.partialCtx
    if ld.phase = 2 then
      if pans.all fun p => (s.pan p).st == .quiesced || ((s.pan p).st == .unassigned && !s.sweep.slice.any fun l => l.pan == p) then
        let s := match ld.partialCtx with
          | none => s.writeFull ld.file
          | some c => s.writePartial c ld.file
        { s with img := { s.img with load := some { ld with phase := 3 } } }
      else s
    else if ld.phase = 3 then
      if s.fabric.sync.isSome || pans.any s.sweep.testing.contains then s else s.publish ld
    else s

/-- A load in progress is aborted (R184, R186): PREEMPTED, detail ABORTED. -/
def State.abortLoad (s : State) (orphan : Bool) : State :=
  match s.img.load with
  | none => s
  | some ld => s.endLoad ld.pf .preempted 0x22 0xFF (orphan || ld.orphan)

/-- PF0 is reset during a load (R184): steps 1 to 7 are aborted, an apply that has begun runs on without its host. -/
def State.loadReset (s : State) : State :=
  match s.img.load with
  | none => s
  | some ld =>
    if ld.phase < 2 then s.abortLoad true
    else { s with img := { s.img with load := some { ld with orphan := true } } }

/-! ### Quiescing (R182, R194) -/

/-- PAN_QUIESCED: the conditions of R194 are met. A Pan that is to retire does so (R193); one that a void or a close returns is
rewritten. -/
def State.panQuiesced (s : State) (p : Nat) : State :=
  let q := s.pan p
  if q.prior.isNone || !(q.st == .quiescing || q.st == .halted || q.st == .trapped) || !s.portIdle p ||
      s.sweep.slice.any (fun l => l.pan == p) then s
  else
    let s := s.updPan p fun q => { q with st := .quiesced }
    if q.retiring then s.retireNow p
    else if q.ret && !s.loadOwns p then s.rewritePan p else s

/-- QUIESCE_TIMEOUT (R182, R343): 10 ms have gone by and the Pan goes back to its previous state. An image load ends with BUSY,
and its other Pans go back too but for those that are QUIESCED, which stay so. -/
def State.quiesceTimeout (s : State) (p : Nat) : State :=
  let q := s.pan p
  if q.prior.isNone || q.st == .quiesced then s
  else
    match s.loadOwns p, s.img.load with
    | true, some ld =>
      let s := (s.applyPans ld.partialCtx).foldl (fun s p => if (s.pan p).ret then s else s.updPan p unquiescePan) s
      (s.endLoad ld.pf .busy 0x21 0xFF ld.orphan).settlePans
    | _, _ => s.updPan p fun q => { unquiescePan q with ret := false }

end Sys2Proof.Machine
end

