-- ==== Sys2Proof/Machine/Debug.lean ====
section
/-! DEFINITION. The operations of DBG_CMD (ATT, R528, R535 and the DBG block; CHG, R201, R207). -/
namespace Sys2Proof.Machine

open Sys2Proof

/-- The Pan that DBG_SEL selects. -/
def State.dbgPan (s : State) : Nat := bitsOf (s.reg .dbgSel 0) 5 0

/-- The result of an operation in DBG_STAT. -/
def State.dbgEnd (s : State) (st : Status) : State := { s with dbg := { s.dbg with status := statusCode st } }

/-- The scope bit that an operation needs (Table ATT-9): 1 READ, 2 HALT, 3 STEP, 4 RESUME, 5 ROUTE_WRITE. -/
def dbgScope (op : Nat) : Nat := if op = 1 then 2 else if op = 5 then 1 else 3

/-- Sequencer state by DBG_ADDR. -/
def seqState (q : Pan) (a : Nat) : Nat :=
  if a < 32 then gReg q a
  else if a = 32 then q.pc
  else if a = 33 then (List.range 8).foldl (fun v n => v + b2n (pReg q n) * 2 ^ n) 0
  else q.nstat % 2 ^ 16 + q.cstat % 2 ^ 8 * 2 ^ 16

/-- A word of Pan memory into DBG_DATA, with the upsets that its command names; a word that fails twice gives no data
(R210). -/
def State.dbgWord (s : State) (p a : Nat) (ups : List (Nat × Upset)) : State :=
  match failingIn (s.pan p) ups a 8 with
  | [] =>
    let s := (upsetsIn ups a 8).foldl (fun s u => s.meetUpset p 0 u) s
    ({ s with dbg := { s.dbg with data := leNat (Memory.readN (s.pan p).mem a 8) } }).dbgEnd .ok
  | w :: ws => (s.panLost p (w :: ws) none 0).dbgEnd .uncorrectable

/-- READ: Pan memory or sequencer state. A word of a subarray that Sweep holds is read when the slice has ended (R209). -/
def State.dbgRead (s : State) (ups : List (Nat × Upset)) : State :=
  let p := s.dbgPan
  let q := s.pan p
  let a := s.reg .dbgAddr 0
  if q.st == .retired then s.dbgEnd .refused
  else if bitOf (s.reg .dbgSel 0) 8 then
    if 34 < a then s.dbgEnd .refused
    else ({ s with dbg := { s.dbg with data := seqState q a } }).dbgEnd .ok
  else if panBytes q ≤ a ∨ a % 8 ≠ 0 then s.dbgEnd .refused
  else if s.held p a 8 then { s with sweep := { s.sweep with held := s.sweep.held ++ [.debugRead p a ups] } }
  else s.dbgWord p a ups

/-- HALT: at the next instruction boundary issue stops; a Pan that quiesces, or is retired or returning, is BUSY (R535). -/
def State.dbgHalt (s : State) : State :=
  let p := s.dbgPan
  match (s.pan p).st with
  | .quiescing | .quiesced | .retired | .returning => s.dbgEnd .busy
  | _ => (s.updPan p fun q => { q with debugHalt := true }).dbgEnd .ok

/-- STEP: one instruction of a debug-halted Pan. An instruction that has to wait is not issued (DESIGN CHOICE, log entry
40); a Pan that is not debug-halted refuses. -/
def State.dbgStep (s : State) : State :=
  let p := s.dbgPan
  let q := s.pan p
  if q.st == .retired || !q.debugHalt then s.dbgEnd .refused
  else (s.issueAny p ((fetched q).headD 0) true).dbgEnd .ok

/-- RESUME. -/
def State.dbgResume (s : State) : State :=
  let p := s.dbgPan
  if (s.pan p).st == .retired then s.dbgEnd .refused
  else (s.updPan p fun q => { q with debugHalt := false }).dbgEnd .ok

/-- ROUTE_WRITE: a route entry of the selected Pan, picked up by its port within 2 µs (R207). -/
def State.dbgRouteWrite (s : State) (n : Nat) : State :=
  let p := s.dbgPan
  let q := s.pan p
  let r := s.reg .dbgRoute 0
  if q.st == .retired || routeBad (List.range 48) r then s.dbgEnd .refused
  else
    (s.updPan p fun q => { q with
      routes := if r = 0 then eraseN q.routes n else insertN q.routes n r
      routePending := (q.routePending.filter (· != n)) ++ [n] }).dbgEnd .ok

/-- An operation written to DBG_CMD: without its scope it does nothing. -/
def State.dbgOp (s : State) (op entry : Nat) (ups : List (Nat × Upset)) : State :=
  if !bitOf s.dbg.scope (dbgScope op) then s.dbgEnd .policyForbids
  else
    match op with
    | 1 => s.dbgRead ups
    | 2 => s.dbgHalt
    | 3 => s.dbgStep
    | 4 => s.dbgResume
    | 5 => s.dbgRouteWrite entry
    | _ => s

/-- The driver's write of DBG_CMD through PF0's BAR2, the one path to the block. -/
def State.dbgCmd (s : State) (op entry : Nat) (ups : List (Nat × Upset)) : State :=
  if s.reaches (.host 0) .bar2 then s.dbgOp op entry ups else s

/-- DBG_READ (R528). -/
def execDbgRead (ups : List (Nat × Upset)) (s : State) : Host.Outcome State Fault Refusal := s.done (s.dbgCmd 1 0 ups)

/-- DBG_HALT (R535). -/
def execDbgHalt (s : State) : Host.Outcome State Fault Refusal := s.done (s.dbgCmd 2 0 [])

/-- DBG_RESUME (R528). -/
def execDbgResume (s : State) : Host.Outcome State Fault Refusal := s.done (s.dbgCmd 4 0 [])

/-- DBG_ROUTE_WRITE (R201, R207). -/
def execDbgRouteWrite (entry : Fin 64) (s : State) : Host.Outcome State Fault Refusal := s.done (s.dbgCmd 5 entry [])

end Sys2Proof.Machine
end

