-- ==== Sys2Proof/Machine/Der.lean ====
section
/-! DEFINITION. The alias certificate (ATT, R514, R677) in DER. -/
namespace Sys2Proof.Machine

open Sys2Proof (Byte Bytes)

/-- The bytes of a number, most significant first, without leading zeros; one zero byte for 0. -/
def natBytes (n : Nat) : Bytes := beBytes (max 1 ((if n = 0 then 0 else n.log2 + 8) / 8)) n

/-- A DER length. -/
def derLen (n : Nat) : Bytes :=
  if n < 128 then [BitVec.ofNat 8 n] else BitVec.ofNat 8 (128 + (natBytes n).length) :: natBytes n

/-- A DER element. -/
def der (tag : Byte) (body : Bytes) : Bytes := tag :: derLen body.length ++ body

def derSeq (l : List Bytes) : Bytes := der 0x30 l.flatten
def derOid (l : Bytes) : Bytes := der 0x06 l
/-- A non-negative INTEGER. -/
def derInt (n : Nat) : Bytes :=
  let b := natBytes n
  der 0x02 (if 128 ≤ byteAt b 0 then 0 :: b else b)
def derBits (b : Bytes) : Bytes := der 0x03 (0 :: b)
def derOctets (b : Bytes) : Bytes := der 0x04 b
def derUtf8 (s : String) : Bytes := der 0x0C (ascii s)

/-- ecdsa-with-SHA384, without parameters. -/
def algEcdsa384 : Bytes := derSeq [derOid [0x2A, 0x86, 0x48, 0xCE, 0x3D, 0x04, 0x03, 0x03]]

/-- Lowercase hexadecimal digits of bytes, as ASCII. -/
def hexAscii (bs : Bytes) : Bytes :=
  bs.flatMap fun b => [b.toNat / 16, b.toNat % 16].map fun d => BitVec.ofNat 8 (if d < 10 then 48 + d else 87 + d)

/-- One relative distinguished name of one attribute. -/
def derRdn (oid value : Bytes) : Bytes := der 0x31 (derSeq [derOid oid, value])

/-- An extension. -/
def derExt (oid : Bytes) (critical : Bool) (value : Bytes) : Bytes :=
  derSeq ([derOid oid] ++ (if critical then [der 0x01 [0xFF]] else []) ++ [derOctets value])

/-- The DiceTcbInfo of R514: vendor, model, layer and four firmware digests. -/
def tcbInfo (fwids : List Bytes) : Bytes :=
  derSeq [der 0x80 (ascii "Scellavin"), der 0x81 (ascii "VZ4100"), der 0x84 [0],
    der 0xA6 (fwids.flatMap fun d =>
      derSeq [derOid [0x60, 0x86, 0x48, 0x01, 0x65, 0x03, 0x04, 0x02, 0x02], derOctets d])]

/-- The TBSCertificate of the alias certificate for an alias public key. -/
def aliasTbs (pub : Bytes) (fwids : List Bytes) : Bytes :=
  let h := Crypto.sha384 pub
  let serial := setBits (beNat (h.take 16)) 127 126 1
  derSeq [
    der 0xA0 (derInt 2), derInt serial, algEcdsa384, Config.identitySubject,
    derSeq [Config.identityNotBefore, der 0x18 (ascii "99991231235959Z")],
    derSeq [derRdn [0x55, 0x04, 0x03] (derUtf8 "VZ4100 alias"), derRdn [0x55, 0x04, 0x05] (der 0x13 (hexAscii (h.take 32)))],
    derSeq [derSeq [derOid [0x2A, 0x86, 0x48, 0xCE, 0x3D, 0x02, 0x01], derOid [0x2B, 0x81, 0x04, 0x00, 0x22]], derBits pub],
    der 0xA3 (derSeq [
      derExt [0x55, 0x1D, 0x13] true (derSeq []),
      derExt [0x55, 0x1D, 0x0F] true (der 0x03 [0x07, 0x80]),
      derExt [0x55, 0x1D, 0x23] false (derSeq [der 0x80 Config.identitySki]),
      derExt [0x55, 0x1D, 0x0E] false (derOctets (h.take 20)),
      derExt [0x67, 0x81, 0x05, 0x05, 0x04, 0x01] false (tcbInfo fwids)])]

/-- A certificate from its TBSCertificate and a 96-byte ECDSA signature. -/
def derCert (tbs sig : Bytes) : Bytes :=
  derSeq [tbs, algEcdsa384, derBits (derSeq [derInt (beAt sig 0 48), derInt (beAt sig 48 48)])]

end Sys2Proof.Machine
end

