-- ==== Sys2Proof/Machine/Frames.lean ====
section
/-! DEFINITION. Frames of the Inlets (INL, R411 to R421, R431): parsing what a port receives, building what it sends. -/
namespace Sys2Proof.Machine

open Sys2Proof

/-! ### Check values -/

/-- The CRC-32 of an Ethernet frame (IEEE 802.3). -/
def crc32 (bs : Bytes) : Nat :=
  bs.foldl (fun c b =>
    (List.range 8).foldl (fun c _ => if bitOf c 0 then c / 2 ^^^ 0xEDB88320 else c / 2) (c ^^^ b.toNat)) (2 ^ 32 - 1) ^^^
    (2 ^ 32 - 1)

/-- The sum of 16-bit big-endian words, the last byte padded. -/
def sum16 : Bytes → Nat
  | [] => 0
  | [a] => a.toNat * 256
  | a :: b :: r => a.toNat * 256 + b.toNat + sum16 r

/-- The Internet checksum of a byte string whose words sum to `n`. -/
def inetCheck (n : Nat) : Nat :=
  let a := n % 65536 + n / 65536
  0xFFFF - (a % 65536 + a / 65536)

/-! ### Sending (R413, R414, R431) -/

/-- An Ethernet frame: padded to 60 bytes, with its FCS. -/
def ethFrame (dst src : Bytes) (tag : Option Nat) (typ : Nat) (body : Bytes) : Bytes :=
  let t := match tag with | some v => [0x81, 0x00] ++ beBytes 2 v | none => []
  let f := padTo 6 dst ++ padTo 6 src ++ t ++ beBytes 2 typ ++ body
  let f := f ++ List.replicate (60 - f.length) 0
  f ++ leBytes 4 (crc32 f)

/-- An IPv4 packet (R431). -/
def ipv4Packet (src dst : Bytes) (dscp proto : Nat) (body : Bytes) : Bytes :=
  let h (c : Nat) : Bytes := [0x45, BitVec.ofNat 8 (dscp * 4)] ++ beBytes 2 (20 + body.length) ++ [0, 0, 0x40, 0, 64, BitVec.ofNat 8 proto] ++
    beBytes 2 c ++ src ++ dst
  h (inetCheck (sum16 (h 0))) ++ body

/-- An IPv6 packet (R431). -/
def ipv6Packet (src dst : Bytes) (dscp next hop : Nat) (body : Bytes) : Bytes :=
  beBytes 4 (6 * 2 ^ 28 + dscp % 64 * 2 ^ 22) ++ beBytes 2 body.length ++ [BitVec.ofNat 8 next, BitVec.ofNat 8 hop] ++ src ++ dst ++ body

/-- The sum of the pseudo-header of UDP or ICMPv6. -/
def pseudoSum (src dst : Bytes) (proto len : Nat) : Nat := sum16 src + sum16 dst + proto + len

/-- A UDP datagram with its checksum; one that computes to zero is sent as ones. -/
def udpDatagram (src dst : Bytes) (sport dport : Nat) (body : Bytes) : Bytes :=
  let n := 8 + body.length
  let h (c : Nat) : Bytes := beBytes 2 sport ++ beBytes 2 dport ++ beBytes 2 n ++ beBytes 2 c ++ body
  let c := inetCheck (pseudoSum src dst 17 n + sum16 (h 0))
  h (if c = 0 then 0xFFFF else c)

/-- An IP packet back to where a frame came from. -/
def ipReply (a : ReplyAddr) (proto hop : Nat) (body : Bytes) : Bytes :=
  ethFrame a.smac a.dmac a.tag (if a.v6 then 0x86DD else 0x0800)
    (if a.v6 then ipv6Packet a.dst a.src a.dscp proto hop body else ipv4Packet a.dst a.src a.dscp proto body)

/-- A Vezil reply to a frame (R431). -/
def udpReply (a : ReplyAddr) (payload : Bytes) : Bytes :=
  ipReply a 17 64 (udpDatagram a.dst a.src a.dport a.sport payload)

/-! ### Receiving (R412, R413) -/

/-- What a received Ethernet frame carries. -/
structure EthIn where
  dst : Bytes
  src : Bytes
  tag : Option Nat
  typ : Nat
  body : Bytes

/-- A frame from destination address to FCS, with at most one tag, of TPID 0x8100. None for any other tagging. -/
def ethParse (f : Bytes) : Option EthIn :=
  let typ := beAt f 12 2
  let tpid (t : Nat) : Bool := t == 0x8100 || t == 0x88A8 || t == 0x9100 || t == 0x9200
  let cut (n : Nat) : Bytes := (f.take (f.length - 4)).drop n
  if typ == 0x8100 then
    if tpid (beAt f 16 2) then none
    else some { dst := f.take 6, src := slice f 6 6, tag := some (beAt f 14 2), typ := beAt f 16 2, body := cut 18 }
  else if tpid typ then none
  else some { dst := f.take 6, src := slice f 6 6, tag := none, typ := typ, body := cut 14 }

/-- The addresses of a port, as its registers hold them (R412, R413). -/
def State.mac6 (s : State) (q : Nat) : Bytes := beBytes 6 (s.macOf q)
def State.ip4 (s : State) (q : Nat) : Bytes := beBytes 4 (s.reg .inlIpv4 q)
def State.ip6 (s : State) (q : Nat) : Bytes := [Reg.inlIpv60, .inlIpv61, .inlIpv62, .inlIpv63].flatMap fun r => beBytes 4 (s.reg r q)
def State.ip4On (s : State) (q : Nat) : Bool := bitOf (s.reg .inlPctl q) 1 && s.reg .inlIpv4 q != 0
def State.ip6On (s : State) (q : Nat) : Bool := bitOf (s.reg .inlPctl q) 2 && !allZero (s.ip6 q)

/-- The solicited-node multicast MAC address of the port. -/
def State.solicited (s : State) (q : Nat) : Bytes := [0x33, 0x33, 0xFF] ++ (s.ip6 q).drop 13

/-- Step 1 of Table INL-7 (R412): `good` is false for a frame with an uncorrectable codeword. -/
def State.l2Ok (s : State) (q : Nat) (f : Bytes) (good : Bool) : Option EthIn :=
  if !good || f.length < 64 || decide (9022 < f.length) || leNat (f.drop (f.length - 4)) != crc32 (f.take (f.length - 4)) then none
  else
    match ethParse f with
    | none => none
    | some e =>
      let pvid := s.reg .inlPvid q
      let tagOk := match e.tag with
        | some t => bitOf pvid 12 && t % 4096 == bitsOf pvid 11 0
        | none => !bitOf pvid 12
      let nd := e.typ == 0x86DD && byteAt e.body 6 == 58 && byteAt e.body 40 == 135
      let addr := e.dst == s.mac6 q || (e.dst == List.replicate 6 0xFF && e.typ == 0x0806) || (e.dst == s.solicited q && nd)
      if tagOk && addr then some e else none

/-- The addresses that a port answers to. -/
structure NetAddr where
  mac : Bytes
  ip4 : Bytes
  ip6 : Bytes
  on4 : Bool
  on6 : Bool

/-- An Inlet port's. -/
def State.net (s : State) (q : Nat) : NetAddr :=
  { mac := s.mac6 q, ip4 := s.ip4 q, ip6 := s.ip6 q, on4 := s.ip4On q, on6 := s.ip6On q }

/-- The IP packet in a frame, for the port: addresses, DSCP, protocol and payload. None where R413 does not accept it; the
destination of a Neighbour Solicitation may be the solicited-node address. -/
def ipIn (na : NetAddr) (e : EthIn) : Option (ReplyAddr × Nat × Bytes) :=
  let b := e.body
  let a : ReplyAddr := { smac := e.src, dmac := e.dst, tag := e.tag }
  if e.typ == 0x0800 then
    let n := beAt b 2 2
    if byteAt b 0 != 0x45 || n < 20 || decide (b.length < n) || bitsOf (beAt b 6 2) 13 0 != 0 || inetCheck (sum16 (slice b 0 20)) != 0 ||
        !na.on4 || slice b 16 4 != na.ip4 then none
    else some ({ a with src := slice b 12 4, dst := slice b 16 4, dscp := byteAt b 1 / 4 }, byteAt b 9, slice b 20 (n - 20))
  else if e.typ == 0x86DD then
    let n := beAt b 4 2
    let dst := slice b 24 16
    let node : Bytes := [0xFF, 2, 0, 0, 0, 0, 0, 0, 0, 0, 0, 1, 0xFF] ++ na.ip6.drop 13
    if byteAt b 0 / 16 != 6 || b.length < 40 + n || !na.on6 || !(dst == na.ip6 || (dst == node && byteAt b 6 == 58)) then none
    else some ({ a with v6 := true, src := slice b 8 16, dst := dst, dscp := beAt b 0 2 / 64 % 64 }, byteAt b 6, slice b 40 n)
  else none

/-- Step 2 (R413): the UDP payload of a frame for the port, with the addresses of its answer. -/
def State.udpIn (s : State) (q : Nat) (e : EthIn) : Option (ReplyAddr × Bytes) :=
  match ipIn (s.net q) e with
  | none => none
  | some (a, proto, d) =>
    let n := beAt d 4 2
    let c := beAt d 6 2
    if proto != 17 || d.length < n || n < 8 || beAt d 2 2 != bitsOf (s.reg .inlUdpport q) 15 0 || (a.v6 && c == 0) ||
        (c != 0 && inetCheck (pseudoSum a.src a.dst 17 n + sum16 (slice d 0 n)) != 0) then none
    else some ({ a with sport := beAt d 0 2, dport := beAt d 2 2 }, slice d 8 (n - 8))

/-! ### Vezil frames (R416 to R421) -/

/-- The common header of a frame the device sends, then 32 bytes of body. -/
def vezilReply (typ tag : Nat) (hid body : Bytes) : Bytes :=
  [0x56, 0x5A, 1, BitVec.ofNat 8 typ, 0, 64, 0, 1] ++ beBytes 4 tag ++ [0, 0, 0, 0] ++ padTo 16 hid ++ padTo 32 body

/-- Fields of a Vezil frame. -/
def vfType (v : Bytes) : Nat := byteAt v 3
def vfTag (v : Bytes) : Nat := beAt v 8 4
def vfHid (v : Bytes) : Bytes := slice v 16 16
def vfSlot (v : Bytes) : Nat := beAt v 32 4
def vfPart (v : Bytes) : Nat := if vfType v = 1 then byteAt v 36 else 0
def vfChunk (v : Bytes) : Nat := if vfType v = 1 then beAt v 40 4 else 0
def vfCount (v : Bytes) : Nat := beAt v 44 4
def vfEnc (v : Bytes) : Bytes := if vfType v = 1 then slice v 48 32 else slice v 40 32
def vfCipher (v : Bytes) : Bytes := if vfType v = 2 then v.drop 72 else v.drop (if vfChunk v = 0 then 80 else 48)

/-- Steps 3 to 5 of Table INL-7; `types` are those that step 4 admits. Of Table INL-3 the range of the ciphertext is checked
here and its steps of 56 bytes under R371 (DEDUCED, log entry 31). -/
def vfOk (types : List Nat) (v : Bytes) : Bool :=
  slice v 0 3 == [0x56, 0x5A, 1] && decide (32 ≤ v.length) && beAt v 4 2 == v.length && beAt v 6 2 == 0 && beAt v 12 4 == 0 &&
    types.contains (vfType v) &&
    match vfType v with
    | 1 =>
      let n := (vfCipher v).length
      slice v 37 3 == [0, 0, 0] && decide (48 + (if vfChunk v = 0 then 32 else 0) + 18 ≤ v.length) && decide (n ≤ 8208)
    | 2 => beAt v 36 4 == 0 && decide (144 ≤ v.length) && decide (v.length ≤ 7256)
    | _ => v.length == 64 && allZero (v.drop 32)

/-- A RECEIPT frame (Table INL-4). -/
def receiptFrame (kind part slot value tag : Nat) (hid mac : Bytes) : Bytes :=
  vezilReply 3 tag hid ([BitVec.ofNat 8 kind, BitVec.ofNat 8 part, 0, 0] ++ beBytes 4 slot ++ beBytes 4 value ++ [0, 0, 0, 0] ++ mac)

/-- A REFUSE frame in answer to a frame (Table INL-5). -/
def refuseFrame (v : Bytes) (st : Status) (hint : Nat) : Bytes :=
  vezilReply 4 (vfTag v) (vfHid v) (beBytes 2 (statusCode st) ++ [BitVec.ofNat 8 (vfType v), BitVec.ofNat 8 (vfPart v)] ++
    beBytes 4 (vfSlot v) ++ beBytes 4 (vfChunk v) ++ beBytes 4 hint)

/-- The retry hints (R432). -/
inductive Hint where
  | none | base | base4 | pause
  deriving DecidableEq, Repr

/-- A hint in milliseconds, from INL_RETRY of a port; the host path uses INL0A's (R606). -/
def State.hintMs (s : State) (port : Nat) (h : Hint) : Nat :=
  let r := s.reg .inlRetry (if port < 4 then port else 0)
  match h with
  | .none => 0
  | .base => bitsOf r 15 0
  | .base4 => 4 * bitsOf r 15 0
  | .pause => bitsOf r 31 16

end Sys2Proof.Machine
end

