-- ==== Sys2Proof/Machine/HarvestAdd.lean ====
section
/-! DEFINITION. Answers to frames, contribution receipts, and the add of a slot with its Quad commit (INL R429; HVS R366,
R368, R378, R379; CRY R285 to R287, Table CRY-6). -/
namespace Sys2Proof.Machine

open Sys2Proof

/-! ### Flows (R366, R423) -/

/-- The ATOMIC flow of a slot. -/
def flowId (c slot : Nat) : Nat := slot % 2 ^ 18 + 2 ^ 18 * c

/-- KIND of the work items that the model's firmware queues: 1 chunk, 2 share batch, 4 add, 0x80 reply (DESIGN CHOICE, log
entry 32: Table QUE-6 leaves KIND and PAYLOAD to the firmware). -/
def kindAdd : Nat := 4
def kindReply : Nat := 0x80

/-- An add holds the flow (R297, R366). -/
def State.flowHeld (s : State) (c slot : Nat) : Bool := (s.ctx c).adds.any fun a => a.issued && flowId c a.slot == flowId c slot

/-- The frames' items of a flow, and the first of them. -/
def State.flowItems (s : State) (flow : Nat) : List WorkItem :=
  s.ringer.items.filter fun i => i.cls == 0 && i.flow == flow && i.kind != kindAdd
def State.flowHead (s : State) (flow : Nat) : Option WorkItem := minBy (·.order) (s.flowItems flow)

/-- A work item leaves the Ringer as DONE removes it. -/
def State.dropItem (s : State) (order : Nat) : State :=
  ({ s with ringer := { s.ringer with items := s.ringer.items.filter fun o => o.order != order } }).wakeWaiters

/-! ### Answers -/

/-- One more refusal of a status in the second (R433), for the seven that REFUSE_STATS counts. -/
def refusalIndex (st : Status) : Option Nat :=
  match st with
  | .refused => some 0 | .busy => some 1 | .paused => some 2 | .late => some 3 | .authFail => some 4 | .lowOrder => some 5
  | .floorNotMet => some 6 | _ => none
def State.countRefusal (s : State) (c : Nat) (st : Status) : State :=
  match refusalIndex st with
  | some k => s.updCtx c fun x => { x with refusals := updAt x.refusals k fun n => satAdd 32 n 1 }
  | none => s

/-- The result of an ingest command (Table HST-5). -/
def ingestResult (v : Serving) : Bytes := leBytes 4 v.decided ++ leBytes 4 v.acked ++ leBytes 4 v.refused ++ leBytes 4 v.receipts

/-- REPLY_ADDR of an ingest command. -/
def replyAddrOf (c : HostCmd) : Nat :=
  match c with
  | .hostIngest _ _ _ r _ => r
  | .sharesSubmit _ _ _ r => r
  | _ => 0

/-- Frame k of the function's ingest is decided: its reply is written (R606, R614), and the command ends with the last one
(R607). Nothing where a reset has taken the command away. -/
def State.hostReply (s : State) (pf k : Nat) (r : Bytes) : State :=
  match (s.fn pf).serving with
  | none => s
  | some v =>
    if !v.open_.contains k then s
    else
      let no := vfType r == 4
      let v := { v with
        open_ := v.open_.filter (· != k), decided := v.decided + 1, refused := v.refused + b2n no, acked := v.acked + b2n (!no)
        receipts := v.receipts + b2n (vfType r == 3 && byteAt r 32 == 2) }
      let s := (s.dmaOut pf (replyAddrOf v.cmd + 64 * k) r).updFn pf fun f => { f with serving := some v }
      if v.open_ = [] then s.finish pf .ok (ingestResult v) else s

/-- A frame's reply takes the place that it reserved (R429), or goes to the host. -/
def State.frameReply (s : State) (f : Frame) (r : Bytes) : State :=
  if 4 ≤ f.port then s.hostReply (f.port - 4) f.index r
  else
    let mine (i : WorkItem) : Bool := i.cls == 1 && i.flow == f.port && i.kind == kindReply && leAt i.payload 0 4 == f.id
    let items := s.ringer.items.map fun i => if mine i then { i with handle := none, result := some (udpReply f.addr r) } else i
    ({ s with ringer := { s.ringer with items := items } }).releaseFlow f.port items.length

/-- An admitted frame is refused. -/
def State.frameRefuse (s : State) (f : Frame) (st : Status) (h : Hint) : State :=
  (s.countRefusal f.ctx st).frameReply f (refuseFrame f.bytes st (s.hintMs f.port h))

/-! ### Contribution parts (R363) and receipts (R368) -/

/-- L and C of a part of this device. -/
def partBytes (c : Ctx) : Nat := c.words * (ringW c / 8)
def partChunks (c : Ctx) : Nat := (partBytes c + 8191) / 8192
/-- The part byte of Table HVS-7. -/
def partByte (c : Ctx) : Nat := if hvMode c = 1 then c.rank else 0

/-- The receipt of a part: HMAC-SHA-256 over the digests of its chunks. -/
def receiptMac (c : Ctx) (e : SlotCtx) : Bytes :=
  let d := Crypto.sha256 ((List.range (partChunks c)).flatMap fun k => (lookupN e.digests k).getD [])
  (Crypto.hmac Crypto.hash256 e.receiptKey (hvId c ++ beBytes 4 e.slot ++ d)).take 16

/-- A contribution RECEIPT as a frame. -/
def receiptOf (c : Ctx) (slot tag : Nat) (mac : Bytes) : Bytes := receiptFrame 2 (partByte c) slot (partChunks c) tag (hvId c) mac

/-- The contribution RECEIPT of a slot that has become ADDED (R368, R429, R607). Where the port's reply flow is full it waits
for room (DESIGN CHOICE, log entry 33). -/
def State.sendReceipt (s : State) (c slot : Nat) (o : Origin) (mac : Bytes) : State :=
  let r := receiptOf (s.ctx c) slot o.tag mac
  let sent (s : State) : State := s.updCtx c fun x => { x with receiptsSent := satAdd 32 x.receiptsSent 1 }
  if 4 ≤ o.port then sent (s.hostReply (o.port - 4) o.index r)
  else if noPlace s.ringer.items 1 o.port then s.updCtx c fun x => { x with owed := x.owed ++ [(slot, o, mac)] }
  else
    let n := s.ringer.nextOrder
    let s := s.putItem 1 o.port c kindReply []
    let items := s.ringer.items.map fun i => if i.order == n then { i with result := some (udpReply o.addr r) } else i
    sent (({ s with ringer := { s.ringer with items := items } }).releaseFlow o.port items.length)

/-- Receipts that waited for room in their reply flow are tried again, in their order. -/
def State.retryReceipts (s : State) : State :=
  (List.range 4).foldl (fun s c =>
    let l := (s.ctx c).owed
    if l = [] then s
    else l.foldl (fun s e => s.sendReceipt c e.1 e.2.1 e.2.2) (s.updCtx c fun x => { x with owed := [] })) s

/-! ### The add -/

/-- The slot context of a slot. -/
def slotCtx (c : Ctx) (slot : Nat) : Option SlotCtx := c.slots.find? fun e => e.slot == slot

/-- The add of a slot is no longer under way. -/
def State.endAdd (s : State) (c slot : Nat) : State :=
  let drop (i : WorkItem) : Bool := i.cls == 0 && i.kind == kindAdd && i.flow == flowId c slot && leAt i.payload 0 4 == slot
  ({ s with ringer := { s.ringer with items := s.ringer.items.filter fun i => !drop i } }).wakeWaiters

/-- The add item of a slot is issued to every Pan of the context (R285, R366). -/
def State.issueAdd (s : State) (c slot : Nat) : State :=
  let s := if noPlace s.ringer.items 0 (flowId c slot) then s else s.putItem 0 (flowId c slot) c kindAdd (leBytes 4 slot)
  let s := (s.pansOf c).foldl (fun s p => s.updPan p fun q => { q with addItems := q.addItems ++ [slot] }) s
  s.updCtx c fun x =>
    { x with adds := match x.adds.find? fun a => a.slot == slot with
      | some _ => x.adds.map fun a => if a.slot == slot then { a with issued := true, reported := false } else a
      | none => x.adds ++ [{ slot := slot, issued := true }] }

/-- The commit of an add on this device (R287, R366, R368): ADDED, records IDLE, receipt, slot context deleted. -/
def State.commitAdd (s : State) (c slot : Nat) : State :=
  let x := s.ctx c
  let s := (s.pansOf c).foldl (fun s p => s.updPan p fun q =>
    if q.commit.slot == slot && q.commit.st == .done then { q with commit := {} } else q) s
  let s := (s.updCtx c fun x => { setStatus x slot 2 with
    slots := x.slots.filter fun e => e.slot != slot, adds := x.adds.filter fun a => a.slot != slot }).endAdd c slot
  match slotCtx x slot with
  | none => s
  | some e =>
    if e.key = [] then s
    else
      let mac := receiptMac x e
      let s := s.updCtx c fun x => { x with receipts := insertN x.receipts slot mac }
      match e.last with
      | some o => (s.updCtx c fun x => { x with origins := insertN x.origins slot o }).sendReceipt c slot o mac
      | none => s

/-- GRANTED of a slot's byte. -/
def setGranted (c : Ctx) (slot : Nat) (v : Bool) : Ctx := setLedger c slot (setBits (ledgerByte c slot) 6 6 (b2n v))

/-! ### The Quad commit (R378, R379) -/

/-- The positions that hold a part of a slot. -/
def State.partHolders (s : State) (c : Ctx) (slot : Nat) : List Nat :=
  if hvMode c = 2 then [rosterHome c slot] else s.memberList

/-- An add's entry at the Treble, changed; made where there is none. -/
def updAdd (c : Ctx) (slot : Nat) (f : AddState → AddState) : Ctx :=
  if c.adds.any fun a => a.slot == slot then { c with adds := c.adds.map fun a => if a.slot == slot then f a else a }
  else { c with adds := c.adds ++ [f { slot := slot }] }
def addEntry (c : Ctx) (slot : Nat) : AddState := (c.adds.find? fun a => a.slot == slot).getD { slot := slot }

/-- An add item of a slot that is ADDED completes at once, and the slot's receipt is resent (R297). -/
def State.resendAdded (s : State) (c slot : Nat) : State :=
  match lookupN (s.ctx c).origins slot, lookupN (s.ctx c).receipts slot with
  | some o, some mac => s.sendReceipt c slot o mac
  | _, _ => s

/-- The add of a slot is in service on some Pan of the context: its flow holds a further item (R297). -/
def State.addInService (s : State) (c slot : Nat) : Bool :=
  (s.pansOf c).any fun p => (s.pan p).addItems.contains slot || ((s.pan p).commit.st != .idle && (s.pan p).commit.slot == slot)

/-- GO at a member or at the Treble itself: the grant is recorded and the add issued. -/
def State.goSlot (s : State) (c slot : Nat) : State :=
  if isAdded (s.ctx c) slot then s.resendAdded c slot
  else if s.addInService c slot then s
  else if ledStatus (ledgerByte (s.ctx c) slot) ≠ 1 ∨ (slotCtx (s.ctx c) slot).isNone then s
  else (s.updCtx c fun x => setGranted x slot true).issueAdd c slot

/-- A slot has passed its freeze point here. -/
def pastFreeze (c : Ctx) (slot : Nat) : Bool :=
  c.st != .gathering || decide (slot < c.frozenUpTo) || c.frozen.contains slot

/-- The Treble learns that a position's part is staged; with the last one it grants (R378). -/
def State.partReported (s : State) (c slot pos : Nat) : State :=
  let s := s.updCtx c fun x => updAdd x slot fun a => { a with staged := if a.staged.contains pos then a.staged else a.staged ++ [pos] }
  let x := s.ctx c
  let hs := s.partHolders x slot
  let a := addEntry x slot
  if a.issued || !hs.all a.staged.contains || pastFreeze x slot then s
  else
    let s := s.updCtx c fun x => updAdd x slot fun a => { a with issued := true, memberDone := [] }
    let s := (hs.filter (· != s.power.pos)).foldl (fun s p => s.ctl p .go (leBytes 4 slot)) s
    if hs.contains s.power.pos then s.goSlot c slot else s

/-- The last chunk of a part is staged here: the add, or the report to the Treble. -/
def State.partStaged (s : State) (c slot : Nat) : State :=
  if !(s.ctx c).quad then s.issueAdd c slot
  else if s.isTreble then s.partReported c slot s.power.pos
  else s.ctl s.treble .staged (leBytes 4 slot)

/-- The Treble learns that a position has added its part; with the last one the slot is ADDED (R378). In SPLIT it notes the
outcome of a slot homed elsewhere among the bytes that it gathers (log entry 34). -/
def State.doneReported (s : State) (c slot pos : Nat) : State :=
  let x := s.ctx c
  let a := addEntry x slot
  if !a.issued then s
  else
    let s := s.updCtx c fun x => updAdd x slot fun a => { a with memberDone := if a.memberDone.contains pos then a.memberDone else a.memberDone ++ [pos] }
    let hs := s.partHolders x slot
    if !hs.all (addEntry (s.ctx c) slot).memberDone.contains then s
    else
      let s := (hs.filter (· != s.power.pos)).foldl (fun s p => s.ctl p .added (leBytes 4 slot)) s
      if hs.contains s.power.pos then s.commitAdd c slot
      else s.updCtx c fun x => { setLedger x slot 0x42 with adds := x.adds.filter fun a => a.slot != slot }

/-- Every Pan of the context holds DONE for a slot. -/
def State.allDone (s : State) (c slot : Nat) : Bool :=
  (s.pansOf c).all fun p => (s.pan p).commit.st == .done && (s.pan p).commit.slot == slot

/-- ADD_COMMIT (R287): the add commits, or DONE is reported to the Treble. -/
def State.addCommit (s : State) (c slot : Nat) (tally : Option (Nat × Upset)) : State :=
  let x := s.ctx c
  let a := addEntry x slot
  if !ctxLive x.st || !a.issued || (slotCtx x slot).isNone || !s.allDone c slot then s
  else
    s.tallyRead c slot tally fun s =>
      if !x.quad then s.commitAdd c slot
      else if a.reported then s
      else
        let s := s.updCtx c fun x => updAdd x slot fun a => { a with reported := true }
        if s.isTreble then s.doneReported c slot s.power.pos else s.ctl s.treble .done (leBytes 4 slot)

/-! ### BACKOUT (Table CRY-6) -/

/-- A Pan has added words of a slot that is not committed. -/
def hasAdded (q : Pan) (slot : Nat) : Bool := q.commit.slot == slot && q.commit.st != .idle

/-- Sweep holds a subarray whose words a backout of the slot subtracts from: the backout waits (R209). -/
def State.backoutHeld (s : State) (c slot : Nat) : Bool :=
  let x := s.ctx c
  x.onChip && (s.pansOf c).any fun p => hasAdded (s.pan p) slot && s.held p 0 ((s.pan p).commit.next * (ringW x / 8))

/-- What a Pan added for a slot, words 0 to NEXT − 1 of its slice, is subtracted again, and a tile not yet acknowledged is
dropped (Table CRY-6). -/
def subtractWords (u : Probe) (c slot : Nat) : Work Unit := do
  let n := ((← get).pan u.pan).commit.next
  let bs ← addWords u true c slot 0 n
  accWr u c 0 bs
  onPan u fun q => { q with commit := {} }

/-- What the Pans of a context added for a slot is subtracted again; what stops it. -/
def State.subtractAdd (s : State) (c slot : Nat) : Option Stop × State :=
  (s.pansOf c).foldl (fun o p =>
    if o.1.isSome || !hasAdded (o.2.pan p) slot then o
    else
      let (_, x, t) := runRows (fun _ => subtractWords { pan := p, pc := 0, ups := [] } c slot) 0 1 o.2
      (x, t)) (none, s)

/-- The slot's add is backed out on this device; where a staged read fails again, or the accumulator's, the harvest is
voided. -/
def State.backout (s : State) (c slot : Nat) (readFails : Bool) : State :=
  match s.subtractAdd c slot with
  | (some (.acc ws), t) => t.accLost c (((s.pansOf c).find? fun p => hasAdded (t.pan p) slot).getD 0) ws 0
  | (some (.unit a), t) => t.unitLost c a
  | (some _, t) => t.fatalVoid c 7 0 slot
  | (none, t) =>
    if readFails then s.fatalVoid c 7 0 slot
    else
      let t := (t.pansOf c).foldl (fun s p => s.updPan p fun q => { q with addItems := q.addItems.filter (· != slot) }) t
      (t.updCtx c fun x => { setGranted x slot false with
        adds := if s.isTreble && x.quad then x.adds else x.adds.filter fun a => a.slot != slot }).endAdd c slot

/-- A chunk of a staged part lies in a condemned data unit. -/
def State.chunkLost (s : State) (e : SlotCtx) (chunk : Nat) : Bool :=
  storesCondemned s.stores (e.base + 8192 * chunk) (min 8192 (e.len - 8192 * chunk))

/-- The Treble hears of a backout, or makes one: every holder subtracts; the failing part is no longer staged (R378). -/
def State.backoutAll (s : State) (c slot pos : Nat) : State :=
  let others := (s.partHolders (s.ctx c) slot).filter fun p => p != s.power.pos && p != pos
  let s := others.foldl (fun s p => s.ctl p .backout (leBytes 4 slot)) s
  s.updCtx c fun x => updAdd x slot fun a =>
    { a with issued := false, reported := false, memberDone := [], staged := a.staged.filter (· != pos) }

/-- ADD_BACKOUT: a read of chunk `chunk` of the staged part has failed twice while a Pan added it. `readFails` says that
one fails again while the Pans subtract. -/
def State.addBackout (s : State) (c slot chunk : Nat) (readFails : Bool) : State :=
  let x := s.ctx c
  match slotCtx x slot with
  | none => s
  | some e =>
    if !ctxLive x.st || !(addEntry x slot).issued || !(s.chunkLost e chunk) ||
        !(s.pansOf c).any fun p => (s.pan p).commit.slot == slot && (s.pan p).commit.st == .backout then s
    else if s.backoutHeld c slot then
      { s with sweep := { s.sweep with held := s.sweep.held ++ [.addBackout c slot chunk readFails] } }
    else
      let s := s.backout c slot readFails
      if !ctxLive (s.ctx c).st then s
      else
        let s := s.updCtx c fun x => { x with
          slots := x.slots.map fun e => if e.slot == slot then { e with digests := eraseN e.digests chunk } else e }
        let s := match e.last with
          | some o =>
            if 4 ≤ o.port then
              s.hostReply (o.port - 4) o.index (vezilReply 4 o.tag (hvId x) (beBytes 2 (statusCode .uncorrectable) ++
                [1, BitVec.ofNat 8 (partByte x)] ++ beBytes 4 slot ++ beBytes 4 chunk ++ beBytes 4 (s.hintMs 4 .base)))
            else s
          | none => s
        if !x.quad then s
        else if s.isTreble then s.backoutAll c slot s.power.pos
        else s.ctl s.treble .backout (leBytes 4 slot)

end Sys2Proof.Machine
end

