-- ==== Sys2Proof/Machine/Attest.lean ====
section
/-! DEFINITION. Attestation and consent (ATT, R513 to R528): evidence and its verification, enrolment, weights, unlock
tokens; HPKE as a recipient. -/
namespace Sys2Proof.Machine

open Sys2Proof

/-! ### HPKE (RFC 9180) at the recipient -/

/-- The context of mode_base under the enrolment key; none for an enc of small order. -/
def State.hpkeBase (s : State) (enc info : Bytes) : Option Crypto.HpkeCtx :=
  (dh s.ekey enc).map fun z =>
    Crypto.hpkeSchedule 0 (Crypto.kemSecret z (padTo 32 enc ++ s.keyhold.ekeyPub)) info

/-- The context of mode_auth under the enrolment key, with a sender key; none where enc or the key has small order. -/
def State.hpkeAuth (s : State) (enc sender info : Bytes) : Option Crypto.HpkeCtx :=
  match dh s.ekey enc, dh s.ekey sender with
  | some a, some b =>
    some (Crypto.hpkeSchedule 2 (Crypto.kemSecret (a ++ b) (padTo 32 enc ++ s.keyhold.ekeyPub ++ padTo 32 sender)) info)
  | _, _ => none

/-! ### Evidence (R513 to R516) -/

def cborBools (l : List Bool) : List Cbor := l.map .bool
def bitmap (n : Nat) (f : Nat → Bool) : Nat := (List.range n).foldl (fun v i => v + b2n (f i) * 2 ^ i) 0

/-- The layout claim (Table ATT-3). A RETURNING Pan is out of service as a RETIRED one is. -/
def State.layoutClaim (s : State) : Cbor :=
  .map [.uint 1, .uint (2 ^ 48 - 1),
    .uint 2, .uint (bitmap 48 fun p => (s.pan p).st == .retired || (s.pan p).st == .returning),
    .uint 3, .arr ((List.range 48).map fun p => .uint (match (s.pan p).ctx with | some c => c | none => 255)),
    .uint 4, .arr ((List.range 48).map fun p => .uint (384 - (s.pan p).retiredSubs.length)),
    .uint 5, .arr ((List.range 4).map fun c => .arr ((List.range 5).map fun k =>
      .uint (if s.img.loaded.isNone then 0 else layoutUnits s.img.placed c k))),
    .uint 6, .arr (((List.range 128).filter fun i => (s.pc i).st != 0).map .uint)]

/-- The claims of Table ATT-2 at this point of the command order, from key 3 on. -/
def State.evidenceList (s : State) : List Cbor :=
  let applying := s.img.st == 1 || s.img.st == 3
  let img (f : Loaded → Bytes) : Cbor :=
    match s.img.loaded with | some l => if applying then .null else .bstr (f l) | none => .null
  let fw (i : Nat) : Cbor := .bstr (s.keyhold.fw.getD i [])
  [.uint 3, .bstr s.keyhold.identityPub, .uint 4, .bstr (Crypto.sha384 Config.identityCert), .uint 5, .arr [.uint 0x4100, .uint 0xA0],
    .uint 6, .arr [fw 0, fw 1, fw 2, .uint s.dev.fwSlot, .bool s.dev.fwFallback],
    .uint 7, .arr [.uint Config.panEnable, .uint Config.debugLock, .bstr (Crypto.sha384 Config.factoryRepair)],
    .uint 8, .arr (if s.dbg.scope = 0 then [.uint 0, .uint 0] else [.uint 1, .uint s.dbg.scope]),
    .uint 9, s.layoutClaim, .uint 10, img Loaded.meas, .uint 11, img Loaded.polMeas,
    .uint 12, (match s.keyhold.tenantKey with | some k => .bstr (Crypto.sha384 k) | none => .null),
    .uint 13, .bstr s.keyhold.ekeyPub,
    .uint 14, .arr ((s.blobs.take 256).map fun b => .arr [.uint b.1, .uint b.2.1, .bstr b.2.2.2.2]),
    .uint 15, .arr (((List.range 4).filter fun c => ctxLive (s.ctx c).st && (s.ctx c).roster != []).map fun c =>
      .arr [.uint c, .bstr (hvId (s.ctx c)), .bstr (s.ctx c).rosterDigest]),
    .uint 16, .arr [.bstr (Crypto.sha384 Config.factoryCal), .bstr (Crypto.sha384 s.cad.calRecord), .bool s.dev.calRejected],
    .uint 17, .arr [.bstr (Crypto.sha384 s.belfry.repair), .bool s.dev.repairRejected],
    .uint 18, .uint s.keyhold.failcnt, .uint 19, .arr [.uint s.toc.count, .bool s.toc.continuity],
    .uint 20, .uint (devCode s.dev.st), .uint 21, .uint s.cad.toll,
    .uint 22, .arr [.bool s.dev.scrubbed, .uint s.dev.bootTime]]

/-- The claims over a nonce. -/
def State.evidenceClaims (s : State) (nonce : Bytes) : Cbor := .map ([.uint 1, .uint 1, .uint 2, .bstr nonce] ++ s.evidenceList)

/-- The snapshot that evidence is made from (R515): the claims but version and nonce, encoded. -/
def State.evidenceSnap (s : State) : Bytes := Cbor.encodeAll s.evidenceList

/-- The claims map of a snapshot over a nonce, encoded: 22 keys. -/
def evidencePayload (nonce snap : Bytes) : Bytes :=
  cborHead 5 22 ++ Cbor.encodeAll [.uint 1, .uint 1, .uint 2, .bstr nonce] ++ snap

/-- The output of ATTEST (Table ATT-1) for an evidence message. -/
def attestOutput (ev alias_ ident : Bytes) : Bytes :=
  leBytes 4 (16 + ev.length + alias_.length + ident.length) ++ leBytes 4 ev.length ++ leBytes 4 alias_.length ++
    leBytes 4 ident.length ++ ev ++ alias_ ++ ident

/-- Evidence over a nonce from a snapshot, signed (R515); none while the DRBG gives nothing. -/
def State.makeEvidence (s : State) (nonce snap : Bytes) : Option (Bytes × State) :=
  (s.signCose (evidencePayload nonce snap)).map fun x =>
    (attestOutput x.1 s.keyhold.aliasCert Config.identityCert, x.2)

/-- Evidence in the form of Table ATT-1, verified as R514 says: its claims, and the alias public key. -/
def checkEvidence (o : Bytes) : Option (Cbor × Bytes) :=
  let e := leAt o 4 4
  let a := leAt o 8 4
  let i := leAt o 12 4
  if leAt o 0 4 ≠ o.length ∨ 16 + e + a + i ≠ o.length ∨ 16384 < e ∨ 24576 < o.length then none
  else
    let cert := slice o (16 + e) a
    let ident := slice o (16 + e + a) i
    let key := Config.certKey cert
    if !(Config.identityChainOk ident && Config.aliasChainOk cert ident) then none
    else
      match coseOpen key (slice o 16 e) with
      | none => none
      | some (kid, payload) =>
        match cborParse payload with
        | none => none
        | some cl =>
          let fw := match cborKey 6 cl with
            | some (.arr (.bstr a :: .bstr b :: .bstr c :: _)) => [a, b, c]
            | _ => []
          if kid = Crypto.sha384 key ∧ Config.certFwids cert = Crypto.sha384 (fw.flatMap id) :: fw ∧
              cborBytes (cborKey 4 cl) = Crypto.sha384 ident then some (cl, key)
          else none

/-- A command waits, with what it read, for the DRBG or for other members. -/
def State.stall (s : State) (pf : Nat) (data : Bytes) : State :=
  s.updFn pf fun f => { f with serving := f.serving.map fun v => { v with data := some data, awaitDma := false } }

/-- ATTEST: the checks before its nonce is read (R513, R533). -/
def State.attestGate (s : State) (outLen nonceLen : Nat) : Option Status :=
  if s.dev.switch.isSome then some .busy
  else if nonceLen < 16 ∨ 64 < nonceLen ∨ outLen < 24576 then some .refused
  else none
/-- The snapshot of the ATTEST in service, taken where the Steward command arbiter serves it (R515, R533). -/
def State.takeSnap (s : State) (pf : Nat) : State :=
  s.updFn pf fun f => { f with serving := f.serving.map fun v => { v with snap := s.evidenceSnap } }

/-- The snapshot of the command in service. -/
def State.snapOf (s : State) (pf : Nat) : Bytes := ((s.fn pf).serving.map (·.snap)).getD []

/-- ATTEST with its nonce. -/
def State.runAttest (s : State) (pf outAddr nonceLen : Nat) (data : Bytes) : State :=
  match s.makeEvidence (padTo nonceLen data) (s.snapOf pf) with
  | none => (s.noteWait 0).stall pf data
  | some (o, s) => (s.dmaOut pf outAddr o).finish pf .ok (leBytes 4 o.length)

/-! ### Enrolment (R517 to R519) -/

/-- The first failing check of R518. -/
def State.enrolFail (s : State) (r : Bytes) : Option Status :=
  let key := slice r 40 97
  if slice r 0 4 != [0x56, 0x5A, 0x45, 0x4E] || beAt r 4 2 != 1 then some .refused
  else if beAt r 6 2 != 0 || !allZero (slice r 137 7) then some .reservedNonzero
  else if slice r 8 32 != s.keyhold.ekeyPub then some .refused
  else
    match pointCheck Crypto.cP384 key with
    | some st => some st
    | none => if (ecVerify Crypto.cP384 key (r.take 144) (slice r 144 96)).1 == .ok then none else some .sigFail

/-- The Store keys derived from the tenant root, in the eight D0 slots (Table KEY-2, R518). -/
def State.loadStoreKeys (s : State) (root : Bytes) : State :=
  let s := s.putKey 7 1 root 2 0
  let d := kdf root z48 (ascii "VZ xts data") 32
  let t := kdf root z48 (ascii "VZ xts tweak") 32
  let s := (List.range 4).foldl (fun s i => (s.putKey 0 (2 * i) d 2 0).putKey 0 (2 * i + 1) t 2 0) s
  s.storeKeys .tenant

/-- ENROLL_TENANT (R517, R518) on its record. -/
def State.runEnrol (s : State) (pf : Nat) (r : Bytes) : State :=
  match s.enrolFail r with
  | some st => s.finish pf st []
  | none =>
    match s.draw 0 32 with
    | none => (s.noteWait 0).stall pf r
    | some (root, s) =>
      let s := s.loadStoreKeys root
      let s := { s with keyhold := { s.keyhold with tenantKey := some (slice r 40 97) }
                        stores := { s.stores with scrubFresh := false }
                        dev := { s.dev with st := .tenantedIdle } }
      s.finish pf .ok []

/-! ### Weights (R520 to R523) -/

/-- The parts of a blob. -/
def blobKeyed (b : Bytes) : Bool := bitOf (byteAt b 7) 0
def blobLen (b : Bytes) : Nat := leAt b 24 8
def blobSegs (b : Bytes) : Nat := (blobLen b + 2 ^ 20 - 1) / 2 ^ 20
def blobBody (b : Bytes) : Nat := 64 + if blobKeyed b then 80 else 0

/-- Blobs of context c whose range overlaps [off, off + n). -/
def blobHits (c off n : Nat) (e : Nat × Nat × Nat × Nat × Bytes) : Bool :=
  e.1 == c && decide (e.2.2.1 < off + n) && decide (off < e.2.2.1 + e.2.2.2.1)

/-- Steps 2 to 5 of Table ATT-6. A BLOB_ID or LENGTH of 0 and an OFFSET that is no multiple of 16 KiB break the header
(DESIGN CHOICE of the step, log entry 68). -/
def State.weightsFail (s : State) (c len : Nat) (b : Bytes) : Option Status :=
  let off := leAt b 16 8
  let n := blobLen b
  if slice b 0 4 != [0x56, 0x5A, 0x57, 0x42] || leAt b 4 2 != 1 || leAt b 32 4 != blobSegs b || n == 0 || leAt b 8 8 == 0 ||
      off % 16384 != 0 || len != blobBody b + n + 16 * blobSegs b then some .refused
  else if byteAt b 7 / 2 != 0 || !allZero (slice b 36 28) then some .reservedNonzero
  else if !(byteAt b 6 == 1 || byteAt b 6 == 2) then some .badEnum
  else if s.partLen c 3 < off + n then some .layoutConflict
  else if (!blobKeyed b && (s.slotKey 4 0).isNone) ||
      (64 ≤ (s.blobs.filter fun e => e.1 == c).length && !s.blobs.any (blobHits c off n)) then some .refused
  else none

/-- Segment k of a blob: its ciphertext with tag, and the nonce. -/
def blobSegment (b : Bytes) (k : Nat) : Bytes :=
  slice b (blobBody b + k * (2 ^ 20 + 16)) (min (2 ^ 20) (blobLen b - k * 2 ^ 20) + 16)
def blobNonce (b : Bytes) (k : Nat) : Bytes := beBytes 8 (leAt b 8 8) ++ beBytes 4 k

/-- Segments decrypted in order and written; false where one fails. -/
def State.writeSegments (s : State) (key b : Bytes) (base : Nat) : List Nat → State × Bool
  | [] => (s, true)
  | k :: rest =>
    match Crypto.gcmOpen key (blobNonce b k) (b.take 64) (blobSegment b k) with
    | none => (s, false)
    | some pt => (s.storeWrite (base + k * 2 ^ 20) pt).writeSegments key b base rest

/-- WEIGHTS_LOAD: step 1. -/
def State.weightsGate (s : State) (pf : Nat) : Option Status :=
  if !(s.dev.st == .tenantedIdle || s.dev.st == .running) || s.img.loaded.isNone then some .refused
  else if (s.ctx pf).st != .closed then some .busy
  else none
/-- Step 6: the weight key opened into the D4 slot, or the failing status. -/
def State.openWeightKey (s : State) (b : Bytes) : Except Status State :=
  if !blobKeyed b then .ok s
  else
    let enc := slice b 64 32
    let info := ascii "VZ weight key" ++ Crypto.sha384 (s.keyhold.tenantKey.getD [])
    if lowOrder enc then .error .lowOrder
    else
      match (s.hpkeBase enc info).bind fun h => Crypto.gcmOpen h.key h.baseNonce [] (slice b 96 48) with
      | none => .error .authFail
      | some k => .ok (s.putKey 4 0 k 2 0)
/-- WEIGHTS_LOAD from step 2 on (R522). -/
def State.runWeights (s : State) (pf len : Nat) (b : Bytes) : State :=
  match s.weightsFail pf len b with
  | some st => s.finish pf st []
  | none =>
    match s.openWeightKey b with
    | .error st => s.finish pf st []
    | .ok s =>
      let off := leAt b 16 8
      let n := blobLen b
      let base := s.partBase pf 3 + off
      let (s', ok) := s.writeSegments ((s.slotKey 4 0).getD []) b base (List.range (blobSegs b))
      if ok then
        let keep := s'.blobs.filter fun e => !blobHits pf off n e
        ({ s' with blobs := keep ++ [(pf, leAt b 8 8, off, n, Crypto.sha384 b)] }).finish pf .ok []
      else (s'.storeZero base n).finish pf .authFail []

/-! ### Consent (R526 to R528) -/

/-- DEBUG_UNLOCK: check 1 of R527. -/
def State.unlockGate (s : State) : Option Status :=
  if s.img.load.isSome then some .busy
  else if !(s.dev.st == .tenantedIdle || s.dev.st == .running) || s.img.loaded.isNone then some .refused
  else none

/-- Checks 2 to 7. -/
def State.unlockFail (s : State) (t : Bytes) : Option Status :=
  let scope := byteAt t 6
  let prof := byteAt t 7
  let meas := match s.img.loaded with | some l => l.meas | none => []
  let pol := s.policy
  if slice t 0 4 != [0x56, 0x5A, 0x44, 0x55] || beAt t 4 2 != 1 then some .refused
  else if 16 ≤ scope || 2 ≤ prof || !allZero (slice t 88 8) then some .reservedNonzero
  else if scope == 0 && prof == 0 then some .refused
  else if slice t 8 32 != s.keyhold.ekeyPub || slice t 40 48 != meas then some .refused
  else if (ecVerify Crypto.cP384 (s.keyhold.tenantKey.getD []) (t.take 96) (slice t 96 96)).1 != .ok then some .sigFail
  else if (scope != 0 && (!bitOf (leAt pol 2 2) 0 || Nat.land scope (leAt pol 4 4) != scope)) ||
      (prof != 0 && !bitOf (leAt pol 2 2) 1) then some .policyForbids
  else none

/-- The most permissive scopes in force from its open to its signing stand in every context that is live or still to be
signed (R47). A member that has sent its gate report already sends its scopes once more (R530). -/
def State.noteScope (s : State) : State :=
  let note (c : Ctx) : Ctx := if ctxLive c.st || c.st == .voiding then { c with debug := Nat.lor c.debug s.dbg.scope } else c
  let s := { s with ctxs := s.ctxs.map note }
  (List.range 4).foldl (fun s c =>
    let x := s.ctx c
    if x.quad && x.st == .settling && decide (7 ≤ x.step) && !s.isTreble then
      s.ctl s.treble .gateReport [BitVec.ofNat 8 x.debug]
    else s) s

/-- DEBUG_UNLOCK on its token. -/
def State.runUnlock (s : State) (pf : Nat) (t : Bytes) : State :=
  match s.unlockFail t with
  | some st => s.finish pf st []
  | none =>
    let open_ := Nat.lor s.dbg.scope (Nat.lor (byteAt t 6) (byteAt t 7 * 16))
    (({ s with dbg := { s.dbg with scope := open_ } }).noteScope).finish pf .ok [BitVec.ofNat 8 open_]

end Sys2Proof.Machine
end

