-- ==== Sys2Proof/Machine/HarvestOpen.lean ====
section
/-! DEFINITION. Opening a harvest, its roster, closing it (HVS, R351 to R364, R377; CAR, R571, R572): the checks, the
start of the Pans, the job of a Quad-wide harvest. -/
namespace Sys2Proof.Machine

open Sys2Proof

/-- Every Pan of a context changed. -/
def State.updPansOf (s : State) (c : Nat) (f : Pan → Pan) : State := (s.pansOf c).foldl (fun s p => s.updPan p f) s

/-! ### The checks of HARVEST_OPEN (Table HVS-4) -/

/-- A context as the block names its parameters, before anything is accepted. -/
def blockCtx (b : Bytes) : Ctx := { block := b }

/-- Steps 1 to 4, before the block is read. What R176 answers comes before the context's own state (R353). -/
def State.openGate (s : State) (c : Nat) : Option Status :=
  if s.img.load.any fun l => match l.partialCtx with | none => true | some k => k == c then some .busy
  else if (s.ctx c).st != .closed || !(s.dev.st == .tenantedIdle || s.dev.st == .running) then some .refused
  else if !bitOf s.ctxLoaded c then some .refused
  else if (s.pansOf c).any fun p => (s.pan p).st == .retired || (s.pan p).st == .returning then some .layoutConflict
  else if (s.pansOf c).any fun p => (s.pan p).st != .halted then some .busy
  else none

/-- Step 5: the block's length, its reserved bytes, its enumerated fields. -/
def blockForm (len : Nat) (b : Bytes) : Option Status :=
  let x := blockCtx b
  if len < 128 ∨ 2 ^ 20 < len ∨ len ≠ 128 + 16 * hvDeqCount x + 4 * hvLayerCount x + hvEvidLen x then some .refused
  else if byteAt b 59 != 0 || leAt b 76 4 != 0 || !allZero (slice b 112 16) || decide (4 ≤ hvPaths x) || decide (16 ≤ hvSettling x) then
    some .reservedNonzero
  else if decide (2 < hvRing x) || decide (1 < hvPrg x) || decide (2 < hvMode x) || decide (2 < hvMetric x) || decide (2 < hvCmp x) then
    some .badEnum
  else none

/-- The dequantisation table breaks the rules of R294. -/
def deqBad (x : Ctx) : Bool :=
  let n := hvDeqCount x
  let start (j : Nat) : Nat := leAt (hvDeq x j) 0 4
  (decide (0 < n) && start 0 != 0) ||
    (List.range n).any fun j =>
      let sc := leAt (hvDeq x j) 4 4
      let zp := signed 64 (leAt (hvDeq x j) 8 8)
      (decide (0 < j) && decide (start j ≤ start (j - 1))) || decide (hvVector x ≤ start j) ||
        bitsOf sc 30 0 == 0 || bitsOf sc 30 23 == 255 ||
        decide (zp < -(2 ^ (ringW x - 1) : Int)) || decide ((2 ^ (ringW x - 1) : Int) ≤ zp)

/-- Step 6: the ranges and dependencies of Table HVS-3; `d` members share a SHARD vector. -/
def blockRange (level d : Nat) (x : Ctx) : Bool :=
  let n := hvSlots x
  let st := hvSettling x
  hvPaths x != 0 && decide (8 ≤ n) && decide (n ≤ if hvMode x = 2 then 2 ^ 24 else 2 ^ 22) &&
    decide (1 ≤ hvVector x) && decide (hvVector x ≤ 2 ^ 28) && decide (2 ≤ hvK x) && decide (hvK x ≤ 512) &&
    decide (hvK x ≤ n - 1) && n * hvK x % 2 == 0 && decide (2 ≤ hvT x) && decide (hvT x ≤ hvK x) && decide (hvFloor x ≤ n) &&
    decide (1 ≤ hvSigmaDen x) && (st / 2 == 0 || bitOf st 0) && ((hvMetric x != 0) == bitOf st 3) &&
    ((hvCmp x == 0) == (hvMetric x == 0)) && bitsOf (hvThreshold x) 30 23 != 255 && (hvMetric x != 0 || hvThreshold x == 0) &&
    decide (hvWindow x ≤ 3600000) &&
    (if bitOf st 0 then decide (1 ≤ hvDeqCount x) && decide (hvDeqCount x ≤ 1024) else hvDeqCount x == 0) &&
    decide (hvLayerCount x ≤ 4096) && (layersOf x).all (fun l => decide (1 ≤ l)) && (layersOf x).sum == hvVector x &&
    (level != 1 || (hvEvidLen x == 0 && allZero (hvParentKey x))) && !deqBad x &&
    (hvMode x != 1 || (List.range d).all fun r => decide (1 ≤ shareWords x r d))

/-- a1 / b1 ≤ a2 / b2, exactly. -/
def ratioLe (a1 b1 a2 b2 : Nat) : Bool := decide (a1 * b2 ≤ a2 * b1)

/-- The order of two finite FP32 values: the sign-magnitude bits as an integer. -/
def fp32Key (v : Nat) : Int := if bitOf v 31 then -(bitsOf v 30 0 : Int) else (bitsOf v 30 0 : Int)

/-- Step 8: the policy checks of R357. -/
def policyAllows (p : Bytes) (x : Ctx) : Bool :=
  let flags := leAt p 12 4
  let a := hvSigmaNum x
  let b := hvSigmaDen x
  let inRange := ratioLe (leAt p 16 4) (leAt p 20 4) a b && ratioLe a b (leAt p 24 4) (leAt p 28 4)
  let pm := byteAt p 200
  bitOf flags (1 + hvMode x) && (!bitOf (hvPaths x) 0 || bitOf flags 5) && (!bitOf (hvPaths x) 1 || bitOf flags 6) &&
    bitOf (byteAt p 32) (hvRing x) && bitOf (byteAt p 33) (hvPrg x) &&
    decide (hvSlots x ≤ leAt p 36 4) && decide (hvVector x ≤ leAt p 40 4) && decide (hvK x ≤ leAt p 44 2) &&
    decide (leAt p 46 2 ≤ hvT x) && decide (leAt p 8 4 ≤ hvFloor x) &&
    Nat.land (hvSettling x) (byteAt p 34) == hvSettling x &&
    (if bitOf flags 0 then inRange else a == 0 || inRange) &&
    (if pm = 0 then hvMetric x == 0
     else hvMetric x == pm && hvCmp x == byteAt p 201 &&
       (if hvCmp x = 1 then decide (fp32Key (leAt p 204 4) ≤ fp32Key (hvThreshold x))
        else decide (fp32Key (hvThreshold x) ≤ fp32Key (leAt p 204 4)))) &&
    decide (byteAt p 208 ≤ 4)

/-- Step 9: the parent checks of R360. -/
def State.parentFail (s : State) (x : Ctx) : Option Status :=
  let p := s.policy
  if byteAt p 208 < 2 then none
  else
    match checkEvidence (hvEvidence x) with
    | none => some .sigFail
    | some (cl, _) =>
      let parents := (List.range (byteAt p 209)).map fun i => slice p (224 + 48 * i) 48
      if cborBytes (cborKey 2 cl) = hvId x ∧
          cborBytes (cborKey 12 cl) = Crypto.sha384 (s.keyhold.tenantKey.getD []) ∧
          parents.contains (cborBytes (cborKey 10 cl)) ∧ cborBytes (cborKey 13 cl) = hvParentKey x then none
      else some .policyForbids

/-- V of the member of rank r of d (R355). -/
def memberWords (x : Ctx) (r d : Nat) : Nat := if hvMode x = 1 then shareWords x r d else hvVector x

/-- The accumulator is on-chip (R282). -/
def State.fitsChip (s : State) (c w v : Nat) : Bool :=
  let l := s.pansOf c
  let n := max 1 l.length
  l.zipIdx.all fun e =>
    let k := (e.2 + 1) * v / n - e.2 * v / n
    decide (k * (w / 8) ≤ min 320 (s.pan e.1).need * 16384)

/-- Step 11: accumulator, one contribution part, roster. -/
def State.fits (s : State) (c : Nat) (x : Ctx) (v : Nat) : Bool :=
  let bytes := v * (ringW x / 8)
  let sig := if byteAt s.policy 35 = 1 then 64 else 96
  (s.fitsChip c (ringW x) v || decide (bytes ≤ s.partLen c 1)) && decide (bytes ≤ s.partLen c 0) &&
    decide (64 + hvSlots x * (104 + 4 * hvK x) + sig ≤ s.partLen c 2)

/-- HARVEST_ID as R358 orders it. -/
def hidNat (x : Ctx) : Nat := beNat (hvId x)

/-- The ranks of a Quad-wide harvest: positions of the membership, ascending (R263, R359). -/
def State.openRanks (s : State) (x : Ctx) : List Nat := if hvMode x = 0 then [] else s.memberList
def State.openRank (s : State) : Nat := (s.memberList.takeWhile (· != s.power.pos)).length

/-- Step 11 on a device. -/
def State.layoutFail (s : State) (c : Nat) (b : Bytes) : Option Status :=
  let x := blockCtx b
  if s.fits c x (memberWords x s.openRank (s.openRanks x).length) then none else some .layoutConflict

/-- Steps 5 to 9 on a device; a member leaves step 9 out (R359). -/
def State.openFail (s : State) (len : Nat) (b : Bytes) (member : Bool) : Option Status :=
  let x := blockCtx b
  let d := (s.openRanks x).length
  match blockForm len b with
  | some st => some st
  | none =>
    if !blockRange (byteAt s.policy 208) d x || hidNat x < s.lastHid then some .refused
    else if !policyAllows s.policy x then some .policyForbids
    else if member then none
    else s.parentFail x

/-! ### Accepting a harvest -/

/-- A start of a Pan (R330, Table SEQ-1). -/
def startPan (q : Pan) : Pan :=
  let banks := if kcfgDiffers q.kcfg {} then List.replicate 2 {} else q.banks
  { stopEngines q with
    st := .running, pc := q.entry, g := List.replicate 32 0, p := List.replicate 8 false, ag := List.replicate 4 {},
    nstat := 0, cstat := 0, prefetch := [], blocked := none, debugHalt := false
    kcfg := {}, kcfgIssue := {}, kout := {}, koutIssue := {}, banks := banks
    bankIssue := banks.map fun b => b.st == .valid }

/-- DIGEST of a section of the image in force. -/
def sectDigest (l : Loaded) (typ c : Nat) : Bytes :=
  match l.records.find? fun r => byteAt r 0 == typ && byteAt r 1 == c with | some r => slice r 8 48 | none => []
/-- The five digests of R179. -/
def State.fiveDigests (s : State) (c : Nat) : List Bytes :=
  match s.img.loaded with
  | none => []
  | some l => [sectDigest l 1 0xFF, sectDigest l 2 0xFF, sectDigest l 5 0xFF, sectDigest l 3 c, sectDigest l 4 c]

/-- Some Carillon link to a member is down and the policy allows no relay, or no relay serves (R354, R581). -/
def State.linkPause (s : State) : Bool :=
  s.car.formed && s.peers.any fun p =>
    match s.linkTo p with
    | some k => !(s.linkUp k && !(s.link k).returning) && (s.jobPath p).isNone
    | none => false

/-- Where relay is allowed, job traffic for a member whose link is down goes through a third one (R581). -/
def State.relayLinks (s : State) : State :=
  s.peers.foldl (fun s p =>
    match s.linkTo p with
    | some k => if !s.linkUp k && (s.jobPath p).isSome then s.updLink k fun l => { l with relaying := true } else s
    | none => s) s

/-- The effects of an accepted HARVEST_OPEN (R356): what is recorded, the cleared Tally and accumulator, the started
Pans, OPEN. -/
def State.openNow (s : State) (c : Nat) (b : Bytes) : State :=
  let x := blockCtx b
  let ranks := s.openRanks x
  let quad := hvMode x != 0
  let v := memberWords x s.openRank ranks.length
  let meas := match s.img.loaded with | some l => l.meas | none => []
  let pol := match s.img.loaded with | some l => l.polMeas | none => []
  let new : Ctx := { x with
    quad := quad, mode := hvMode x, words := v, rank := if quad then s.openRank else 0, ranks := ranks
    ids := ranks.map fun p => (p, s.identityOf p)
    meas := meas, polMeas := pol, digests := s.fiveDigests c, policy := s.policy, debug := s.dbg.scope
    onChip := s.fitsChip c (ringW x) v, pauseBme := !(s.fn c).bme, pauseLink := quad && s.linkPause
    refusals := (s.ctx c).refusals, receiptsSent := (s.ctx c).receiptsSent }
  let s := { (s.updCtx c fun _ => new) with lastHid := hidNat x + 1 }
  let s := (s.accZero c).updPansOf c startPan
  (if quad then s.relayLinks else s).enterState c .opened .ok

/-! ### The job (R571 to R573) -/

/-- What the Treble and a member sign in the key exchange (R572). -/
def exchangeMsg (pub hid : Bytes) (pos : Nat) : Bytes := pub ++ hid ++ [BitVec.ofNat 8 pos]

/-- An ephemeral P-384 key with its signature by the alias key; none while the DRBG gives nothing. -/
def State.ephemeral (s : State) (hid : Bytes) : Option ((Bytes × Bytes × Bytes) × State) :=
  match s.drawScalar Crypto.cP384 with
  | none => none
  | some (d, s) =>
    let pub := Crypto.sec1 Crypto.cP384 (Crypto.ecTimes Crypto.cP384 d (some Crypto.cP384.g))
    (s.signAlias (exchangeMsg pub hid s.power.pos)).map fun x => ((beBytes 48 d, pub, x.1), x.2)

/-- The plain record of the key exchange: a kind byte (0 ephemeral key, 1 sealed J, 2 refusal), the harvest ID, the
content (log entry 22). -/
def State.sendExchange (s : State) (c dst kind : Nat) (hid body : Bytes) : State :=
  s.sendPlain 0x10 dst c (BitVec.ofNat 8 kind :: hid ++ body)

/-- One ephemeral key per member, sent to it. -/
def State.exchangeAll (s : State) (c : Nat) (hid : Bytes) : List Nat → Option State
  | [] => some s
  | m :: rest =>
    match s.ephemeral hid with
    | none => none
    | some ((d, pub, sig), s) =>
      let s := s.updJob fun j => { j with eph := j.eph ++ [(m, d, pub)] }
      (s.sendExchange c m 0 hid (pub ++ sig)).exchangeAll c hid rest

/-- What a new job leaves of the transfers of the one before: the plain records' counts (R565). -/
def jobReset (c : Carillon) : Carillon :=
  { c with transfers := [], rxSeq := c.rxSeq.filter fun e => decide (e.1 < 4), early := c.early.filter fun e => decide (e.1 < 4)
           inbox := c.inbox.filter fun r => leAt r 4 4 == 0 }

/-- The Treble begins the job of a Quad-wide open; none while the DRBG gives nothing. -/
def State.beginJob (s : State) (c : Nat) (b : Bytes) : Option State :=
  match s.draw 0 32 with
  | none => none
  | some (key, s) =>
    let s := s.putKey 7 2 key 1 c
    let s := { s with car := { jobReset s.car with job := some { ctx := c, hid := hvId (blockCtx b), key := key, held := b } } }
    s.exchangeAll c (hvId (blockCtx b)) s.peers

/-- L, the link session key with a position (R572): the ECDH of the two ephemeral keys. -/
def linkKey (d pub hid : Bytes) (a b : Nat) : Bytes :=
  let z := Crypto.ecTimes Crypto.cP384 (beNat d) (Crypto.pointOf Crypto.cP384 pub)
  let x := slice (Crypto.sec1 Crypto.cP384 z) 1 48
  kdf x hid (ascii "VZ link" ++ [BitVec.ofNat 8 (min a b), BitVec.ofNat 8 (max a b)]) 32

/-- A peer's ephemeral key checks out: a valid point, signed by the alias key of its evidence. -/
def State.exchangeOk (s : State) (src : Nat) (hid pub sig : Bytes) : Option Status :=
  match pointCheck Crypto.cP384 pub with
  | some st => some st
  | none =>
    match s.car.peerIds.find? fun e => e.1 == src with
    | none => some .sigFail
    | some e =>
      if (ecVerify Crypto.cP384 e.2.1 (exchangeMsg pub hid src) sig).1 == .ok then none else some .sigFail

/-- The open has failed: its job ends, and the members hear of it, in plain while they lack the job key. -/
def State.openFails (s : State) (c : Nat) (st : Status) : State :=
  let code := leBytes 2 (statusCode st)
  let s := match s.car.job with
    | some j =>
      if j.ctx = c then
        let s := if s.peers.all j.keyed.contains then s.ctlAll .void code
          else s.peers.foldl (fun s p => s.sendExchange c p 2 j.hid code) s
        (s.endJob c).dropJobKeys
      else s
    | none => s
  s.finish c st [0]

/-! ### HARVEST_OPEN -/

/-- HARVEST_OPEN with its block: steps 5 to 11, then the open, or the job whose members must accept first; there step 11 waits
for their answers. -/
def State.runOpen (s : State) (c len : Nat) (b : Bytes) : State :=
  if s.car.job.any fun j => j.ctx == c then s
  else
    match s.openFail len b false with
    | some st => s.finish c st [0]
    | none =>
      if hvMode (blockCtx b) = 0 then
        match s.layoutFail c b with
        | some st => s.finish c st [0]
        | none => (s.openNow c b).finish c .ok [1]
      else if !s.isTreble then s.finish c .refused [0]
      else if s.car.job.isSome then s.finish c .busy [0]
      else
        match s.beginJob c b with
        | some s => s.stall c b
        | none => (s.noteWait 0).stall c b

/-! ### The roster (R361, R362) -/

/-- The records are well formed. -/
def rosterRecsOk (x : Ctx) (members : Nat) : Bool :=
  let n := hvSlots x
  (List.range n).all fun i =>
    let r := rosterRec x i
    let nb := rosterNeighbours x i
    leAt r 0 4 == i && decide (leAt r 4 4 < 4) &&
      (if hvMode x = 2 then bitOf members (leAt r 4 4) else leAt r 4 4 == 0) &&
      nb.all (fun j => decide (j < n) && j != i && (rosterNeighbours x j).contains i) &&
      (nb.zip (nb.drop 1)).all fun e => decide (e.1 < e.2)

/-- No member homes more than 2^22 slots (R362). -/
def homesOk (x : Ctx) : Bool :=
  hvMode x != 2 || (List.range 4).all fun p =>
    decide (((List.range (hvSlots x)).filter fun i => leAt (rosterRec x i) 4 4 == p).length ≤ 2 ^ 22)

/-- The checks of R362 on a roster file. -/
def State.rosterFail (s : State) (c : Nat) (f : Bytes) : Option Status :=
  let x := s.ctx c
  let n := hvSlots x
  let size := 104 + 4 * hvK x
  let body := 64 + n * size
  let typ := byteAt x.policy 35
  let sig := if typ = 1 then 64 else 96
  if slice f 0 4 != [0x56, 0x5A, 0x52, 0x53] || leAt f 4 2 != 1 || leAt f 6 2 != hvK x || leAt f 8 4 != n ||
      leAt f 12 4 != size || slice f 16 16 != hvId x || !allZero (slice f 32 32) || f.length != body + sig ||
      s.partLen c 2 < body + sig then some .refused
  else if !sigOk typ (slice x.policy 96 104) (f.take body) (f.drop body) then some .sigFail
  else
    let y := { x with roster := f.take body }
    if !rosterRecsOk y s.car.members || !homesOk y then some .refused
    else if (List.range n).any fun i => lowOrder (rosterMaskPk y i) || lowOrder (rosterAuthPk y i) then some .lowOrder
    else none

/-- The roster accepted: it is written to the context's ROSTER partition, and the context enters GATHERING. -/
def State.rosterNow (s : State) (c : Nat) (f : Bytes) : State :=
  let x := s.ctx c
  let body := f.take (64 + hvSlots x * (104 + 4 * hvK x))
  ((s.storeWrite (s.partBase c 2) f).updCtx c fun x => { x with roster := body, rosterDigest := Crypto.sha384 body }).enterState c .gathering .ok

/-- The result of ROSTER_LOAD (Table HST-5). -/
def State.rosterResult (s : State) (c : Nat) : Bytes := leBytes 4 (rosterN (s.ctx c))

/-- ROSTER_LOAD with its file. In a Quad-wide harvest the members check it first. A context that has left OPEN meanwhile refuses
it (Table HVS-2, R382). -/
def State.runRoster (s : State) (c : Nat) (f : Bytes) : State :=
  match if (s.ctx c).st == .opened then s.rosterFail c f else some .refused with
  | some st => s.finish c st []
  | none =>
    if !(s.ctx c).quad then
      let s := s.rosterNow c f
      s.finish c .ok (s.rosterResult c)
    else if s.car.job.any fun j => j.held != [] then s
    else
      let s := s.updJob fun j => { j with held := f, answers := [] }
      (s.ctlAll .roster f).stall c f

/-! ### Commands by state (Table HVS-2) -/

/-- A live Quad-wide harvest's command given anywhere but at the Treble (R353). -/
def State.notTreble (s : State) (c : Nat) : Bool := (s.ctx c).quad && !s.isTreble

/-- A command that only some states run: none where it runs. -/
def ctxGate (x : Ctx) (runs late_ nothing : List CtxState) : Option Status :=
  if runs.contains x.st then none else if late_.contains x.st then some .late else if nothing.contains x.st then some .ok
  else some .refused

/-- HARVEST_VOID. While a void is under way it, and the other commands that VOIDED allows, wait for its end (R382). -/
def State.runVoid (s : State) (c : Nat) : State :=
  if s.notTreble c then s.finish c .refused (s.ctxResult c)
  else if (s.ctx c).st == .voided then s.finish c .ok (s.ctxResult c)
  else if (s.ctx c).st == .voiding then s.stall c []
  else if !ctxLive (s.ctx c).st then s.finish c .refused (s.ctxResult c)
  else
    let s := s.voidCtx c .voided
    if (s.ctx c).st == .voiding then s.stall c [] else s.finish c .ok (s.ctxResult c)

/-- A context closed (R377): its release window empty, its partitions but WEIGHTS freed, its Pans returned. -/
def State.closeCtx (s : State) (c : Nat) : State :=
  let s := s.accZero c
  let s := [0, 1, 2, 4].foldl (fun s k => s.storeFree (s.partBase c k) (s.partLen c k)) s
  let s := s.updPansOf c zeroGrainer
  let s := (s.returnPans c).endHarvestKeys c
  let old := shownState (s.ctx c)
  let keep := s.ctx c
  let s := (s.updCtx c fun _ => { refusals := keep.refusals, receiptsSent := keep.receiptsSent }).endJob c
  (s.harvestStateEvent c old 0 false 0).settleDev

/-- HARVEST_CLOSE. -/
def State.runClose (s : State) (c : Nat) : State :=
  match (s.ctx c).st with
  | .closed => s.finish c .ok [0]
  | .released | .voided => (s.closeCtx c).finish c .ok [0]
  | .voiding => s.stall c []
  | _ => s.finish c .refused (s.ctxResult c)

/-- RELEASE_FETCH (R376, R609). A sealed result that STAGING no longer gives completes it with UNCORRECTABLE (DESIGN CHOICE, log
entry 66). -/
def State.runFetch (s : State) (c resAddr resLen certAddr certLen : Nat) : State :=
  let x := s.ctx c
  if x.st == .voiding then s.stall c []
  else if !(x.st == .released || x.st == .voided) then s.finish c .refused (List.replicate 12 0)
  else
    let res := if x.st == .released && resAddr != 0 then x.result else []
    let cert := if certAddr != 0 then x.cert else []
    if resLen < res.length ∨ certLen < cert.length then s.finish c .refused (List.replicate 12 0)
    else if storesCondemned s.stores (s.partBase c 0) res.length then s.finish c .uncorrectable (List.replicate 12 0)
    else
      let s := if res = [] then s else s.dmaOut c resAddr res
      let s := if cert = [] then s else s.dmaOut c certAddr cert
      s.finish c .ok (leBytes 8 res.length ++ leBytes 4 cert.length)

end Sys2Proof.Machine
end

