-- ==== Sys2Proof/Machine/Inlet.lean ====
section
/-! DEFINITION. Admission of frames and the decision of chunks (INL, R411 to R440; HVS, R363 to R368, R384, R385; HST,
R606). -/
namespace Sys2Proof.Machine

open Sys2Proof

/-! ### Admission (Table INL-7, steps 6 to 9) -/

/-- The context that holds a harvest ID in any state but CLOSED (step 6). -/
def State.findHid (s : State) (hid : Bytes) : Option Nat :=
  (List.range 4).find? fun c => (s.ctx c).st != .closed && hvId (s.ctx c) == hid

/-- The receipt kept for an ADDED slot, until the context is closed (R368). -/
def keptReceipt (c : Ctx) (slot : Nat) : Option Bytes := lookupN c.receipts slot

/-- The member that reconstructs for a holder is this device (Table HVS-7). -/
def State.reconstructsFor (s : State) (x : Ctx) (holder : Nat) : Bool :=
  match hvMode x with
  | 0 => true
  | 1 => s.isTreble
  | _ => decide (rosterN x ≤ holder) || rosterHome x holder == s.power.pos

/-- The share-submission phase runs. -/
def sharePhase (c : Ctx) : Bool := c.st == .tallied

/-- Steps 7 and 8: why a frame for a context is refused, with its hint. -/
def State.admitFail (s : State) (c : Nat) (share : Bool) (slot : Nat) : Option (Status × Hint) :=
  let x := s.ctx c
  let state : Option (Status × Hint) :=
    if share then
      if x.st == .opened || x.st == .gathering then some (.refused, .base)
      else if !sharePhase x then some (.late, .none)
      else if x.floorMiss then some (.floorNotMet, .none)
      else if !s.reconstructsFor x slot then some (.refused, .none)
      else none
    else if x.st == .opened then some (.refused, .base)
    else if (x.st == .gathering && !x.freezing) || (keptReceipt x slot).isSome then none
    else some (.late, .none)
  match state with
  | some r => some r
  | none => if paused x then some (.paused, .pause) else none

/-- The second of the toll counter, in which a port's limits run (R430, R434). -/
def State.second (s : State) : Nat := s.cad.toll / 1000000
def portNow (sec : Nat) (p : Port) : Port := if p.second = sec then p else { p with second := sec, taken := 0, direct := 0 }

/-- A reply on the direct path (R430). -/
def State.direct (s : State) (q : Nat) (fr : Bytes) : State :=
  let s := s.updPort q (portNow s.second)
  if 1000000 ≤ (s.port q).direct then s.bump .inlReply q 31 0 1
  else (s.updPort q fun p => { p with direct := p.direct + 1 }).frameOut q fr

/-- A frame refused before its admission: on the direct path, or as its reply to the host. -/
def State.refuseEarly (s : State) (f : Frame) (c : Option Nat) (st : Status) (h : Hint) : State :=
  let r := refuseFrame f.bytes st (s.hintMs f.port h)
  let s := match c with | some c => s.countRefusal c st | none => s
  if 4 ≤ f.port then s.hostReply (f.port - 4) f.index r else s.direct f.port (udpReply f.addr r)

/-- The credits of step 9: an ATOMIC place, and on a port a place in its reply flow. -/
def State.credit (s : State) (f : Frame) : Bool :=
  !noPlace s.ringer.items 0 (flowId f.ctx f.slot) && (4 ≤ f.port || !noPlace s.ringer.items 1 f.port)

/-- A frame with its credits is admitted: its ATOMIC item, and its place in the reply flow (R423, R429). -/
def State.admitNow (s : State) (f : Frame) : State :=
  let id := s.inlets.nextFrame
  let s := { s with inlets := { s.inlets with nextFrame := id + 1, frames := s.inlets.frames ++ [{ f with id := id }] } }
  let s := s.putItem 0 (flowId f.ctx f.slot) f.ctx (if f.share then 2 else 1) (leBytes 4 id)
  let s := s.grantPath f.port
  if 4 ≤ f.port then s else s.putItem 1 f.port f.ctx kindReply (leBytes 4 id)

/-- The frame that a path has first in line: of port 0 to 3, or of the function's host path (4 + function). -/
def State.headFrame (s : State) (p : Nat) : Option Frame :=
  if p < 4 then (s.port p).waiting.head? else s.inlets.hostWaiting.find? fun f => f.port == p

/-- A path's first frame leaves its line. -/
def State.takeHead (s : State) (p : Nat) (f : Frame) : State :=
  if p < 4 then s.updPort p fun x => { x with waiting := x.waiting.tail }
  else { s with inlets := { s.inlets with hostWaiting := s.inlets.hostWaiting.erase f } }

/-- The paths whose first frame has its credits. -/
def State.pathsReady (s : State) : List Nat :=
  (List.range 8).filter fun p => match s.headFrame p with | some f => s.credit f | none => false

/-- One waiting frame after another takes its credits, of the paths that contend the least recently granted first (R76, R464). -/
def State.admitReady (s : State) : Nat → State
  | 0 => s
  | n + 1 =>
    match contender s.arb.enqueue s.pathsReady with
    | none => s
    | some p =>
      match s.headFrame p with
      | none => s
      | some f => ((s.takeHead p f).admitNow f).admitReady n

/-- Every waiting frame is tried again (R464). -/
def State.retryCredits (s : State) : State :=
  s.admitReady ((s.inlets.ports.map fun p => p.waiting.length).sum + s.inlets.hostWaiting.length)

/-- Steps 6 to 9 for a CHUNK or SHARE. `only` is the one context whose frames the path serves (the host's own function). A frame
that a full receive buffer has no room for is counted (R428). -/
def State.admitFrame (s : State) (f : Frame) (only : Option Nat) : State :=
  let full := decide (f.port < 4) && decide (2 ^ 23 < (((s.port f.port).waiting.map (·.len)).sum + f.len))
  let s := if full then s.bump .inlDrop f.port 15 0 1 else s
  match s.findHid (vfHid f.bytes) with
  | none => s.refuseEarly f none .refused .none
  | some c =>
    if only.any (· != c) then s.refuseEarly f none .refused .none
    else
      let f := { f with ctx := c, slot := vfSlot f.bytes, share := vfType f.bytes == 2 }
      if full then s.refuseEarly f (some c) .busy .base
      else
        match s.admitFail c f.share f.slot with
        | some (st, h) => s.refuseEarly f (some c) st h
        | none =>
          if (s.headFrame f.port).isNone && s.credit f then s.admitNow f
          else if f.port < 4 then s.updPort f.port fun p => { p with waiting := p.waiting ++ [f] }
          else { s with inlets := { s.inlets with hostWaiting := s.inlets.hostWaiting ++ [f] } }

/-- A PROBE answered (R421). -/
def State.probe (s : State) (q : Nat) (a : ReplyAddr) (v : Bytes) : State :=
  let (st, fl) := match s.findHid (vfHid v) with
    | none => (0xFF, 0)
    | some c =>
      let x := s.ctx c
      let p := paused x
      (shownState x, b2n p + 2 * b2n (x.st == .gathering && !x.freezing && !p) + 4 * b2n (sharePhase x && !x.floorMiss && !p))
  s.direct q (udpReply a (vezilReply 5 (vfTag v) (vfHid v)
    ([BitVec.ofNat 8 st, BitVec.ofNat 8 fl, BitVec.ofNat 8 s.power.pos, 0] ++ beBytes 4 (s.hintMs q .base))))

/-! ### ARP, Neighbour Discovery, echo (R414) -/

/-- A Neighbour Advertisement; `dst` is who hears it. -/
def neighborAdv (mac6 ip6 dmac dst : Bytes) (tag : Option Nat) (dscp : Nat) (solicited : Bool) : Bytes :=
  let body (c : Nat) : Bytes := [136, 0] ++ beBytes 2 c ++ [if solicited then 0x60 else 0x20, 0, 0, 0] ++ ip6 ++ [2, 1] ++ mac6
  let c := inetCheck (pseudoSum ip6 dst 58 32 + sum16 (body 0))
  ethFrame dmac mac6 tag 0x86DD (ipv6Packet ip6 dst dscp 58 255 (body c))

/-- The tag that a frame the port sends of its own accord carries: INL_PVID's in tagged mode. -/
def State.ownTag (s : State) (q : Nat) : Option Nat := if bitOf (s.reg .inlPvid q) 12 then some (bitsOf (s.reg .inlPvid q) 11 0) else none

/-- The gratuitous ARP and the unsolicited Neighbour Advertisement of a port (R414, R440). -/
def State.announce (s : State) (q : Nat) : State :=
  let m := s.mac6 q
  let bc : Bytes := List.replicate 6 0xFF
  let s := if s.ip4On q then
      s.frameOut q (ethFrame bc m (s.ownTag q) 0x0806
        ([0, 1, 8, 0, 6, 4, 0, 1] ++ m ++ s.ip4 q ++ List.replicate 6 0 ++ s.ip4 q))
    else s
  if s.ip6On q then
    let all : Bytes := [0xFF, 2] ++ List.replicate 13 0 ++ [1]
    s.frameOut q (neighborAdv m (s.ip6 q) [0x33, 0x33, 0, 0, 0, 1] all (s.ownTag q) 0 false)
  else s

/-- The answer to an ARP request for the port's address. -/
def arpAnswer (n : NetAddr) (e : EthIn) : Option Bytes :=
  let b := e.body
  if e.typ == 0x0806 && slice b 0 8 == [0, 1, 8, 0, 6, 4, 0, 1] && n.on4 && slice b 24 4 == n.ip4 then
    some (ethFrame e.src n.mac e.tag 0x0806
      ([0, 1, 8, 0, 6, 4, 0, 2] ++ n.mac ++ n.ip4 ++ slice b 8 6 ++ slice b 14 4))
  else none

/-- The answer to a Neighbour Solicitation for the port's address (RFC 4861: hop limit 255, a valid checksum, code 0). -/
def ndAnswer (n : NetAddr) (e : EthIn) : Option Bytes :=
  match ipIn n e with
  | none => none
  | some (a, proto, d) =>
    if a.v6 && proto == 58 && byteAt d 0 == 135 && byteAt d 1 == 0 && byteAt e.body 7 == 255 && decide (24 ≤ d.length) &&
        slice d 8 16 == n.ip6 && inetCheck (pseudoSum a.src a.dst 58 d.length + sum16 d) == 0 then
      if allZero a.src then
        some (neighborAdv n.mac n.ip6 [0x33, 0x33, 0, 0, 0, 1] ([0xFF, 2] ++ List.replicate 13 0 ++ [1]) e.tag a.dscp false)
      else some (neighborAdv n.mac n.ip6 e.src a.src e.tag a.dscp true)
    else none

/-- The answer to an ICMP or ICMPv6 echo request. -/
def echoAnswer (n : NetAddr) (e : EthIn) : Option Bytes :=
  match ipIn n e with
  | none => none
  | some (a, proto, d) =>
    if a.dst != (if a.v6 then n.ip6 else n.ip4) || d.length < 8 || byteAt d 1 != 0 then none
    else if !a.v6 && proto == 1 && byteAt d 0 == 8 && inetCheck (sum16 d) == 0 then
      let b (c : Nat) : Bytes := [0, 0] ++ beBytes 2 c ++ d.drop 4
      some (ipReply a 1 64 (b (inetCheck (sum16 (b 0)))))
    else if a.v6 && proto == 58 && byteAt d 0 == 128 && inetCheck (pseudoSum a.src a.dst 58 d.length + sum16 d) == 0 then
      let b (c : Nat) : Bytes := [129, 0] ++ beBytes 2 c ++ d.drop 4
      some (ipReply a 58 64 (b (inetCheck (pseudoSum a.dst a.src 58 d.length + sum16 (b 0)))))
    else none

/-! ### A frame received (Table INL-7) -/

/-- What a received frame turns out to be. -/
inductive RxKind where
  | arp | nd | echo | vezil | other
  deriving DecidableEq, Repr

/-- The first test that a frame passes after step 1, and the answer to what R414 lists. -/
def State.rxKind (s : State) (q : Nat) (e : EthIn) : RxKind × Bytes :=
  match arpAnswer (s.net q) e with
  | some r => (.arp, r)
  | none =>
    match ndAnswer (s.net q) e with
    | some r => (.nd, r)
    | none =>
      match echoAnswer (s.net q) e with
      | some r => (.echo, r)
      | none => if (s.udpIn q e).isSome then (.vezil, []) else (.other, [])

/-- A frame on a port whose link is up, with what RS-FEC made of it. `want` limits the kinds that the command handles. -/
def State.rxFrame (s : State) (q : Nat) (f : Bytes) (fec : Option Nat) (want : RxKind → Bool) : State :=
  if (s.port q).link ≠ 2 then s
  else
    let e := s.l2Ok q f fec.isSome
    let k := match e with | some e => s.rxKind q e | none => (.other, [])
    if !want k.1 then s
    else
      let s := (((s.updPort q (portNow s.second)).count .inlRxFrames q 1).count .inlRxBytes q f.length).retryCredits
      let s := match fec with | some n => s.bump .inlFec q 31 0 n | none => s.bump .inlFec q 63 32 1
      match e with
      | none => s.bump .inlDrop q 63 48 1
      | some e =>
        if 100000000 ≤ (s.port q).taken then s.bump .inlDrop q 63 48 1
        else
          let s := s.updPort q fun p => { p with taken := p.taken + 1 }
          match k.1 with
          | .arp | .nd => s.frameOut q k.2
          | .echo => s.direct q k.2
          | .other => s.bump .inlDrop q 47 32 1
          | .vezil =>
            match s.udpIn q e with
            | none => s
            | some (a, v) =>
              if !vfOk [1, 2, 5] v then s.bump .inlDrop q 31 16 1
              else if vfType v = 5 then s.probe q a v
              else s.admitFrame { port := q, ctx := 0, slot := 0, share := false, bytes := v, len := f.length, addr := a } none

/-- A frame of an ingest command (R606): `share` for SHARES_SUBMIT. -/
def State.hostFrame (s : State) (pf k : Nat) (share : Bool) (v : Bytes) : State :=
  let f : Frame := { port := 4 + pf, index := k, ctx := pf, slot := 0, share := share, bytes := v }
  if !vfOk [if share then 2 else 1] v then s.refuseEarly f none .refused .none
  else s.admitFrame f (some pf)

/-- ENQUEUE_WAIT_EXPIRE (R422, R464, R606): the frame that has waited longest finds no credit in its time. -/
def State.waitExpire (s : State) (port : Nat) : State :=
  let s := s.retryCredits
  if port < 4 then
    match (s.port port).waiting with
    | [] => s
    | f :: l => ((s.updPort port fun p => { p with waiting := l }).refuseEarly f (some f.ctx) .busy .base).retryCredits
  else
    match s.inlets.hostWaiting.find? fun f => f.port == port with
    | none => s
    | some f =>
      let l := s.inlets.hostWaiting.filter (· != f)
      (({ s with inlets := { s.inlets with hostWaiting := l } }).refuseEarly f (some f.ctx) .busy .base).retryCredits

/-! ### Serving a frame in its flow -/

/-- A frame admitted and not yet decided. -/
def State.frameOf (s : State) (id : Nat) : Option Frame := s.inlets.frames.find? fun f => f.id == id

/-- The frame is the first of its flow, and no add holds the flow (R66, R423). -/
def State.frameTurn (s : State) (f : Frame) : Bool :=
  !s.flowHeld f.ctx f.slot &&
    match s.flowHead (flowId f.ctx f.slot) with
    | some it => leAt it.payload 0 4 == f.id || !(it.kind == 1 || it.kind == 2)
    | none => true

/-- A frame leaves its flow. -/
def State.frameDone (s : State) (f : Frame) : State :=
  let mine (i : WorkItem) : Bool := i.cls == 0 && (i.kind == 1 || i.kind == 2) && i.flow == flowId f.ctx f.slot && leAt i.payload 0 4 == f.id
  ({ s with
    inlets := { s.inlets with frames := s.inlets.frames.filter fun g => g.id != f.id }
    ringer := { s.ringer with items := s.ringer.items.filter fun i => !mine i } }).wakeWaiters

/-- The harvest of the frame is still the one its context holds. -/
def State.sameHarvest (s : State) (f : Frame) : Bool := (s.ctx f.ctx).st != .closed && hvId (s.ctx f.ctx) == vfHid f.bytes

/-- The slot, the part and the path are served here (Table HVS-8, row 2). -/
def State.partServed (s : State) (f : Frame) : Bool :=
  let x := s.ctx f.ctx
  s.servesSlot x f.slot && vfPart f.bytes == partByte x && bitOf (hvPaths x) (if f.port < 4 then 0 else 1)

/-- What the rows of Table HVS-8 say of a chunk before it is decrypted: an answer, or the context to decrypt it under.
A COUNT other than C falls under row 5 (DEDUCED, log entry 31). -/
inductive ChunkStep where
  | refuse (st : Status) (h : Hint)
  | resend (mac : Bytes)
  | setup
  | open_ (key nonce : Bytes)

/-- Rows 1 to 8, and the table's limit (R424). -/
def State.chunkRows (s : State) (f : Frame) : ChunkStep :=
  let x := s.ctx f.ctx
  let c := vfChunk f.bytes
  let kept := if s.sameHarvest f then keptReceipt x f.slot else none
  if !s.sameHarvest f || pastFreeze x f.slot then
    match kept with | some m => .resend m | none => .refuse .late .none
  else if !s.partServed f then .refuse .refused .none
  else if paused x then .refuse .paused .pause
  else
    match kept with
    | some m => .resend m
    | none =>
      if partChunks x ≤ c ∨ vfCount f.bytes ≠ partChunks x then .refuse .refused .none
      else
        match slotCtx x f.slot with
        | some e =>
          if e.key = [] then .refuse .refused .none
          else if c = 0 ∧ lowOrder (vfEnc f.bytes) then .refuse .lowOrder .none
          else if c = 0 ∧ vfEnc f.bytes ≠ e.enc then .refuse .refused .none
          else .open_ e.key e.baseNonce
        | none =>
          if c ≠ 0 then .refuse .refused .base
          else if lowOrder (vfEnc f.bytes) then .refuse .lowOrder .none
          else if 65536 ≤ s.slotsInUse then .refuse .busy .base4
          else match f.hpke with
            | some (k, n, _) => .open_ k n
            | none => if s.rosterLost f.ctx f.slot then .refuse .uncorrectable .none else .setup

/-- SLOT_CONTEXT_SETUP (R425): Keyhold's decapsulation in mode_auth for a chunk 0 without a context, or for a share batch. Its key
goes through KEYREG, for which it waits while another holder has it (R507; DEDUCED, log entry 68). Where the sender's key or enc is of small
order nothing is loaded. -/
def State.frameSetup (s : State) (f : Frame) : State :=
  let x := s.ctx f.ctx
  let n := rosterN x
  let info := if f.share then ascii "VZ shares" ++ hvId x ++ beBytes 4 f.slot
    else ascii "VZ contrib" ++ hvId x ++ beBytes 4 f.slot ++ [BitVec.ofNat 8 (partByte x)] ++ beBytes 4 (partChunks x)
  let need := if f.share then s.sameHarvest f && decide (f.slot < n)
    else match s.chunkRows f with | .setup => true | _ => false
  if !need || s.rosterLost f.ctx f.slot || s.keyhold.keyreg.holder.isSome then s
  else
    match s.hpkeAuth (vfEnc f.bytes) (rosterAuthPk x f.slot) info with
    | none => s
    | some h =>
      let hp := (h.key, h.baseNonce, Crypto.hpkeExport h (ascii "VZ receipt") 32)
      let s := s.count .khdCurve 0 2
      { s with inlets := { s.inlets with frames := s.inlets.frames.map fun g => if g.id == f.id then { g with hpke := some hp } else g } }

/-- Place for one more part in STAGING (row 12): the lowest free of its equal places. -/
def State.reserve (s : State) (c : Nat) : Option Nat :=
  let x := s.ctx c
  let l := partBytes x
  let base := s.partBase c 0
  let taken (k : Nat) : Bool := x.slots.any fun e => e.base == base + k * l
  match (List.range (x.slots.length + 1)).find? fun k => !taken k with
  | some k => if (k + 1) * l ≤ s.partLen c 0 then some (base + k * l) else none
  | none => none

/-- A chunk staged and acknowledged (row 13, R366); with the last one the add begins. -/
def State.stageChunk (s : State) (f : Frame) (pt : Bytes) : State :=
  let c := vfChunk f.bytes
  let o : Origin := { port := f.port, index := f.index, tag := vfTag f.bytes, addr := f.addr }
  match slotCtx (s.ctx f.ctx) f.slot with
  | none => s
  | some e =>
    let s := s.storeWrite (e.base + 8192 * c) pt
    let s := s.updCtx f.ctx fun x => { x with slots := x.slots.map fun e =>
      if e.slot == f.slot then { e with digests := insertN e.digests c (Crypto.sha256 (vfCipher f.bytes)), last := some o } else e }
    let x := s.ctx f.ctx
    let ack := receiptFrame 1 (partByte x) f.slot c (vfTag f.bytes) (hvId x) (List.replicate 16 0)
    if e.digests.length + 1 = partChunks x then
      let s := if 4 ≤ f.port then s else s.frameReply f ack
      (s.frameDone f).partStaged f.ctx f.slot
    else (s.frameReply f ack).frameDone f

/-- A chunk 0 makes the slot STAGING, with its context and its reservation (row 13, R424). -/
def State.beginSlot (s : State) (f : Frame) (base : Nat) : State :=
  match f.hpke with
  | none => s
  | some (k, n, r) =>
    let x := s.ctx f.ctx
    let e : SlotCtx := { slot := f.slot, key := k, baseNonce := n, receiptKey := r, enc := vfEnc f.bytes, count := partChunks x, base := base, len := partBytes x }
    s.updCtx f.ctx fun x => { setStatus x f.slot 1 with slots := x.slots ++ [e] }

/-- Rows 9 to 13 for a decrypted chunk. -/
def State.chunkOpened (s : State) (f : Frame) (pt : Bytes) : State :=
  let x := s.ctx f.ctx
  let c := vfChunk f.bytes
  let no (st : Status) (h : Hint) : State := (s.frameRefuse f st h).frameDone f
  if pt.length ≠ min 8192 (partBytes x - 8192 * c) then no .refused .none
  else
    match slotCtx x f.slot with
    | some e =>
      if (lookupN e.digests c).isSome then
        (s.frameReply f (receiptFrame 1 (partByte x) f.slot c (vfTag f.bytes) (hvId x) (List.replicate 16 0))).frameDone f
      else s.stageChunk f pt
    | none =>
      match s.reserve f.ctx with
      | none => no .refused .base4
      | some base => (s.beginSlot f base).stageChunk f pt

/-- CHUNK_SERVE (R365, Table HVS-8): nothing while its context is still being set up, or before its turn in the flow. Where the
slot's ledger byte cannot be read the harvest is voided, and the chunk is LATE (R393, row 1). -/
def State.chunkServe (s : State) (f : Frame) (tally : Option (Nat × Upset)) : State :=
  let x := s.ctx f.ctx
  if !s.frameTurn f then s
  else if s.sameHarvest f && ctxLive x.st && !tallyOk x f.slot tally then
    ((s.fatalVoid f.ctx 5 0 f.slot).frameRefuse f .late .none).frameDone f
  else
    let s := if s.sameHarvest f then s.tallyRead f.ctx f.slot tally id else s
    match s.chunkRows f with
    | .refuse st h => (s.frameRefuse f st h).frameDone f
    | .resend m =>
      let s := s.updCtx f.ctx fun x => { x with receiptsSent := satAdd 32 x.receiptsSent 1 }
      (s.frameReply f (receiptOf x f.slot (vfTag f.bytes) m)).frameDone f
    | .setup => s
    | .open_ k n =>
      let c := vfChunk f.bytes
      let aad := hvId x ++ beBytes 4 f.slot ++ [BitVec.ofNat 8 (partByte x)] ++ beBytes 4 c
      match Crypto.gcmOpen k (Crypto.hpkeNonce n c) aad (vfCipher f.bytes) with
      | none => (s.frameRefuse f .authFail .none).frameDone f
      | some pt => s.chunkOpened f pt

/-! ### Link state and statistics -/

/-- INLET_LINK_STATE (R411, R414, R435): a port held down stays DOWN; losing the link loses what waits in its buffer. -/
def State.inletLink (s : State) (q st : Nat) : State :=
  let p := s.port q
  let st := if p.loopbackFail || !bitOf (s.reg .inlPctl q) 0 || s.dev.bootStep < 9 then 0 else st
  if st = p.link then s
  else
    let s := s.updPort q fun p => { p with link := st, waiting := if st = 2 then p.waiting else [] }
    let s := s.linkStateEvent 0 q st
    if st = 2 then s.announce q else s

/-- STATS_SECOND (R433): once in each second of the toll counter. -/
def State.statsSecond (s : State) : State :=
  if s.second = s.inlets.statsAt then s
  else
  (List.range 4).foldl (fun s c =>
    let x := s.ctx c
    if !ctxLive x.st then s
    else
      let s := if x.refusals.all (· == 0) then s else s.event c 0x04 c 0 (x.refusals.flatMap (leBytes 4))
      let s := if x.receiptsSent = 0 then s else s.event c 0x03 c 0 (leBytes 4 x.receiptsSent)
      s.updCtx c fun x => { x with refusals := List.replicate 7 0, receiptsSent := 0 })
    { s with inlets := { s.inlets with statsAt := s.second } }

end Sys2Proof.Machine
end

