-- ==== Sys2Proof/Machine/HarvestFlow.lean ====
section
/-! DEFINITION. Freeze, shares, reconstruction and the removal of masks (HVS, R369 to R373, R379; LDG, R390 to R394; GRN,
R308 to R324). -/
namespace Sys2Proof.Machine

open Sys2Proof

/-! ### Tally freeze (R369, R370) -/

/-- The result of TALLY_FREEZE (Table HST-5). -/
def freezeResult (c : Ctx) : Bytes := leBytes 4 c.counts.survivors ++ leBytes 4 c.counts.dropped

/-- The freeze points passed, as a bound below which all have and the slots beyond it that have. -/
def freezeMark (c : Ctx) : Nat → Ctx
  | 0 => c
  | n + 1 =>
    if c.frozen.contains c.frozenUpTo then
      freezeMark { c with frozen := c.frozen.filter (· != c.frozenUpTo), frozenUpTo := c.frozenUpTo + 1 } n
    else c

/-- A slot's freeze point: ABSENT and STAGING become DROPPED, and its staging is discarded (R369). -/
def freezeSlot (c : Ctx) (slot : Nat) : Ctx :=
  let c := if isAdded c slot then c
    else { setStatus (setGranted c slot false) slot 3 with
      slots := c.slots.filter fun e => e.slot != slot, adds := c.adds.filter fun a => a.slot != slot }
  let c := { c with frozen := c.frozen ++ [slot] }
  freezeMark c (c.frozen.length + 1)

/-- TALLIED, with the share window started (R370, R372); the Treble alone times it. -/
def State.tallied (s : State) (c : Nat) (miss : Bool) : State :=
  let s := s.updCtx c fun x => { x with
    freezing := false, floorMiss := miss, windowOn := hvWindow x != 0 && (!x.quad || s.isTreble), windowLeft := hvWindow x * 1000 }
  s.enterState c .tallied (if miss then .floorNotMet else .ok)

/-- The Treble's freeze list: the status, and one bit per slot, set where the slot is ADDED (log entry 22). -/
def freezeList (c : Ctx) : Bytes :=
  leBytes 2 (if c.floorMiss then statusCode .floorNotMet else 0) ++
    (List.range ((rosterN c + 7) / 8)).map fun k =>
      BitVec.ofNat 8 ((List.range 8).foldl (fun v i => v + b2n (isAdded c (8 * k + i)) * 2 ^ i) 0)

/-- The last freeze point has passed: TALLY_FREEZE completes. The floor is tested over the carried survivors, as gate
condition 1 is (DEDUCED, log entry 35). -/
def State.freezeEnds (s : State) (c : Nat) : State :=
  let miss := decide (carried (s.ctx c) < effFloor (s.ctx c))
  let s := s.tallied c miss
  let s := if (s.ctx c).quad then s.ctlAll .freezeList (freezeList (s.ctx c)) else s
  match (s.fn c).serving with
  | some v => if v.cmd == .tallyFreeze then s.finish c (if miss then .floorNotMet else .ok) (freezeResult (s.ctx c)) else s
  | none => s

/-- FREEZE_ITEM_SERVE (R369, R45, R296): after the frames and the add of its flow. -/
def State.freezeServe (s : State) (c slot : Nat) (tally : Option (Nat × Upset)) : State :=
  let x := s.ctx c
  if !(x.st == .gathering && x.freezing) || rosterN x ≤ slot || pastFreeze x slot || s.flowHeld c slot ||
      !(s.flowItems (flowId c slot)).isEmpty then s
  else
    s.tallyRead c slot tally fun s =>
      let s := s.updCtx c fun x => freezeSlot x slot
      if (s.ctx c).frozenUpTo = rosterN x then s.freezeEnds c else s

/-- TALLY_FREEZE, served. -/
def State.runFreeze (s : State) (c : Nat) : State :=
  let x := s.ctx c
  if s.notTreble c then s.finish c .refused (List.replicate 8 0)
  else
    match ctxGate x [.gathering] [] [.tallied, .unmasking, .settling, .released] with
    | some st => s.finish c st (if st == .ok then freezeResult x else List.replicate 8 0)
    | none =>
      if paused x then s.finish c .paused (List.replicate 8 0)
      else s.updCtx c fun x => { x with freezing := true }

/-- The Treble's list, applied by a member. -/
def State.applyFreeze (s : State) (c : Nat) (body : Bytes) : State :=
  let x := s.ctx c
  if x.st != .gathering then s
  else
    let slots := (slotList x).filter (s.servesSlot x)
    let x' := slots.foldl (fun x i =>
      if isAdded x i || bitOf (byteAt (body.drop 2) (i / 8)) (i % 8) then x else setStatus (setGranted x i false) i 3) x
    let s := s.updCtx c fun _ => { x' with slots := [], adds := [] }
    s.tallied c (leAt body 0 2 != 0)

/-! ### Shares (R371, Table GRN-4) -/

/-- Fields of a share record (Table GRN-3). -/
def shareOwner (r : Bytes) : Nat := leAt r 0 4
def shareHolder (r : Bytes) : Nat := leAt r 4 4
def shareKind (r : Bytes) : Nat := byteAt r 8
def shareY (r : Bytes) (i : Nat) : Nat := leAt r (16 + 8 * i) 8

/-- An owner's byte goes from the Treble to where it stands too: every member in SHARD, the owner's HOME in SPLIT (R61, R379). -/
def State.tellByte (s : State) (c slot : Nat) : State :=
  let x := s.ctx c
  let body := leBytes 4 slot ++ [BitVec.ofNat 8 (ledgerByte x slot)]
  match hvMode x with
  | 1 => s.ctlAll .ledgerBytes body
  | 2 => if homedHere x slot then s else s.ctl (rosterHome x slot) .ledgerBytes body
  | _ => s

/-- Checks 1 to 6. -/
def shareFail (c : Ctx) (holder : Nat) (r : Bytes) : Option Status :=
  if shareHolder r != holder || decide (rosterN c ≤ shareOwner r) || !(rosterNeighbours c (shareOwner r)).contains holder ||
      !isAdded c holder then some .refused
  else if !allZero (slice r 9 7) then some .reservedNonzero
  else if !(shareKind r == 1 || shareKind r == 2) then some .badEnum
  else if (List.range 5).any fun i => decide (fieldP ≤ shareY r i) then some .notCanonical
  else none

/-- Check 7 at the owner's byte (R391); a byte that cannot be read voids the harvest (R393). -/
def State.reveal (s : State) (c : Nat) (r : Bytes) (tally : Option (Nat × Upset)) : Bool × State :=
  let o := shareOwner r
  let k := shareKind r
  let b := ledgerByte (s.ctx c) o
  if !tallyOk (s.ctx c) o tally then (false, s.fatalVoid c 5 0 o)
  else
    let s := s.tallyRead c o tally id
    if ledStatus b == k + 1 && (ledReveal b == 0 || ledReveal b == k) then
      (true, if ledReveal b = 0 then
          let t := s.updCtx c fun x => setLedger x o (setBits b 3 2 k)
          if hvMode (s.ctx c) = 1 then t.tellByte c o else t
        else s)
    else (false, s.updCtx c fun x => { x with conflicts := satAdd 32 x.conflicts 1 })

/-- Check 8, and the share kept for reconstruction (R392). -/
def holdShare (c : Ctx) (r : Bytes) : Ctx :=
  let o := shareOwner r
  let h := shareHolder r
  if (c.shares.any fun e => e.owner == o && e.holder == h) || ledVerified (ledgerByte c o) then c
  else
    let x := ((rosterNeighbours c o).takeWhile (· != h)).length + 1
    { c with shares := c.shares ++ [{ owner := o, holder := h, kind := shareKind r, x := x, y := slice r 16 40 }] }

/-- A record whose reveal is decided here: kept, or sent on to the Treble (R379). -/
def State.revealShare (s : State) (c : Nat) (r : Bytes) (tally : Option (Nat × Upset)) : Bool × State :=
  match s.reveal c r tally with
  | (false, s) => (false, s)
  | (true, s) =>
    (true, if hvMode (s.ctx c) = 2 ∧ !s.isTreble then s.ctl s.treble .shareForward r else s.updCtx c fun x => holdShare x r)

/-- One record of an accepted batch. In SPLIT a record for an owner homed elsewhere is sent there, where check 7 decides it;
the batch counts it as accepted (DEDUCED, log entry 36). -/
def State.takeShare (s : State) (c holder : Nat) (r : Bytes) (tally : Option (Nat × Upset)) : Bool × State :=
  let x := s.ctx c
  if !sharePhase x || s.rosterLost c (shareOwner r) then (false, s)
  else
    match shareFail x holder r with
    | some _ => (false, s)
    | none =>
      let home := rosterHome x (shareOwner r)
      if hvMode x = 2 ∧ home ≠ s.power.pos then (true, s.ctl home .reveal r) else s.revealShare c r tally

/-- The records of a batch: accepted, refused. -/
def State.takeShares (s : State) (c holder : Nat) (tally : Option (Nat × Upset)) : List Bytes → Nat → Nat → (Nat × Nat) × State
  | [], a, n => ((a, n), s)
  | r :: rest, a, n =>
    match s.takeShare c holder r tally with
    | (true, s) => s.takeShares c holder tally rest (a + 1) n
    | (false, s) => s.takeShares c holder tally rest a (n + 1)

/-- Why a batch is refused as a whole before it is opened (R371, R386, R436). -/
def State.batchFail (s : State) (f : Frame) : Option (Status × Hint) :=
  let x := s.ctx f.ctx
  if s.sameHarvest f && (x.st == .opened || x.st == .gathering) then some (.refused, .base)
  else if !s.sameHarvest f || !sharePhase x then some (.late, .none)
  else if paused x then some (.paused, .pause)
  else if x.floorMiss then some (.floorNotMet, .none)
  else if decide (rosterN x ≤ f.slot) || !s.reconstructsFor x f.slot then some (.refused, .none)
  else if lowOrder (vfEnc f.bytes) then some (.lowOrder, .none)
  else none

/-- SHARE_BATCH_SERVE (R371): nothing while Keyhold still sets the batch up, or before its turn in the flow. -/
def State.shareServe (s : State) (f : Frame) (tally : Option (Nat × Upset)) : State :=
  if !s.frameTurn f then s
  else
    let no (st : Status) (h : Hint) : State := (s.frameRefuse f st h).frameDone f
    match s.batchFail f with
    | some (st, h) => no st h
    | none =>
      match f.hpke with
      | none => if s.rosterLost f.ctx f.slot then no .uncorrectable .none else s
      | some (k, n, _) =>
        match Crypto.gcmOpen k (Crypto.hpkeNonce n 0) [] (vfCipher f.bytes) with
        | none => no .authFail .none
        | some pt =>
          if pt.length % 56 != 0 || pt.length < 56 || decide (7168 < pt.length) then no .refused .none
          else if !tallyOk (s.ctx f.ctx) f.slot tally then ((s.fatalVoid f.ctx 5 0 f.slot).frameRefuse f .late .none).frameDone f
          else
            let ((a, r), s) := s.takeShares f.ctx f.slot tally (chunksOf 56 (pt.length / 56) pt) 0 0
            (s.frameReply f (receiptFrame 3 0 f.slot (a * 65536 + r) (vfTag f.bytes) (vfHid f.bytes) (List.replicate 16 0))).frameDone f

/-! ### Reconstruction (R316, R319 to R321) -/

/-- This device reconstructs for the context: a local harvest, or the Treble. -/
def State.reconstructs (s : State) (c : Nat) : Bool := !(s.ctx c).quad || s.isTreble

/-- In SPLIT, every member's partial sum and ledger bytes have been merged (R379). -/
def State.sumsMerged (s : State) (c : Nat) : Bool :=
  hvMode (s.ctx c) != 2 || s.peers.all fun p => (s.ctx c).merged.contains p && (s.ctx c).merged.contains (p + 4)

/-- The valid shares held for an owner, by ascending x. -/
def heldShares (c : Ctx) (o : Nat) : List Share :=
  let l := c.shares.filter fun e => e.owner == o
  (List.range (hvK c + 1)).flatMap fun x => l.filter fun e => e.x == x

/-- The shares of attempt m (R319); none where the attempt is skipped or its shares do not exist. -/
def attemptSet (c : Ctx) (o m : Nat) : Option (List Share) :=
  let held := heldShares c o
  let t := hvT c
  if held.length < t then none
  else
    let set1 := held.take t
    if m = 1 then some set1
    else
      let q := (t + 3) / 4
      let lo := min ((m - 2) * q) t
      let hi := min ((m - 1) * q) t
      let more := (held.drop t).take (hi - lo)
      if more.length < hi - lo then none else some (set1.take lo ++ set1.drop hi ++ more)

/-- The next attempt after `done` of them. -/
def nextAttempt (c : Ctx) (o done : Nat) : Option (Nat × List Share) :=
  (((List.range 6).drop 1).filter fun m => decide (done < m)).findSome? fun m => (attemptSet c o m).map fun l => (m, l)

/-- An attempt's limb i (R320): Σ y λ over GF(2^61 − 1), of shares as x-coordinate and limbs. -/
def limbOf (l : List (Nat × Bytes)) (i : Nat) : Nat :=
  l.foldl (fun acc e =>
    let lam := l.foldl (fun v m => if m.1 = e.1 then v else
      v * (m.1 * fieldInv ((m.1 + fieldP - e.1) % fieldP) % fieldP) % fieldP) 1
    (acc + leAt e.2 (8 * i) 8 * lam) % fieldP) 0

/-- The secret of an attempt; none when a limb is out of range (R321). -/
def joinLimbs (l : List (Nat × Bytes)) : Option Bytes :=
  let z := (List.range 5).map (limbOf l)
  if (z.take 4).any (fun v => decide (2 ^ 52 ≤ v)) || decide (2 ^ 48 ≤ z.getD 4 0) then none
  else some (leBytes 32 (z.zipIdx.foldl (fun a e => a + e.1 * 2 ^ (52 * e.2)) 0))

/-- Keyhold's verification of a secret against the roster (R321). -/
def secretOk (c : Ctx) (o : Nat) (z : Bytes) : Bool :=
  if ledReveal (ledgerByte c o) = 1 then Crypto.sha256 z == rosterCommit c o else dhPublic z == rosterMaskPk c o
def State.verifies (s : State) (c o : Nat) (z : Bytes) : Bool := !s.rosterLost c o && secretOk (s.ctx c) o z

/-- The reconstruction record of an owner. -/
def reconOf (c : Ctx) (o : Nat) : Recon := (c.recons.find? fun r => r.owner == o).getD { owner := o }
def setRecon (c : Ctx) (r : Recon) : Ctx := { c with recons := (c.recons.filter fun e => e.owner != r.owner) ++ [r] }

/-- RECOVERY_FAILED is recorded for an owner, with its event (R319, R400). -/
def State.recoveryFailed (s : State) (c o : Nat) : State :=
  let s := s.updCtx c fun x =>
    { setLedger x o (setBits (ledgerByte x o) 5 5 1) with
      recons := x.recons.filter fun e => e.owner != o, shares := x.shares.filter fun e => e.owner != o }
  (s.tellByte c o).errorEvent (some c) (statusCode .recoveryFailed) 7 0 0 o 0

/-- The Pan whose Grainer reconstructs for an owner, as a rank (R319). -/
def State.reconRank (s : State) (c o : Nat) : Nat := o % max 1 (s.pansOf c).length

/-- That Pan. -/
def State.reconPan (s : State) (c o : Nat) : Nat := (s.pansOf c).getD (s.reconRank c o) 0

/-! ### Masks (R308, R310, R311, Table GRN-2) -/

/-- The masks that a verified owner's secret gives: the neighbour (the owner itself for a self mask). -/
def masksOf (c : Ctx) (o : Nat) : List Nat := if isAdded c o then [o] else (rosterNeighbours c o).filter (isAdded c)

/-- The next mask to issue: lowest verified owner first, its neighbours in ascending order. -/
def nextMask (c : Ctx) : Option (Nat × Nat × Bytes) :=
  (slotList c).findSome? fun o =>
    match (reconOf c o).secret with
    | none => none
    | some z => ((masksOf c o).find? fun i => !c.masks.any fun m => m.owner == o && m.neighbour == i).map fun i => (o, i, z)

/-- The seed of a mask (R305, R322). -/
def maskSeed (c : Ctx) (o i : Nat) (z : Bytes) : Bytes :=
  if i = o then z
  else
    let info := ascii "VZ pair" ++ beBytes 4 (min i o) ++ beBytes 4 (max i o)
    Crypto.hkdfExpand Crypto.hash256 (Crypto.hkdfExtract Crypto.hash256 (hvId c) ((dh z (rosterMaskPk c i)).getD [])) info 32

/-- Every Pan of the context has room in its ledger-seed queue. -/
def State.seedRoom (s : State) (c : Nat) : Bool := (s.pansOf c).all fun p => decide ((s.pan p).seedQ.length < 16)

/-- An entry goes to every Pan of the context (R308). -/
def State.seedToPans (s : State) (c tag : Nat) (sub : Bool) (seed : Bytes) : State :=
  (s.pansOf c).foldl (fun s p => s.updPan p fun q => { q with seedQ := q.seedQ ++ [{ seed := seed, sub := sub, tag := tag }] }) s

/-- Every reconstruction of the harvest has ended: the stage before derivation and expansion (R56, Table ARC-2). -/
def allResolved (c : Ctx) : Bool := (slotList c).all fun o => !isNeeded c o || isResolved c o

/-- LEDGER_SEED_ISSUE (R308, R310, R322, R324). -/
def State.issueSeed (s : State) (c : Nat) : State :=
  let x := s.ctx c
  if x.st != .unmasking || paused x || !s.reconstructs c || !s.sumsMerged c || !allResolved x || !s.seedRoom c then s
  else
    match nextMask x with
    | none => s
    | some (o, i, z) =>
      if i ≠ o ∧ s.rosterLost c i then s
      else
        let seed := maskSeed x o i z
        let sub := i ≤ o
        let tag := x.nextTag
        let m : MaskEntry := { tag := tag, owner := o, neighbour := i, sub := sub, seed := seed }
        let s := s.updCtx c fun x => { x with nextTag := tag + 1, masks := x.masks ++ [m], issuedCount := x.issuedCount + 1 }
        let s := if i = o then s else s.count .khdCurve 0 1
        let s := s.seedToPans c tag sub seed
        if hvMode x = 1 then s.ctlAll .ledgerSeed (leBytes 4 tag ++ [BitVec.ofNat 8 (b2n sub)] ++ seed) else s

/-- A member takes a ledger seed from the Treble; one that finds a full queue waits (R308, R324). -/
def State.memberSeed (s : State) (c : Nat) (body : Bytes) : State :=
  let tag := leAt body 0 4
  let sub := byteAt body 4 == 1
  let seed := slice body 5 32
  let m : MaskEntry := { tag := tag, owner := 0, neighbour := 0, sub := sub, seed := [] }
  let s := s.updCtx c fun x => { x with masks := x.masks ++ [m] }
  if s.seedRoom c && (s.ctx c).seedWait.isEmpty then s.seedToPans c tag sub seed
  else s.updCtx c fun x => { x with seedWait := x.seedWait ++ [(tag, sub, seed)] }

/-- A waiting seed takes the room that an entry has left. -/
def State.feedSeed (s : State) (c : Nat) : State :=
  match (s.ctx c).seedWait with
  | [] => s
  | (tag, sub, seed) :: l =>
    if s.seedRoom c then (s.updCtx c fun x => { x with seedWait := l }).seedToPans c tag sub seed else s

/-- A mask's completion by a Pan (or by a whole member, Pan 0xFF) is noted. -/
def maskDone (c : Ctx) (tag pos pan : Nat) : Ctx :=
  { c with masks := c.masks.map fun m =>
    if m.tag == tag && !m.done.contains (pos, pan) then { m with done := m.done ++ [(pos, pan)] } else m }

/-- A mask counts as removed once every Pan here, and in SHARD every member, has completed it (R311). The seed is gone
then. -/
def State.maskRemoved (s : State) (c tag : Nat) : State :=
  let x := s.ctx c
  let pans := s.pansOf c
  match x.masks.find? fun m => m.tag == tag with
  | none => s
  | some m =>
    let all := (pans.all fun p => m.done.contains (s.power.pos, p)) &&
      (hvMode x != 1 || s.peers.all fun q => m.done.contains (q, 0xFF))
    if m.removed || !all then s
    else s.updCtx c fun x => { x with
      removedCount := x.removedCount + 1
      masks := x.masks.map fun m => if m.tag == tag then { m with removed := true, seed := [] } else m }

/-- Everything that Table GRN-2 calls for has ended (R373). -/
def State.unmasked (s : State) (c : Nat) : Bool :=
  let x := s.ctx c
  x.st == .unmasking && s.reconstructs c && s.sumsMerged c && allResolved x &&
    (nextMask x).isNone && x.masks.all (·.removed)

end Sys2Proof.Machine
end

