-- ==== Sys2Proof/Machine/Settle.lean ====
section
/-! DEFINITION. Unmasking's end, the Settling steps, the release gate, the seal and the release (HVS, R372 to R375; LDG, R396
to R402, R405; KTL, R265, R266; CAR, R579). -/
namespace Sys2Proof.Machine

open Sys2Proof

/-! ### Settling steps (R396 to R399) -/

/-- The Pan steps that run, in order (Table LDG-4). -/
def panSteps (c : Ctx) : List Nat :=
  (if hvSigmaNum c = 0 then [] else [2]) ++ (List.range 4).filterMap fun i => if bitOf (hvSettling c) i then some (3 + i) else none

/-- The last Pan step that runs; 0 when none does. -/
def lastStep (c : Ctx) : Nat := (panSteps c).getLastD 0

/-- The token of a step goes to every Pan of the context on this device (R397). -/
def State.stepTokens (s : State) (c k : Nat) : State := (s.pansOf c).foldl (fun s p => s.portItem c p 63 true (leBytes 4 k)) s

/-- The participating Pans: (position, Pan). All members hold one image, so their Pans are those of this device (R397,
R567). -/
def State.participants (s : State) (c : Nat) : List (Nat × Nat) :=
  if hvMode (s.ctx c) = 1 then s.memberList.flatMap fun m => (s.pansOf c).map fun p => (m, p)
  else (s.pansOf c).map fun p => (s.power.pos, p)

/-- What the Treble tells the members of a step: its number and a status (log entry 22): 0 unmasking begins, 1 Settling
begins or is held, 2 to 6 a Pan step. -/
def State.tellStep (s : State) (c k : Nat) (st : Status) : State :=
  if (s.ctx c).quad && s.isTreble then s.ctlAll .stepToken (BitVec.ofNat 8 k :: leBytes 2 (statusCode st)) else s

/-- A hold (R400): of a Quad-wide harvest on every member. -/
def State.hold (s : State) (c : Nat) (st : Status) : State := (s.tellStep c 1 st).holdCtx c st

/-- The Treble wants a member's gate report: its message says whether noise is missing there, and in SHARD it holds the reports
that count, in Pan order (log entry 22). -/
def State.askGate (s : State) (c p : Nat) : State :=
  let x := s.ctx c
  let of (q : Nat) : Bytes := match x.lastReports.find? fun e => e.1 == p && e.2.1 == q with | some e => e.2.2 | none => List.replicate 32 0
  s.ctl p .stepToken ([7, 0, 0, BitVec.ofNat 8 (b2n (x.noiseLacks.contains p))] ++
    if hvMode x = 1 then (s.pansOf c).flatMap of else [])

/-- A step begins; 7 is the gate, for which the members of a Quad report. -/
def State.beginStep (s : State) (c k : Nat) : State :=
  let s := s.updCtx c fun x => { x with step := k, reports := [], gateReports := if k = 7 then [] else x.gateReports }
  let s := if 2 ≤ k ∧ k ≤ 6 then s.stepTokens c k else s
  if k = 7 then (if (s.ctx c).quad && s.isTreble then s.peers.foldl (fun s p => s.askGate c p) s else s)
  else if hvMode (s.ctx c) = 1 then s.tellStep c k .ok
  else s

/-- Gate conditions 2 and 3 (Table LDG-6). -/
def masksOut (c : Ctx) : Bool :=
  (slotList c).all fun o => !isNeeded c o ||
    (ledVerified (ledgerByte c o) && (masksOf c o).all fun i => c.masks.any fun m => m.owner == o && m.neighbour == i && m.removed)

/-- The dirty epoch of the job holds the Settling steps and the gate back (R579). -/
def State.dirtyJob (s : State) (c : Nat) : Bool := s.car.job.any fun j => j.ctx == c && j.dirty

/-- Settling may go on: not held, not paused, no dirty epoch. -/
def State.settles (s : State) (c : Nat) : Bool :=
  let x := s.ctx c
  x.st == .settling && x.hold == 0 && !paused x && s.reconstructs c && !s.dirtyJob c

/-- The step in progress has ended. -/
def State.stepOver (s : State) (c : Nat) : Bool :=
  let x := s.ctx c
  if x.step ≤ 1 then true
  else if x.step ≤ 6 then (s.participants c).all fun e => x.reports.any fun r => r.1 == e.1 && r.2.1 == e.2
  else x.step == 7 && s.peers.all fun p => !x.quad || x.gateReports.any fun r => r.1 == p

/-! ### The gate (R400, Table LDG-6) -/

/-- The comparison of Table KTL-7, in exact arithmetic: T × N is a value of FP64. -/
def assayHolds (c : Ctx) (r : Bytes) : Bool :=
  let left : FVal := if leAt r 0 4 = 1 then .fin false (leAt r 8 8) 0 else fp64Of (leAt r 16 8)
  let right := (mulV (fp32Of (hvThreshold c)) (.fin false (leAt r 4 4) 0)).1
  match cmpV left right with
  | none => false
  | some k => assayValid c r && (k == 0 || k == (if hvCmp c = 1 then 2 else 1))

/-- ASSAY_RECORD (R265): the first record of the Assay step, at the Keyhold that runs the step. -/
def State.assayRecord (s : State) (c : Nat) (r : Bytes) : State :=
  let x := s.ctx c
  if x.st == .settling && x.step == 6 && x.assay.isNone then
    let r := padTo 32 r
    s.updCtx c fun x => { x with assay := some r, assayMet := assayHolds x r }
  else s

/-- Condition 4: a full read of the bytes finds each one legal, and reproduces the counters that were kept. -/
def ledgerLegal (c : Ctx) : Bool := (slotList c).all fun i => ledLegal c.quad (ledgerByte c i)
def countersHold (c : Ctx) : Bool := countSlots c (slotList c) == c.counts && c.issuedCount == c.removedCount

/-- Conditions 2 to 6 as a member sees its own part (R405): bits 2 to 6 of a gate report. Its part of 2 and 3 is the bytes that
stand in its Tally, and its Pans' removal of every mask that it was sent. -/
def State.partConditions (s : State) (c : Nat) : Nat :=
  let x := s.ctx c
  let mine := (slotList x).filter (s.servesSlot x)
  let removed := x.masks.all fun m => (s.pansOf c).all fun p => m.done.contains (s.power.pos, p)
  let verified (o : Nat) : Bool := ledVerified (ledgerByte x o)
  let two := removed && mine.all fun o => !isAdded x o || verified o
  let three := removed && mine.all fun o => !isDropped x o || (ledReveal (ledgerByte x o) == 0 && !isNeeded x o) || verified o
  b2n two * 4 + b2n three * 8 + b2n (ledgerLegal x && countSlots x (slotList x) == x.counts) * 16 +
    b2n (hvSigmaNum x == 0 || !x.noiseLacks.contains s.power.pos) * 32 + b2n (x.digests == s.fiveDigests c) * 64

/-- What the gate decides: `fault` where a ledger byte is illegal (Table FLT-3), `void` where the gate voids without a fault. -/
inductive GateOutcome where
  | met | held (st : Status) | fault | void
  deriving DecidableEq, Repr

/-- The first condition that fails (R400), over this device's own part and the members' reports (R405). -/
def State.gate (s : State) (c : Nat) : GateOutcome :=
  let x := s.ctx c
  let all (i : Nat) : Bool := x.gateReports.all fun r => bitOf r.2.1 i
  if carried x < effFloor x then .held .floorNotMet
  else if !masksOut x || !all 2 || !all 3 then .held .unmaskIncomplete
  else if !ledgerLegal x then .fault
  else if !countersHold x || !all 4 then .void
  else if hvSigmaNum x != 0 && (!x.noiseLacks.isEmpty || !all 5) then .held .policyForbids
  else if x.digests != s.fiveDigests c || !all 6 then .void
  else if hvMetric x != 0 && !x.assayMet then .held .assayGate
  else .met

/-- The gate is evaluated once every step and report is in: step 8 waits for the seal. -/
def State.runGate (s : State) (c : Nat) : State :=
  match s.gate c with
  | .held st => s.hold c st
  | .fault => s.fatalVoid c 5 0 0
  | .void => s.voidCtx c .lastingFault
  | .met => s.updCtx c fun x => { x with step := 8 }

/-- Settling goes on as far as it can (R396): called again at every event that may let it. -/
def State.settleOn (s : State) (c : Nat) : Nat → State
  | 0 => s
  | n + 1 =>
    let x := s.ctx c
    if !s.settles c || !s.stepOver c then s
    else if x.step = 0 then (s.updCtx c fun x => { x with step := 1 }).settleOn c n
    else if x.step = 1 ∧ !masksOut x then s.hold c .unmaskIncomplete
    else if x.step = 7 then s.runGate c
    else
      let s := s.updCtx c fun x => { x with lastReports := if x.step ≤ 1 then x.lastReports else x.reports }
      match (panSteps x).find? fun k => decide (x.step < k) with
      | some k => (s.beginStep c k).settleOn c n
      | none => (s.beginStep c 7).settleOn c n

/-- Settling goes on. -/
def State.settleAdvance (s : State) (c : Nat) : State := s.settleOn c 12

/-- Unmasking's end (R373). -/
def State.checkUnmasked (s : State) (c : Nat) : State :=
  if s.unmasked c then ((s.enterState c .settling .ok).tellStep c 1 .ok).settleAdvance c else s.settleAdvance c

/-- The share-submission phase ends (R372): UNMASKING, or SETTLING held under the floor. -/
def State.endPhase (s : State) (c : Nat) : State :=
  let x := s.ctx c
  if x.st != .tallied || !s.reconstructs c then s
  else
    let s := s.updCtx c fun x => { x with windowOn := false }
    if x.floorMiss then
      ((s.enterState c .settling .floorNotMet).tellStep c 1 .floorNotMet).finishSettle c .floorNotMet
    else
      ((s.enterState c .unmasking .ok).tellStep c 0 .ok).checkUnmasked c

/-! ### Rows of unmasking -/

/-- MASK_ENTRY_DONE (R311): a Pan completes the entry at the head of its queue; a failing accumulator read voids (R315). -/
def State.maskEntryDone (s : State) (p : Nat) (ups : List (Nat × Upset)) : State :=
  match s.expandEntry p ups with
  | (none, t) => t
  | (some (c, tag), s) =>
    let s := (s.updCtx c fun x => maskDone x tag s.power.pos p).feedSeed c
    if s.reconstructs c then (s.maskRemoved c tag).checkUnmasked c
    else
      match (s.ctx c).masks.find? fun m => m.tag == tag with
      | some m =>
        if (s.pansOf c).all fun p => m.done.contains (s.power.pos, p) then s.ctl s.treble .maskDone (leBytes 4 tag) else s
      | none => s

/-- RECON_ATTEMPT_START (R319). -/
def State.reconStart (s : State) (c o : Nat) : State :=
  let x := s.ctx c
  let busy := x.recons.any fun r => r.running.isSome && s.reconRank c r.owner == s.reconRank c o
  if x.st != .unmasking || paused x || !s.reconstructs c || !s.sumsMerged c || rosterN x ≤ o || !isNeeded x o || isResolved x o || busy then s
  else
    match nextAttempt x o (reconOf x o).attempts with
    | none => (s.recoveryFailed c o).checkUnmasked c
    | some (m, l) =>
      (s.updCtx c fun x => setRecon x { reconOf x o with attempts := m, running := some (l.map (·.x)) }).updPan (s.reconPan c o)
        fun q => { q with recon := some { owner := o, set_ := l.map fun e => (e.x, e.y) } }

/-- Crystalliser handshakes of an attempt (R320). -/
def reconShakes (t : Nat) : Nat := (2 * t * t + 5 * t + 31) / 32 + 160

/-- Keyhold's part of an attempt's end, with the limbs' result: a verified owner's shares are not used any more, and an attempt
that fails may be the last. -/
def State.reconResult (s : State) (c o : Nat) (z : Option Bytes) : State :=
  let x := s.ctx c
  let r := reconOf x o
  let s := if z.isSome && ledReveal (ledgerByte x o) == 2 then s.count .khdCurve 0 1 else s
  if z.any (s.verifies c o) then
    (s.updCtx c fun x => { setRecon (setLedger x o (setBits (ledgerByte x o) 4 4 1)) { r with running := none, secret := z } with
      shares := x.shares.filter fun e => e.owner != o }).tellByte c o
  else
    let s := s.updCtx c fun x => setRecon x { r with running := none }
    if (nextAttempt x o r.attempts).isNone then (s.recoveryFailed c o).checkUnmasked c else s

/-- RECON_ATTEMPT_DONE (R320, R321): the assigned Pan's lanes compute the limbs from its Grainer's store; Keyhold verifies the
result, and the store is zeroised (R307). -/
def State.reconDone (s : State) (c o : Nat) (tally : Option (Nat × Upset)) : State :=
  let x := s.ctx c
  if (reconOf x o).running.isNone || x.st != .unmasking then s
  else
    let p := s.reconPan c o
    let l := match (s.pan p).recon with | some r => r.set_ | none => []
    let s := s.updPan p fun q => { countWork q 2 (reconShakes (hvT x)) with recon := none }
    s.tallyRead c o tally fun s => s.reconResult c o (joinLimbs l)

/-! ### Step reports (R397, R398) -/

/-- A report from a Pan of a position is valid for the step in progress. -/
def State.reportOk (s : State) (c : Nat) (r : Bytes) : Bool :=
  let x := s.ctx c
  let k := x.step
  let loc := byteAt r 5
  let fmt := byteAt r 6
  let off := leAt r 8 8
  let len := leAt r 16 4
  let esize := if fmt = 0 then 4 else ringW x / 8
  leAt r 0 4 == 0x100 && byteAt r 4 == k && byteAt r 7 == 0 && allZero (slice r 20 12) &&
    (if k != lastStep x then loc == 0 && fmt == 0 && off == 0 && len == 0
     else
      decide (loc ≤ 1) && fmt == (if bitOf (hvSettling x) 0 then 0 else 1 + hvRing x) && len % esize == 0)

/-- The slice that a report names lies within the Pan's NEED, or within the ACCUM partition. -/
def State.reportFits (s : State) (c p : Nat) (r : Bytes) : Bool :=
  let off := leAt r 8 8
  let len := leAt r 16 4
  if byteAt r 5 = 0 then off % 32 == 0 && decide (off + len ≤ panBytes (s.pan p)) else decide (off + len ≤ s.partLen c 1)

/-- A Pan's report of a step comes to the Keyhold that collects the step: the Treble's in SHARD. `lack` says that the Pan's
CNOISE has not completed (R399). -/
def State.stepReport (s : State) (c pos p : Nat) (lack : Bool) (r : Bytes) : State :=
  let x := s.ctx c
  let total := (x.reports.map fun e => leAt e.2.2 16 4).sum + leAt r 16 4
  if x.st != .settling || x.hold != 0 || x.step < 2 || 6 < x.step || !s.reportOk c r || !(s.pansOf c).contains p ||
      2 ^ 31 < total || x.reports.any (fun e => e.1 == pos && e.2.1 == p) then s
  else
    (s.updCtx c fun x => { x with
      reports := x.reports ++ [(pos, p, r)]
      noiseLacks := if lack && x.step == 2 && !x.noiseLacks.contains pos then x.noiseLacks ++ [pos] else x.noiseLacks }).settleAdvance c

/-- STEP_REPORT (R397 to R399): from a Pan of this device. In SHARD a member's Keyhold sends it on to the Treble's, where the
slice it names fits. -/
def State.reportHere (s : State) (c p : Nat) (r : Bytes) : State :=
  let r := padTo 32 r
  let lack := !(s.pan p).noiseDone
  if (s.ctx c).st != .settling || !(s.pansOf c).contains p || !s.reportFits c p r then s
  else if s.reconstructs c then s.stepReport c s.power.pos p lack r
  else if hvMode (s.ctx c) = 1 ∧ s.reportOk c r then s.ctl s.treble .stepReport ([BitVec.ofNat 8 p, BitVec.ofNat 8 (b2n lack)] ++ r)
  else s

/-! ### The result (R401, R402) -/

/-- The result slice of a Pan of this device; none where it cannot be read. -/
def State.resultSlice (s : State) (c p : Nat) : Option Bytes :=
  let x := s.ctx c
  if lastStep x = 0 then s.accRead c p 0 ((s.sliceOf c p).2 * (ringW x / 8))
  else
    match x.lastReports.find? fun e => e.1 == s.power.pos && e.2.1 == p with
    | none => some []
    | some e =>
      let off := leAt e.2.2 8 8
      let len := leAt e.2.2 16 4
      if byteAt e.2.2 5 = 0 then panRead (s.pan p) off len else s.storeRead (s.partBase c 1 + off) len

/-- Every slice of this device, in Pan order. -/
def State.ownSlices (s : State) (c : Nat) : Option Bytes :=
  (s.pansOf c).foldl (fun o p => match o, s.resultSlice c p with | some a, some b => some (a ++ b) | _, _ => none) (some [])

/-- The whole result: by member rank in SHARD. -/
def State.resultData (s : State) (c : Nat) : Option Bytes :=
  let x := s.ctx c
  if hvMode x = 1 then
    x.ranks.foldl (fun o m =>
      let part := if m = s.power.pos then s.ownSlices c else lookupN x.memberData m
      match o, part with | some a, some b => some (a ++ b) | _, _ => none) (some [])
  else s.ownSlices c

/-- FORMAT of the result. -/
def resultFormat (c : Ctx) : Nat := if bitOf (hvSettling c) 0 then 0 else 1 + hvRing c

/-- The plaintext of Table LDG-8. -/
def resultPlain (c : Ctx) (data : Bytes) : Bytes :=
  let esize := if resultFormat c = 0 then 4 else ringW c / 8
  [0x56, 0x5A, 0x52, 0x50, BitVec.ofNat 8 (resultFormat c), BitVec.ofNat 8 (byteAt c.policy 208), 0, 0] ++
    leBytes 4 (data.length / esize) ++ leBytes 4 (carried c) ++ hvId c ++ List.replicate 32 0 ++ data

/-- The recipient's key: RESULT_KEY at LEVEL 1, PARENT_KEY above (Table LDG-7). -/
def resultKey (c : Ctx) : Bytes := if byteAt c.policy 208 = 1 then slice c.policy 52 32 else hvParentKey c

/-- The info of a result (Table LDG-7). -/
def resultInfo (hid : Bytes) (ctx : Nat) : Bytes := ascii "VZ result" ++ hid ++ [BitVec.ofNat 8 ctx]

/-- The HPKE context of a result under an ephemeral private key (Table LDG-7). -/
def resultHpke (c : Ctx) (ctx : Nat) (eph : Bytes) : Crypto.HpkeCtx :=
  let z := Crypto.x25519 (padTo 32 eph) (adjustU (resultKey c)).1
  Crypto.hpkeSchedule 0 (Crypto.kemSecret z (dhPublic eph ++ resultKey c)) (resultInfo (hvId c) ctx)

/-- The sealed result under an ephemeral private key (Tables LDG-7, LDG-8). -/
def sealResult (c : Ctx) (ctx : Nat) (eph data : Bytes) : Bytes :=
  let plain := resultPlain c data
  let segs := (plain.length + 2 ^ 20 - 1) / 2 ^ 20
  let h := resultHpke c ctx eph
  let head := [0x56, 0x5A, 0x53, 0x52, 1, 0, 0, 0] ++ leBytes 4 segs ++ [0, 0, 0, 0] ++ hvId c
  head ++ dhPublic eph ++ (List.range segs).flatMap fun k =>
    Crypto.gcmSeal h.key (Crypto.hpkeNonce h.baseNonce k) (head ++ beBytes 4 k) ((plain.drop (k * 2 ^ 20)).take (2 ^ 20))

/-- RELEASED (R374): the window holds the result and the certificate. -/
def State.release (s : State) (c : Nat) (result cert : Bytes) : State :=
  let s := s.updCtx c fun x => { clearPause x with
    result := result, resultDigest := Crypto.sha384 result, cert := cert, staged := none, step := 9 }
  (s.enterState c .released .ok).finishSettle c .ok

/-- The sealed result is held in the context's STAGING partition (R401). -/
def State.stageResult (s : State) (c : Nat) (r : Bytes) : State := s.storeWrite (s.partBase c 0) r

/-- The seal, with an ephemeral key from the DRBG and the seal key in the context's D3 slot for its one use (R481), and the
signature over the claims with its digest. None while the DRBG gives nothing (R401, R497). -/
def State.sealAndSign (s : State) (c : Nat) (data : Bytes) : Option ((Bytes × Bytes) × State) :=
  match s.draw 0 32 with
  | none => none
  | some (eph, t) =>
    let t := t.putKey 3 c (resultHpke (s.ctx c) c eph).key 0 c
    let r := sealResult (s.ctx c) c eph data
    let t := (t.dropKeys fun k => k.engine == 3 && k.index == c).stageResult c r
    (t.signCose (t.claims c 0 0 (.bstr (Crypto.sha384 r))).encode).map fun x => ((r, x.1), x.2)

/-- RESULT_SEAL (R374, R401, R405): the seal and the signature as one step; nothing while the DRBG gives nothing. Every ledger
byte is read for the digest. In a Quad-wide harvest the copies go out, and the release waits for every acknowledgement. -/
def State.resultSeal (s : State) (c : Nat) (tally : Option (Nat × Upset)) : State :=
  let x := s.ctx c
  if !s.settles c || x.step != 8 then s
  else if (slotList x).any fun i => !tallyOk x i tally then s.fatalVoid c 5 0 0
  else
    let s := if tally.any fun e => e.1 < rosterN x then s.classCount 0 else s
    match s.resultData c with
    | none => s.fatalVoid c 5 0 0
    | some data =>
      match s.sealAndSign c data with
      | none => s.noteWait 0
      | some ((r, cert), t) =>
        if !x.quad then t.release c r cert
        else
          let t := t.updCtx c fun x => { x with step := 9, staged := some (r, cert), acks := [] }
          t.ctlAll .releaseCopy (leBytes 8 r.length ++ leBytes 4 cert.length ++ r ++ cert)

/-- The Treble releases once every member has acknowledged (R405). -/
def State.releaseIfAcked (s : State) (c : Nat) : State :=
  let x := s.ctx c
  match x.staged with
  | none => s
  | some (r, cert) =>
    if x.st == .settling && x.step == 9 && s.isTreble && s.peers.all x.acks.contains then
      (s.ctlAll .commit []).release c r cert
    else s

/-! ### SETTLE (R375) -/

/-- The status that holds a context in SETTLING. -/
def holding (c : Ctx) : Option Status :=
  if c.st == .settling && c.hold != 0 then
    [Status.floorNotMet, .unmaskIncomplete, .policyForbids, .assayGate].find? fun t => statusCode t == c.hold
  else none

/-- SETTLE, served: it parks, or completes at once. -/
def State.runSettle (s : State) (c : Nat) : State :=
  let x := s.ctx c
  if s.notTreble c then s.finish c .refused (s.ctxResult c)
  else
    match x.st with
    | .closed | .opened | .gathering => s.finish c .refused (s.ctxResult c)
    | .released => s.finish c .ok (s.ctxResult c)
    | .voided => s.finish c .voided (s.ctxResult c)
    | .voiding => s.stall c []
    | st =>
      if paused x then s.finish c .paused (s.ctxResult c)
      else
        match holding x with
        | some t => s.finish c t (s.ctxResult c)
        | none =>
          let s := s.updFn c fun f => { f with
            parked := f.parked ++ (match f.serving with | some v => [v] | none => []), serving := none }
          if st == .tallied then s.endPhase c else s

/-- What may have let a context go on: a cause of PAUSED gone, a job's epoch clean. -/
def State.resumeCtx (s : State) (c : Nat) : State := s.checkUnmasked c

end Sys2Proof.Machine
end

