-- ==== Sys2Proof/Machine/Child.lean ====
section
/-! DEFINITION. Child results at a parent, and the frames of an ingest command (CAR, R587 to R590, Table CAR-5; HST, R605 to
R608, Table HST-6). -/
namespace Sys2Proof.Machine

open Sys2Proof

/-! ### The bundle (Table HST-6) -/

def bunSlot (b : Bytes) : Nat := leAt b 8 4
def bunLens (b : Bytes) : List Nat := [leAt b 16 8, leAt b 24 4, leAt b 28 4, leAt b 32 4]
def bunPart (b : Bytes) (k : Nat) : Bytes := slice b (64 + ((bunLens b).take k).sum) ((bunLens b).getD k 0)
def bunSealed (b : Bytes) : Bytes := bunPart b 0
def bunCert (b : Bytes) : Bytes := bunPart b 1

/-- Check 2 of Table CAR-5. -/
def bundleOk (len : Nat) (b : Bytes) : Bool :=
  let r := bunSealed b
  let n := r.length - 64
  slice b 0 4 == [0x56, 0x5A, 0x43, 0x42] && leAt b 4 2 == 1 && leAt b 6 2 == 0 && leAt b 12 4 == 0 && allZero (slice b 36 28) &&
    len == 64 + (bunLens b).sum && decide (64 ≤ r.length) && slice r 0 4 == [0x56, 0x5A, 0x53, 0x52] && leAt r 4 2 == 1 &&
    leAt r 8 4 == (n + (2 ^ 20 + 15)) / (2 ^ 20 + 16)

/-- Checks 4 and 5: the claims of the child's certificate. -/
def State.childClaims (s : State) (b : Bytes) : Except Status Cbor :=
  let alias_ := bunPart b 2
  let ident := bunPart b 3
  if !(Config.identityChainOk ident && Config.aliasChainOk alias_ ident) then .error .sigFail
  else
    match coseOpen (Config.certKey alias_) (bunCert b) with
    | none => .error .sigFail
    | some (_, payload) =>
      let fw := [s.keyhold.fw.getD 0 [], s.keyhold.fw.getD 1 [], s.keyhold.fw.getD 2 []]
      if Config.certFwids alias_ ≠ Crypto.sha384 (fw.flatMap id) :: fw then .error .policyForbids
      else match cborParse payload with | some c => .ok c | none => .error .policyForbids

/-- A claim that is this unsigned number, and one that is this byte string. -/
def claimIsNat (o : Option Cbor) (n : Nat) : Bool :=
  match o with
  | some (.uint k) => k == n
  | _ => false

def claimIsBytes (o : Option Cbor) (b : Bytes) : Bool :=
  match o with
  | some (.bstr a) => a == b
  | _ => false

/-- Check 6. -/
def childClaimsOk (x : Ctx) (b : Bytes) (cl : Cbor) : Bool :=
  claimIsNat (cborKey 2 cl) 0 && claimIsNat (cborKey 24 cl) (byteAt x.policy 208 + 1) &&
    claimIsBytes (cborKey 17 cl) (Crypto.sha384 (bunSealed b)) && claimIsBytes (cborKey 3 cl) (slice (bunSealed b) 16 16) &&
    decide (8 ≤ cborNat (cborKey 13 cl))

/-- The segments of a sealed result opened in order. -/
def openSegments (h : Crypto.HpkeCtx) (head r : Bytes) : List Nat → Option Bytes
  | [] => some []
  | k :: rest =>
    match Crypto.gcmOpen h.key (Crypto.hpkeNonce h.baseNonce k) (head ++ beBytes 4 k) ((r.drop (64 + k * (2 ^ 20 + 16))).take (2 ^ 20 + 16)) with
    | none => none
    | some a => (openSegments h head r rest).map (a ++ ·)

/-- Check 8: the plaintext. -/
def State.childOpen (s : State) (b : Bytes) (cl : Cbor) : Except Status Bytes :=
  let r := bunSealed b
  if lowOrder (slice r 32 32) then .error .lowOrder
  else
    match s.hpkeBase (slice r 32 32) (resultInfo (slice r 16 16) (cborNat (cborKey 4 cl))) with
    | none => .error .lowOrder
    | some h =>
      match openSegments h (r.take 32) r (List.range (leAt r 8 4)) with
      | some p => .ok p
      | none => .error .authFail

/-- Check 9. -/
def childPlainOk (x : Ctx) (b p : Bytes) (cl : Cbor) : Bool :=
  slice p 0 4 == [0x56, 0x5A, 0x52, 0x50] && byteAt p 4 == 1 + hvRing x && leAt p 8 4 == hvVector x &&
    leAt p 12 4 == cborNat (cborKey 13 cl) && slice p 16 16 == slice (bunSealed b) 16 16 && p.length == 64 + partBytes x

/-- The weights of the slots that count or may come to count as survivors (check 10). -/
def carriedPending (x : Ctx) : Nat :=
  carried x + ((x.weights.filter fun e => ledStatus (ledgerByte x e.1) == 1).map (·.2)).sum

/-- A child result staged as the whole contribution of its slot (R589). -/
def State.stageChild (s : State) (c slot base carried_ : Nat) (digest data : Bytes) : State :=
  let e : SlotCtx := { slot := slot, key := [], baseNonce := [], receiptKey := [], enc := [], count := 0, base := base, len := data.length }
  let s := s.storeWrite base data
  let s := s.updCtx c fun x => { setStatus x slot 1 with
    slots := x.slots ++ [e], weights := insertN x.weights slot carried_, children := insertN x.children slot digest }
  s.issueAdd c slot

/-- HOST_INGEST with FORM 1 (R608): the status, and the state. -/
def State.admitChild (s : State) (c len : Nat) (b : Bytes) : Status × State :=
  let x := s.ctx c
  let j := bunSlot b
  let digest := Crypto.sha384 (bunCert b)
  if x.freezing || x.st == .tallied || x.st == .unmasking || x.st == .settling || x.st == .released then (.late, s)
  else if x.st != .gathering then (.refused, s)
  else if hvMode x != 0 || !bitOf (hvPaths x) 1 || byteAt x.policy 208 < 1 || decide (3 < byteAt x.policy 208) then (.refused, s)
  else if !bundleOk len b then (.refused, s)
  else if rosterN x ≤ j then (.refused, s)
  else if ledStatus (ledgerByte x j) ≠ 0 then (if lookupN x.children j == some digest then .ok else .refused, s)
  else
    match s.childClaims b with
    | .error st => (st, s)
    | .ok cl =>
      if !childClaimsOk x b cl then (.policyForbids, s)
      else if 16384 ≤ x.children.length ∨ x.children.any (fun e => e.2 == digest) then (.refused, s)
      else
        match s.childOpen b cl with
        | .error st => (st, s)
        | .ok p =>
          if !childPlainOk x b p cl then (.refused, s)
          else if 2 ^ 32 - 1 < carriedPending x + cborNat (cborKey 13 cl) then (.refused, s)
          else
            match s.reserve c with
            | none => (.refused, s)
            | some base => (.ok, s.stageChild c j base (cborNat (cborKey 13 cl)) digest (p.drop 64))

/-! ### Ingest of frames (R605 to R607) -/

/-- The frames of an ingest buffer; none where the records do not fill it exactly. -/
def ingestFrames : Nat → Bytes → Option (List Bytes)
  | 0, b => if b = [] then some [] else none
  | n + 1, b =>
    let len := leAt b 0 4
    let whole := 8 + (len + 7) / 8 * 8
    if b.length < 8 ∨ b.length < whole ∨ leAt b 4 4 ≠ 0 ∨ !allZero ((b.take whole).drop (8 + len)) then none
    else (ingestFrames n (b.drop whole)).map (((b.drop 8).take len) :: ·)

/-- The frames of the command in service are admitted or answered, in order. -/
def State.ingestAll (s : State) (pf : Nat) (share : Bool) (l : List Bytes) : State :=
  l.zipIdx.foldl (fun s e => s.hostFrame pf e.2 share e.1) s

/-- HOST_INGEST with FORM 0, and SHARES_SUBMIT, with their buffer. -/
def State.runIngest (s : State) (pf count : Nat) (share : Bool) (b : Bytes) : State :=
  match ingestFrames count b with
  | none => s.finish pf .refused []
  | some l =>
    let s := s.updFn pf fun f => { f with serving := f.serving.map fun v => { v with data := some [], awaitDma := false, open_ := List.range count } }
    s.ingestAll pf share l

/-- Which contexts' commands run (Table HVS-2), PAUSED, and the limits of R605. -/
def State.ingestGate (s : State) (c len count replyAddr form : Nat) (share : Bool) : Option Status :=
  let x := s.ctx c
  let g := if share then ctxGate x [.tallied] [.unmasking, .settling, .released] []
    else ctxGate x [.gathering] [.tallied, .unmasking, .settling, .released] []
  match g with
  | some st => some st
  | none =>
    if paused x then some .paused
    else if form = 1 then (if count ≠ 1 ∨ replyAddr ≠ 0 then some .refused else none)
    else if count < 1 ∨ 1024 < count ∨ 2 ^ 24 < len then some .refused
    else none

end Sys2Proof.Machine
end

