-- ==== Sys2Proof/Machine/Links.lean ====
section
/-! DEFINITION. Carillon's links: flits, replay, tolls, records in their order; link loss and return (CAR, R558 to R566, R580 to
R584). The layouts of the TOLL and BATCH payloads are the model's own (log entry 22). -/
namespace Sys2Proof.Machine

open Sys2Proof

/-! ### The pause of a Quad-wide harvest (R354) -/

/-- Causes of this device's own. -/
def ownPause (c : Ctx) : Bool := c.pauseBme || c.pauseLink

/-- The Treble sets the flag on every member while any cause holds. -/
def State.pauseSync (s : State) (c : Nat) : State :=
  match s.car.job with
  | none => s
  | some j =>
    if j.ctx ≠ c ∨ !(s.ctx c).quad ∨ !ctxLive (s.ctx c).st then s
    else if s.isTreble then
      let s := s.repause c fun x => { x with pauseQuad := !j.pausedBy.isEmpty }
      s.ctlAll .pausedFlag [BitVec.ofNat 8 (b2n (paused (s.ctx c))), 0]
    else s

/-- A cause of this device's own begins or ends on a live context: a member tells the Treble, with whether a link has returned
(R581). -/
def State.ownPauseSet (s : State) (c : Nat) (back : Bool) (f : Ctx → Ctx) : State :=
  let old := ownPause (s.ctx c)
  let s := if ctxLive (s.ctx c).st then s.repause c f else s
  if !(s.ctx c).quad || !ctxLive (s.ctx c).st then s
  else if s.isTreble then (if ownPause (s.ctx c) == old then s else s.pauseSync c)
  else if ownPause (s.ctx c) == old && !back then s
  else s.ctl s.treble .pausedFlag [BitVec.ofNat 8 (b2n (ownPause (s.ctx c))), BitVec.ofNat 8 (b2n back)]

/-- A Quad-wide harvest has opened here: a cause that stands already pauses it everywhere (R354). -/
def State.pauseAtOpen (s : State) (c : Nat) : State :=
  if !ownPause (s.ctx c) then s
  else if s.isTreble then s.pauseSync c
  else s.ctl s.treble .pausedFlag [1, 0]

/-! ### Dirty epochs and failed posted writes (R576, R581, R582) -/

/-- An epoch is marked dirty here, and on every member by way of the Treble. -/
def State.markDirty (s : State) (e : Nat) : State :=
  match s.car.job with
  | none => s
  | some j =>
    if j.epoch ≠ e ∨ j.dirty then s
    else
      let s := s.updJob fun j => { j with dirty := true, cleared := false, clears := [] }
      if s.isTreble then s.ctlAll .epochDirty (leBytes 4 e) else s.ctl s.treble .epochDirty (leBytes 4 e)

/-- POSTED_FAIL (Table QUE-4). -/
def State.postedFailEvent (s : State) (c link peer epoch tag : Nat) : State :=
  s.event c 0x12 c (statusCode .postedFail) ([BitVec.ofNat 8 (if link = 3 then 0xFF else link), BitVec.ofNat 8 peer, 0, 0] ++
    leBytes 4 epoch ++ leBytes 4 tag)

/-- CAR_POSTED.FAILED rises by `n`, and CAR_PFAIL_LAST is written. -/
def State.countFailed (s : State) (n link peer epoch tag : Nat) : State :=
  let s := s.bump .carPosted 0 63 32 n
  { s with car := { s.car with
    pfailLast := tag % 2 ^ 32 * 2 ^ 32 + peer % 4 * 2 ^ 30 + min link 3 * 2 ^ 28 + epoch % 2 ^ 28 } }

/-- One posted write of a context has failed at its initiator. In an epoch that is dirty already it is counted and logged,
no more (R582, DEDUCED, log entry 38). -/
def State.writeFailed (s : State) (c link peer epoch tag : Nat) : State :=
  let s := s.countFailed 1 link peer epoch tag
  let s := s.updJob fun j => if j.epoch == epoch then { j with writes := j.writes - 1 } else j
  let dirty := match s.car.job with | some j => j.epoch == epoch && j.dirty | none => false
  if dirty then s else (s.postedFailEvent c link peer epoch tag).markDirty epoch

/-! ### Link states (R558, R560, R564, R581) -/

/-- The position that link k leads to. -/
def State.farOf (s : State) (k : Nat) : Nat := s.power.pos ^^^ (k + 1)

/-- The effects of R581 on a link between two members. -/
def State.linkLoss (s : State) (k : Nat) : State :=
  match s.car.job with
  | none => s
  | some j =>
    let c := j.ctx
    let peer := s.farOf k
    let s :=
      if j.cleared then s
      else
        let s := { s with car := { s.car with transfers := s.car.transfers.filter fun t => !(t.kind == 0 && t.epoch == j.epoch) } }
        let s := s.updJob fun j => { j with writes := 0 }
        ((s.countFailed j.writes k peer j.epoch (2 ^ 32 - 1)).postedFailEvent c k peer j.epoch (2 ^ 32 - 1)).markDirty j.epoch
    let owed := j.owed.filter fun o => o.2.2 == k
    let s := s.updJob fun j => { j with owed := j.owed.filter fun o => o.2.2 != k }
    let s :=
      if (s.jobPath peer).isSome then s.updLink k fun l => { l with relaying := true }
      else s.ownPauseSet c false fun x => { x with pauseLink := true }
    owed.foldl (fun s o =>
      let via := (s.pathTo o.1).getD 3
      (s.sendSealed 0x02 o.1 o.2.1 []).updJob fun j => { j with owed := j.owed ++ [(o.1, o.2.1, via)] }) s

/-- A peer owes no BATCH under the new epoch any more: it has sent one, or its link is gone. K of the epoch before goes with
the last (R574). -/
def State.batchFrom (s : State) (peer : Nat) : State :=
  match s.car.job with
  | none => s
  | some j =>
    let l := j.batchAwait.filter (· != peer)
    if j.oldEpoch.isNone ∨ l = j.batchAwait then s
    else
      let s := s.updJob fun j => { j with batchAwait := l, oldEpoch := if l = [] then none else j.oldEpoch }
      if l = [] then s.dropKeys fun q => q.engine == 2 && q.index % 2 == (j.epoch + 1) % 2 else s

/-- A link goes DOWN (R560, R564): both buffers are discarded, its transfers' timeouts start. -/
def State.carDown (s : State) (k cause : Nat) : State :=
  let l := s.link k
  if l.st = 0 then s
  else
    let s := s.updLink k fun l => { l with
      st := 0, cause := cause, replay := [], waiting := [], rx := [], txSeq := 0, rxSeq := 0, nakSent := false, sinceBatch := 0
      returning := false }
    let s := s.batchFrom (s.farOf k)
    let s := (s.bump .carDowns 0 (8 * k + 7) (8 * k) 1).linkStateEvent 1 k 0
    let s := { s with car := { s.car with
      transfers := s.car.transfers.map fun t => if t.link == k then { t with timing := true } else t
      resync := if s.car.resync.contains (s.farOf k) then s.car.resync else s.car.resync ++ [s.farOf k] } }
    if l.st = 2 && s.car.formed && bitOf s.car.members (s.farOf k) then s.linkLoss k else s

/-- A link between two members is UP again (R581): the Treble is to advance the epoch; the link carries job traffic, and the
pause that it caused ends, when that has come about. -/
def State.linkReturn (s : State) (k : Nat) : State :=
  match s.car.job with
  | none => s.updLink k fun l => { l with relaying := false }
  | some j =>
    if !bitOf s.car.members (s.farOf k) then s
    else
      let s := s.updLink k fun l => { l with returning := true }
      let s := if s.isTreble then s.updJob fun j => { j with wantAdvance := true } else s
      (s.ownPauseSet j.ctx true fun x => { x with pauseLink := s.linkPause }).resumeCtx j.ctx

/-- Links run from boot step 7 on (Table BOO-3). -/
def State.linksRun (s : State) : Bool :=
  match s.dev.st with
  | .cold | .held | .locked => false
  | .booting => decide (7 ≤ s.dev.bootStep)
  | _ => true

/-- CARILLON_LINK_STATE: a training begins, ends with the peer's announced position, or fails. -/
def State.linkState (s : State) (k st peer : Nat) : State :=
  let l := s.link k
  if !s.linksRun then s
  else if st = 0 then s.carDown k 0
  else if st = 1 then
    if l.st = 0 && !l.miswired && bitOf (s.reg .carLinkctl 0) k then (s.updLink k fun l => { l with st := 1 }).linkStateEvent 1 k 1
    else s
  else if l.st ≠ 1 then s
  else
    let s := s.updLink k fun l => { l with peer := peer, peerValid := true }
    if peer ≠ s.farOf k then (s.carDown k 4).updLink k fun l => { l with miswired := true }
    else ((s.updLink k fun l => { l with st := 2 }).linkStateEvent 1 k 2).linkReturn k

/-! ### Flits (R561 to R566) -/

/-- A replay of a link's unacknowledged flits, each at most 8 times. -/
def State.replayLink (s : State) (k : Nat) : State :=
  let l := s.link k
  let again := l.replay.filter fun f => decide (f.replays < 8)
  let s := again.foldl (fun s f => s.emit (.flit k (flitBytes f.kind f.seq (l.rxSeq + 4095) f.payload))) s
  let s := s.updLink k fun l => { l with replay := l.replay.map fun f => if f.replays < 8 then { f with replays := f.replays + 1 } else f }
  s.bump .carReplay 0 (16 * k + 15) (16 * k) again.length

/-- An ACK covers the flits of the replay buffer up to it. -/
def State.ackLink (s : State) (k ack : Nat) : State :=
  let l := s.link k
  if !l.replay.any fun f => f.seq == ack then s
  else
    let rest := (l.replay.dropWhile fun f => f.seq != ack).drop 1
    let s := (s.updLink k fun l => { l with replay := rest }).drainFlits k
    if rest = [] then s.updJob fun j => { j with owed := j.owed.filter fun o => o.2.2 != k } else s

/-- One NAK for a gap. -/
def State.nak (s : State) (k : Nat) : State :=
  if (s.link k).nakSent then s else (s.updLink k fun l => { l with nakSent := true }).sendFlit k 3 []

/-- Record types that the table lists (Table CAR-3). -/
def recListed (t : Nat) : Bool := [1, 2, 3, 4, 5, 6, 0x10, 0x11, 0x20, 0x21, 0x22].contains t

/-- Records held early that are now in order move to the inbox. -/
def releaseEarly (key : Nat) : Nat → Carillon → Carillon
  | 0, c => c
  | n + 1, c =>
    let next := (lookupN c.rxSeq key).getD 0
    match c.early.find? fun e => e.1 == key && e.2.1 == next with
    | none => c
    | some e =>
      releaseEarly key n { c with
        inbox := c.inbox ++ [e.2.2], rxSeq := insertN c.rxSeq key (next + 1)
        early := c.early.filter fun x => !(x.1 == key && x.2.1 == next) }

/-- A whole record received on a link: forwarded, or delivered in its pair's order (R565). -/
def State.recordIn (s : State) (k : Nat) (r : Bytes) : State :=
  let h := recHead r
  let s := s.count .carRxbytes k r.length
  if h.dst ≠ s.power.pos then
    match s.linkTo h.dst with
    | some j => if s.linkUp j && j != k then s.sendBytes j r else s
    | none => s
  else if !recListed h.typ || decide (4 ≤ h.src) || h.src == s.power.pos then s
  else
    let key := 4 * h.epoch + h.src
    let next := (lookupN s.car.rxSeq key).getD 0
    let car := s.car
    if h.seq < next then s
    else if h.seq = next ∨ car.resync.contains h.src then
      let car := { car with inbox := car.inbox ++ [r], rxSeq := insertN car.rxSeq key (h.seq + 1), resync := car.resync.filter (· != h.src) }
      { s with car := releaseEarly key 256 car }
    else if (car.early.filter fun e => e.1 == key).length < 256 then { s with car := { car with early := car.early ++ [(key, h.seq, r)] } }
    else s

/-- Payload of a DATA flit: the record that it completes leaves the link layer. A record that overruns its length is
discarded. -/
def State.dataIn (s : State) (k : Nat) (p : Bytes) : State :=
  let rx := (s.link k).rx ++ p
  let whole := 40 + leAt rx 20 2
  if rx.length < 24 ∨ rx.length < whole ∧ leAt rx 20 2 ≤ 2048 then s.updLink k fun l => { l with rx := rx }
  else
    let s := s.updLink k fun l => { l with rx := [] }
    if rx.length = whole ∧ leAt rx 20 2 ≤ 2048 then s.recordIn k rx else s

/-- A TOLL's payload: position, formed set, membership view, epoch. -/
def State.tollBytes (s : State) : Bytes :=
  [BitVec.ofNat 8 s.power.pos, BitVec.ofNat 8 s.car.formedSet, BitVec.ofNat 8 s.car.members, 0] ++
    leBytes 4 (match s.car.job with | some j => j.epoch | none => 0)

/-- A BATCH under an epoch from the far side of a link: K of the epoch before goes once every peer has sent one (R574). -/
def State.batchIn (s : State) (k epoch : Nat) : State :=
  if s.car.job.any fun j => epoch == j.epoch then s.batchFrom (s.farOf k) else s

/-- FLIT_RECEIVE (R561, R562). After an accepted flit the next IDLE flit carries its ACK. -/
def State.flitIn (s : State) (k : Nat) (b : Bytes) : State :=
  let l := s.link k
  if l.st ≠ 2 ∨ b.length ≠ 200 then s
  else
    let h := leAt b 0 8
    let kind := bitsOf h 63 60
    let len := bitsOf h 35 28
    if bitsOf h 23 0 ≠ crc24 (b.drop 3) then s.nak k
    else if 5 ≤ kind ∨ 192 < len ∨ bitsOf h 27 24 ≠ 0 then s
    else
      let s := s.ackLink k (bitsOf h 47 36)
      let p := (b.drop 8).take len
      if kind = 0 then s
      else if kind = 3 then s.replayLink k
      else
        let ahead := (bitsOf h 59 48 + 4096 - l.rxSeq) % 4096
        if ahead = 0 then
          let s := s.updLink k fun l => { l with rxSeq := (l.rxSeq + 1) % 4096, nakSent := false }
          let s := s.sendFlit k 0 []
          if kind = 1 then s.dataIn k p
          else if kind = 2 then s.updLink k fun l => { l with peerFormed := byteAt p 1, peerMembers := byteAt p 2, peerEpoch := leAt p 4 4 }
          else s.batchIn k (leAt p 0 4)
        else if ahead < 2048 then s.nak k
        else s

/-! ### Meanings -/

/-- FLIT_RECEIVE. -/
def execFlitReceive (link : Fin 3) (flit : Bytes) (s : State) : Host.Outcome State Fault Refusal := s.done (s.flitIn link flit)

/-- REPLAY_TIMEOUT (R562). -/
def execReplayTimeout (link : Fin 3) (s : State) : Host.Outcome State Fault Refusal :=
  s.done (if s.linkUp link then s.replayLink link else s)

/-- REPLAY_EXHAUSTED (R562, R564). -/
def execReplayExhausted (link : Fin 3) (s : State) : Host.Outcome State Fault Refusal :=
  s.done (if s.linkUp link && (s.link link).replay != [] then s.carDown link 2 else s)

/-- A member that has seen a link return tells the Treble, which is to advance the epoch (R581). -/
def State.tellAdvance (s : State) : State :=
  match s.car.job with
  | none => s
  | some j =>
    if !j.wantAdvance || s.isTreble then s
    else
      (s.updJob fun j => { j with wantAdvance := false }).ctl s.treble .pausedFlag [BitVec.ofNat 8 (b2n (ownPause (s.ctx j.ctx))), 1]

/-- TOLL_SEND (R563): at every 10th toll tick. -/
def execTollSend (s : State) : Host.Outcome State Fault Refusal :=
  s.done (if s.cad.toll % 10 = 0 then
    ((List.range 3).foldl (fun s k => if s.linkUp k then s.sendFlit k 2 s.tollBytes else s) s).tellAdvance
  else s)

/-- TOLL_TIMEOUT (R563). -/
def execTollTimeout (link : Fin 3) (s : State) : Host.Outcome State Fault Refusal :=
  s.done (if s.linkUp link then s.carDown link 1 else s)

/-- ALIGN_LOSS (R563). -/
def execAlignLoss (link : Fin 3) (s : State) : Host.Outcome State Fault Refusal :=
  s.done (if s.linkUp link then s.carDown link 3 else s)

/-- BATCH_TIMER (R566): where records have gone since the last BATCH. -/
def execBatchTimer (link : Fin 3) (s : State) : Host.Outcome State Fault Refusal :=
  s.done (if s.linkUp link && (s.link link).sinceBatch != 0 then s.placeBatch link else s)

end Sys2Proof.Machine
end

