-- ==== Sys2Proof/Machine/Quad.lean ====
section
/-! DEFINITION. Formation of a Quad, its membership and dissolution, and the exchange of the job key (CAR, R567 to R572). The
bodies of FORM and MEMBERSHIP records and of the exchange are the model's own (log entry 22): a FORM record holds a kind, a
byte that says whether more of it follows, and the content: 0 a nonce, 1 evidence, 2 that every pair of the sender has
passed, 3 the end, 4 a failure's status. -/
namespace Sys2Proof.Machine

open Sys2Proof

/-! ### The inbox (R565) -/

/-- It is a record's turn: nothing earlier from its source waits. -/
def State.recordTurn (s : State) (r : Bytes) : Bool := (s.car.inbox.find? fun x => byteAt x 1 == byteAt r 1) == some r

/-- A record served leaves the inbox. -/
def State.takeRecord (s : State) (r : Bytes) : State := { s with car := { s.car with inbox := s.car.inbox.erase r } }

/-- A sealed record discarded and counted (R565). -/
def State.discardRecord (s : State) : State := { s with car := { s.car with discarded := s.car.discarded + 1 } }

/-- A message's segment: the whole message once its last segment is here. `key` names source and message. -/
def State.assemble (s : State) (key : Nat) (b : Bytes) : Option Bytes × State :=
  let whole := (lookupN s.car.parts key).getD [] ++ b.drop 2
  if byteAt b 1 = 0 then (some whole, { s with car := { s.car with parts := eraseN s.car.parts key } })
  else (none, { s with car := { s.car with parts := insertN s.car.parts key whole } })

/-! ### Formation (R567) -/

/-- The positions that a formation's mask names, but this one; and the lowest, which is to be the Treble. -/
def State.others (s : State) (mask : Nat) : List Nat := (List.range 4).filter fun p => bitOf mask p && p != s.power.pos
def lowestOf (mask : Nat) : Nat := ((List.range 4).find? fun p => bitOf mask p).getD 0

/-- A FORM message to a position. -/
def State.sendForm (s : State) (dst kind : Nat) (body : Bytes) : State :=
  (segments kind body).foldl (fun s b => s.sendPlain 0x20 dst 0xFF b) s

/-- The formation in hand changed. -/
def State.updForming (s : State) (f : Forming → Forming) : State :=
  { s with car := { s.car with forming := s.car.forming.map f } }

/-- The result of QUAD_FORM (Table HST-5). -/
def State.quadResult (s : State) : Bytes := [BitVec.ofNat 8 s.car.formedSet, BitVec.ofNat 8 s.treble]

/-- A formation fails here; the others hear of it unless they have told. -/
def State.formFails (s : State) (st : Status) (tell : Bool) : State :=
  match s.car.forming with
  | none => s
  | some f =>
    let s := if tell then (s.others f.mask).foldl (fun s p => s.sendForm p 4 (leBytes 2 (statusCode st))) s else s
    ({ s with car := { s.car with forming := none, peerIds := [] } }).finishParked 0 0x20 st [0, 0]

/-- LINK_STATE for a change of membership (R568). -/
def State.membersEvent (s : State) : State := s.linkStateEvent 1 0xFF 2

/-- A Quad is formed. -/
def State.formNow (s : State) (f : Forming) : State :=
  let s := { s with car := { s.car with formed := true, formedSet := f.mask, members := f.mask, forming := none } }
  s.membersEvent.finishParked 0 0x20 .ok s.quadResult

/-- Fresh nonces, one for each position. -/
def State.formNonces (s : State) : List Nat → Option State
  | [] => some s
  | p :: rest =>
    match s.draw 0 32 with
    | none => none
    | some (n, s) => ((s.updForming fun f => { f with nonces := f.nonces ++ [(p, n)] }).sendForm p 0 n).formNonces rest

/-- The verifier nonce of a pair (step 3). -/
def State.pairNonce (s : State) (p : Nat) (own peer : Bytes) : Bytes :=
  Crypto.sha384 (if s.power.pos < p then own ++ peer else peer ++ own)

/-- The verifier nonce of the pair with a position, once both nonces are here. -/
def State.formNonce (s : State) (f : Forming) (p : Nat) : Option Bytes :=
  match lookupN f.nonces p, lookupN f.peerNonces p with
  | some a, some b => some (s.pairNonce p a b)
  | _, _ => none

/-- Evidence goes to every position whose nonce is here (step 3), while the DRBG signs it. -/
def State.formEvidence (s : State) : List Nat → State
  | [] => s
  | p :: rest =>
    match s.car.forming with
    | none => s
    | some f =>
      match s.formNonce f p with
      | none => s.formEvidence rest
      | some n =>
        if bitOf f.sent p then s.formEvidence rest
        else
          match s.makeEvidence n s.evidenceSnap with
          | none => s.noteWait 0
          | some (ev, s) => ((s.updForming fun f => { f with sent := setBits f.sent p p 1 }).sendForm p 1 ev).formEvidence rest

/-- A formation goes on as far as it can: called at every event that may let it. -/
def State.formAdvance (s : State) : State :=
  match s.car.forming with
  | none => s
  | some f =>
    let l := s.others f.mask
    if f.linksUp then s.formEvidence l
    else if l.all fun p => (s.linkTo p).any s.linkUp then
      match s.formNonces l with
      | none => s.noteWait 0
      | some s => s.updForming fun f => { f with linksUp := true }
    else s

/-- Claims 5, 6 (the three digests), 10 and 12 of evidence, encoded (step 5). -/
def formClaims (cl : Cbor) : Bytes :=
  let enc (k : Nat) : Bytes := match cborKey k cl with | some v => v.encode | none => []
  let fw : Bytes := match cborKey 6 cl with | some (.arr l) => (Cbor.arr (l.take 3)).encode | _ => []
  enc 5 ++ fw ++ enc 10 ++ enc 12

/-- Steps 4 and 5 on a peer's evidence. -/
def State.formCheck (s : State) (nonce ev : Bytes) : Except Status (Bytes × Bytes) :=
  match checkEvidence ev with
  | none => .error .sigFail
  | some (cl, key) =>
    if cborBytes (cborKey 2 cl) ≠ nonce then .error .sigFail
    else if formClaims cl ≠ formClaims (s.evidenceClaims nonce) then .error .policyForbids
    else .ok (key, Crypto.sha384 (cborBytes (cborKey 3 cl)))

/-- Every pair of this device has passed: the lowest position counts it, the others tell it. With the last one it sends
the end (step 6). -/
def State.formPassed (s : State) (pos : Nat) : State :=
  match s.car.forming with
  | none => s
  | some f =>
    let low := lowestOf f.mask
    if low ≠ s.power.pos then s.sendForm low 2 []
    else
      let reports := setBits f.reports pos pos 1
      if reports = f.mask then ((s.others f.mask).foldl (fun s p => s.sendForm p 3 []) s).formNow f
      else s.updForming fun f => { f with reports := reports }

/-- A whole FORM message from a position named. -/
def State.formIn (s : State) (f : Forming) (src kind : Nat) (body : Bytes) : State :=
  match kind with
  | 0 => (s.updForming fun f => { f with peerNonces := insertN f.peerNonces src (padTo 32 body) }).formAdvance
  | 1 =>
    match s.formCheck ((s.formNonce f src).getD []) body with
    | .error st => s.formFails st true
    | .ok (key, ident) =>
      let passed := setBits f.passed src src 1
      let s := { s with car := { s.car with peerIds := eraseN s.car.peerIds src ++ [(src, key, ident)] } }
      let s := s.updForming fun f => { f with passed := passed }
      if (s.others f.mask).all (bitOf passed) then s.formPassed s.power.pos else s
  | 2 => if lowestOf f.mask = s.power.pos then s.formPassed src else s
  | 3 => if src = lowestOf f.mask then s.formNow f else s
  | 4 =>
    s.formFails (statusOf (leAt body 0 2)) false
  | _ => s

/-- FORM: nothing until this device has its own QUAD_FORM; discarded once it is formed. -/
def State.formRecord (s : State) (r : Bytes) : State :=
  if (recHead r).typ ≠ 0x20 ∨ !s.recordTurn r then s
  else
    match s.car.forming with
    | none => if s.car.formed then s.takeRecord r else s
    | some f =>
      let h := recHead r
      let b := plainBody r
      let s := s.takeRecord r
      if !bitOf f.mask h.src then s
      else
        match s.assemble (65536 + 256 * h.src + byteAt b 0) b with
        | (none, s) => s
        | (some m, s) => s.formIn f h.src (byteAt b 0) m

/-- The checks of QUAD_FORM before anything is sent. -/
def State.formGate (s : State) (pf mask : Nat) : Option Status :=
  let two := (List.range 4).filter fun p => bitOf mask p
  if 16 ≤ mask then some .reservedNonzero
  else if pf ≠ 0 ∨ !(s.dev.st == .tenantedIdle || s.dev.st == .running) ∨ s.img.loaded.isNone ∨ s.car.formed ∨ two.length < 2 ∨
      !bitOf mask s.power.pos then some .refused
  else none

/-- QUAD_FORM, served: it parks. -/
def State.runForm (s : State) (pf mask : Nat) : State :=
  match s.formGate pf mask with
  | some st => s.finish pf st [0, 0]
  | none =>
    let s := s.updFn pf fun f => { f with
      parked := f.parked ++ (match f.serving with | some v => [v] | none => []), serving := none }
    if s.car.forming.isSome then s
    else ({ s with car := { s.car with forming := some { mask := mask }, peerIds := [] } }).formAdvance

/-! ### Membership and dissolution (R568 to R570) -/

/-- Quad-wide harvests are voided by a change of membership (R380): each member its own copy. -/
def State.voidQuad (s : State) : State :=
  (List.range 4).foldl (fun s c => if (s.ctx c).quad then s.voidLocal c .linkDown else s) s

/-- A command of a code on a function waits, with what it read, for the members. -/
def State.openWaits (s : State) (pf code : Nat) : Bool :=
  match (s.fn pf).serving with
  | some v => cmdCode v.cmd == code && v.data.isSome
  | none => false

/-- The device is no longer formed: its Quad-wide harvests are voided, and a job that has not opened its harvest yet ends with
it (R569). -/
def State.leaveQuad (s : State) : State :=
  let idle (l : CarLink) : CarLink := { l with relaying := false, returning := false }
  let s := { s with car := { s.car with
    formed := false, formedSet := 0, members := 0, peerIds := [], links := s.car.links.map idle } }
  let s := s.voidQuad.stopGather
  let s := match s.car.job with
    | some j =>
      let c := j.ctx
      let s := (s.endJob c).dropJobKeys
      if s.openWaits c 0x10 then s.finish c .refused [0] else if s.openWaits c 0x11 then s.finish c .refused [] else s
    | none => s
  { s with car := { s.car with job := none, transfers := [], parts := [] } }

/-- A new membership. Fewer than two members, or one without this device, ends the formed state (R569). -/
def State.setMembers (s : State) (mask : Nat) : State :=
  if mask = s.car.members then s
  else if !bitOf mask s.power.pos || ((List.range 4).filter fun p => bitOf mask p).length < 2 then s.leaveQuad.membersEvent
  else (({ s with car := { s.car with members := mask } }).voidQuad.stopGather).membersEvent

/-- A plain record to every other member. -/
def State.tellMembers (s : State) (typ : Nat) (body : Bytes) : State := s.peers.foldl (fun s p => s.sendPlain typ p 0xFF body) s

/-- A member whose tenant or image is lost cannot stay one (R59): it leaves the membership, and tells the others a membership
without itself (DESIGN CHOICE, log entry 67). -/
def State.quitQuad (s : State) : State :=
  if !s.car.formed then s
  else
    let s := if s.linksRun then s.tellMembers 0x21 [BitVec.ofNat 8 (setBits s.car.members s.power.pos s.power.pos 0)] else s
    s.leaveQuad.membersEvent

/-- MEMBERSHIP, from a member of the sender's view. -/
def State.membershipRecord (s : State) (r : Bytes) : State :=
  if (recHead r).typ ≠ 0x21 ∨ !s.recordTurn r then s
  else
    let s := s.takeRecord r
    if !s.car.formed || !bitOf s.car.members (recHead r).src then s
    else s.setMembers (Nat.land s.car.members (byteAt (plainBody r) 0))

/-- MEMBERSHIP_TIMEOUT (R568): a member that has lost the Treble leaves; the Treble removes one that it has lost. -/
def State.membershipTimeout (s : State) (pos : Nat) : State :=
  let lost (p : Nat) : Bool := !(s.linkTo p).any s.linkUp
  if !s.car.formed || !bitOf s.car.members pos then s
  else if s.isTreble then
    if pos = s.power.pos ∨ !lost pos then s
    else
      let mask := setBits s.car.members pos pos 0
      let s := { s with car := { s.car with transfers := s.car.transfers.filter fun t => t.peer != pos } }
      ((s.peers.filter (· != pos)).foldl (fun s p => s.sendPlain 0x21 p 0xFF [BitVec.ofNat 8 mask]) s).setMembers mask
  else if pos = s.power.pos && lost s.treble then s.leaveQuad.membersEvent
  else s

/-- QUAD_DISSOLVE, served. -/
def State.runDissolve (s : State) (pf : Nat) : State :=
  if pf ≠ 0 then s.finish pf .refused []
  else if !s.car.formed then s.finish pf .ok []
  else if s.car.job.isSome || s.ctxs.any fun x => x.quad && ctxLive x.st then s.finish pf .busy []
  else (s.tellMembers 0x22 []).leaveQuad.membersEvent.finish pf .ok []

/-- DISSOLVE. -/
def State.dissolveRecord (s : State) (r : Bytes) : State :=
  if (recHead r).typ ≠ 0x22 ∨ !s.recordTurn r then s
  else
    let s := s.takeRecord r
    if !s.car.formed || !bitOf s.car.members (recHead r).src then s else s.leaveQuad.membersEvent

/-! ### The job key (R572) -/

/-- K_e stands in one D2 slot of each link (R573). -/
def State.loadEpochKey (s : State) : State :=
  match s.car.job with
  | none => s
  | some j =>
    let key := epochKey j j.epoch
    (List.range 3).foldl (fun s k => s.putKey 2 (2 * k + j.epoch % 2) key 1 j.ctx) s

/-- A member refuses the exchange. -/
def State.refuseExchange (s : State) (c dst : Nat) (hid : Bytes) (st : Status) : State :=
  (({ s with car := { s.car with job := none } }).dropJobKeys).sendExchange c dst 2 hid
    (leBytes 2 (statusCode st))

/-- The D2 slot of the link to a position that holds the link session key L, SINGLE, between its derivation and its one use
(R572). -/
def State.sessionSlot (s : State) (pos : Nat) : Nat := 2 * (s.linkTo pos).getD 0

/-- The Treble's ephemeral key at a member: its own goes back, and the link session key is derived; none while the DRBG gives
nothing. -/
def State.exchangeMember (s : State) (c src : Nat) (hid body : Bytes) : Option State :=
  let pub := slice body 0 97
  if s.car.job.isSome then some (s.sendExchange c src 2 hid (leBytes 2 (statusCode .busy)))
  else
    match s.exchangeOk src hid pub (slice body 97 96) with
    | some st => some (s.refuseExchange c src hid st)
    | none =>
      match s.ephemeral hid with
      | none => none
      | some ((d, own, sig), s) =>
        let l := linkKey d pub hid s.power.pos src
        let s := { s with car := { jobReset s.car with job := some { ctx := c, hid := hid } } }
        some ((s.putKey 2 (s.sessionSlot src) l 0 c).sendExchange c src 0 hid (own ++ sig))

/-- A member's ephemeral key at the Treble: J goes to it under the link session key, which is zeroised then; with the last
member's the parameter block goes out (R359). -/
def State.exchangeTreble (s : State) (j : Job) (src : Nat) (hid body : Bytes) : State :=
  let pub := slice body 0 97
  match s.exchangeOk src hid pub (slice body 97 96) with
  | some st => s.openFails j.ctx st
  | none =>
    match j.eph.find? fun e => e.1 == src with
    | none => s
    | some e =>
      let l := linkKey e.2.1 pub hid s.power.pos src
      let s := s.sendExchange j.ctx src 1 hid (Crypto.gcmSeal l (List.replicate 12 0) [] j.key)
      let keyed := if j.keyed.contains src then j.keyed else j.keyed ++ [src]
      let s := s.updJob fun j => { j with keyed := keyed, eph := j.eph.filter fun e => e.1 != src }
      if s.peers.all keyed.contains then s.loadEpochKey.ctlAll .params j.held else s

/-- J at a member. -/
def State.exchangeKey (s : State) (j : Job) (src : Nat) (hid body : Bytes) : State :=
  let slot := s.sessionSlot src
  match s.keyhold.slots.find? fun k => k.engine == 2 && k.index == slot with
  | none => s
  | some l =>
    let s := s.dropKeys fun k => k.engine == 2 && k.index == slot
    match Crypto.gcmOpen (xorBytes l.key l.mask) (List.replicate 12 0) [] body with
    | none => s.refuseExchange j.ctx src hid .authFail
    | some key => (s.updJob fun j => { j with key := key }).putKey 7 2 key 1 j.ctx

/-- A refusal, at the Treble or at a member. -/
def State.exchangeRefused (s : State) (j : Job) (code : Nat) : State :=
  if s.isTreble then
    s.openFails j.ctx (statusOf code)
  else if ctxLive (s.ctx j.ctx).st then s
  else ({ s with car := { s.car with job := none } }).dropJobKeys

/-- JOB_KEY_EXCHANGE (R572): a plain record of CONTROL's type. It waits, where it is, while the DRBG gives nothing. -/
def State.exchangeRecord (s : State) (r : Bytes) : State :=
  let h := recHead r
  if h.typ ≠ 0x10 ∨ h.epoch ≠ 0 ∨ !s.recordTurn r then s
  else
    let b := plainBody r
    let hid := slice b 1 16
    let body := b.drop 17
    let t := s.takeRecord r
    if !s.car.formed || !bitOf s.car.members h.src then t
    else if byteAt b 0 = 0 ∧ h.src = s.treble then
      match t.exchangeMember h.ctx h.src hid body with
      | some t => t
      | none => s.noteWait 0
    else
      match s.car.job with
      | none => t
      | some j =>
        if j.ctx ≠ h.ctx then t
        else if byteAt b 0 = 0 then (if s.isTreble then t.exchangeTreble j h.src hid body else t)
        else if byteAt b 0 = 1 ∧ h.src = s.treble then t.exchangeKey j h.src hid body
        else if byteAt b 0 = 2 then t.exchangeRefused j (leAt body 0 2)
        else t

end Sys2Proof.Machine
end

