-- ==== Sys2Proof/Machine/Supply.lean ====
section
/-! DEFINITION. Supplies and losses (PKG, R111 to R121; BOO, R133 to R137; KEY, R499 to R506): the core's power, resets,
Tocsin's response, LOCKED, and Belfry's replies, which several of them end. -/
namespace Sys2Proof.Machine

open Sys2Proof

/-! ### Replies to orders (R623, R624, R638) -/

/-- The session number that stands for SMBus, the path of the local orders. -/
def smbusSession : Nat := 2 ^ 32

/-- A message of Table BLF-1. -/
def belfryMsg (req code status : Nat) (body : Bytes) : Bytes :=
  beBytes 2 0x5642 ++ [1, BitVec.ofNat 8 code] ++ beBytes 4 req ++ beBytes 4 body.length ++ beBytes 2 status ++ [0, 0] ++ body

/-- A session is open. -/
def State.sessionOpen (s : State) (k : Nat) : Bool := s.belfry.sessions.any fun x => x.id == k

/-- A session changed by `f`. -/
def State.updSession (s : State) (k : Nat) (f : Session → Session) : State :=
  { s with belfry := { s.belfry with sessions := s.belfry.sessions.map fun x => if x.id == k then f x else x } }

/-- A reply (R624): it leaves on its session, if that is still open, and is cached among the last 64. On SMBus it is the
body alone, after the status. -/
def State.belfryReply (s : State) (sess req code : Nat) (st : Status) (body : Bytes) : State :=
  if sess = smbusSession then s.emit (.smbus (beBytes 2 (statusCode st) ++ body))
  else if !s.sessionOpen sess then s
  else
    let m := belfryMsg req code (statusCode st) body
    (s.updSession sess fun x =>
      { x with outstanding := x.outstanding.erase req, cache := (x.cache ++ [(req, m)]).drop (x.cache.length + 1 - 64) }).emit
        (.belfry sess m)

/-- An order that waited ends: its reply. -/
def State.belfryAnswer (s : State) (sess req : Nat) (st : Status) (body : Bytes) : State :=
  match s.belfry.waiting.find? fun w => w.1 == sess && w.2.1 == req with
  | none => s
  | some w =>
    ({ s with belfry := { s.belfry with waiting := s.belfry.waiting.filter fun x => !(x.1 == sess && x.2.1 == req) } }).belfryReply
      sess req (w.2.2 % 256) st body

/-- Whoever asked for a transition hears of its end. -/
def State.answer (s : State) (a : Asker) (st : Status) (result : Bytes) : State :=
  match a with
  | .host pf seq => if (s.fn pf).serving.any fun v => v.seq == seq then s.finish pf st result else s
  | .belfry sess req => s.belfryAnswer sess req st []
  | .device => s

/-- Every session is closed without a reply to its outstanding orders (R621). -/
def State.closeSessions (s : State) : State :=
  let l := s.belfry.sessions
  let s := { s with belfry := { s.belfry with sessions := [], queue := [], waiting := s.belfry.waiting.filter fun w => w.1 == smbusSession } }
  l.foldl (fun s x => s.emit (.sessionClosed x.id)) s

/-! ### The core's power (R111, R118) -/

/-- A Pan as the loss of VDDC leaves it (R192, R528): its repairs and its retirement stay in silicon. -/
def corePan (q : Pan) : Pan :=
  { ({} : Pan) with
    st := if q.st == .retired || q.st == .returning then q.st else .unassigned
    suspect := q.suspect, retiredSubs := q.retiredSubs, badSpares := q.badSpares, repairs := q.repairs
    grainMask := q.grainMask, retriedTest := q.retriedTest }

/-- Registers of the blocks on VDDC: PAN and CHG. -/
def coreReg (r : Reg) : Bool :=
  [Reg.panStatus, .panSite, .panMem, .panSpare, .panEcc, .panTrap, .panErr, .chgStatus, .chgStrayTotal, .chgSyncCount,
    .chgStrayLast, .chgErr, .chgStrayPan].contains r

/-- A context whose Tally region is lost (R114); a void under way keeps what its certificate takes from it. -/
def tallyLost (c : Ctx) : Ctx := { c with ledger := [] }

/-- What the core held is lost: Pan memory, Tally, the Change fabric, the image, the scopes (Table BOO-2, R114, R528). An image
load in service ends (DESIGN CHOICE, log entry 27), and a member of a Quad, having no image, leaves it (R59). -/
def State.coreLost (s : State) : State :=
  let s := ((List.range 48).filter fun p => (s.pan p).retiring).foldl State.retireNow (s.abortLoad false)
  let s := (s.updQueue 6 fun b => { b with en := false }).quitQuad
  { s with
    pans := s.pans.map corePan
    ctxs := s.ctxs.map tallyLost
    fabric := {}
    img := { s.img with loaded := none, next := none, st := 0 }
    dbg := { s.dbg with scope := 0 }
    regs := s.regs.filter fun e => !coreReg e.1
    sweep := { s.sweep with slice := none, held := [], testing := [], failedOnce := [], deferred := false }
    cad := { s.cad with running := false, avs := [], capUnmet := false } }

/-- VDDC is removed: step 1 of R111. -/
def State.removeVddc (s : State) (why : VddcWhy) : State :=
  let up := match s.power.vddc with | .starting | .good => true | _ => false
  let t := s.coreLost
  { t with power := { t.power with
    vddcEn := false, vddc := if up then .discharging else s.power.vddc, vddcDsch := up || s.power.vddcDsch, why := why
    restartDue := false } }

/-- VDDC_EN rises: step 1 of Table PKG-10, at VSET 140. -/
def State.startVddc (s : State) : State :=
  { s with
    power := { s.power with vddcEn := true, vddcDsch := false, vddc := .starting, restartDue := false }
    cad := { s.cad with vset := 140 } }

/-- The core is to start: at once while VDDC is off, else after the hold (R130, R153). -/
def State.wantVddc (s : State) : State :=
  if s.power.vddc == .off then s.startVddc else { s with power := { s.power with restartDue := true } }

/-! ### LOCKED (R134) -/

/-- A status that the commands in service and parked on every function end with. -/
def State.endCommands (s : State) (st : Status) : State :=
  (List.range 4).foldl (fun s pf =>
    let l := (s.fn pf).parked
    let s := s.finish pf st []
    let s := s.updFn pf fun f => { f with parked := [] }
    l.foldl (fun s v => s.complete pf v.seq (cmdCode v.cmd) st []) s) s

/-- What is left of a context: a live harvest, or one whose void is under way, is CLOSED. -/
def lostCtx (c : Ctx) : Ctx := if c.st == .released || c.st == .voided then { c with result := [] } else {}

/-- Every harvest that is not RELEASED or VOIDED is lost without a certificate (R48, R112): its context reports that it is CLOSED
(R352). -/
def State.loseHarvests (s : State) (st : Status) : State :=
  let s := (List.range 4).foldl (fun s c =>
    let x := s.ctx c
    if ctxLive x.st || x.st == .voiding then s.harvestStateEvent c (shownState x) 0 false (statusCode st) else s) s
  { s with ctxs := s.ctxs.map lostCtx, car := { s.car with job := none, transfers := [], early := [] } }

/-- LOCKED is entered: the latch is set, Tocsin's sensor latch is cleared, and VDDC is off or on its way there: VDDC_EN never rises in
LOCKED (R111, R134). -/
def State.enterLocked (s : State) : State :=
  let s := match s.power.vddc with | .starting | .good => s.removeVddc .tocsin | _ => s
  { s with
    dev := { s.dev with
      st := .locked, switch := none, wake := none, muffling := none, shutting := none, thermWait := false,
      muffledTamper := false }
    toc := { s.toc with lockedLatch := true, latch := none, burning := false }
    power := { s.power with restartDue := false }
    img := { s.img with load := none }
    stores := { s.stores with scrub := 0 } }

/-- Zeroisation with what it ends: the sessions under the D6 key, the curve operations, the commands, the harvests. -/
def State.zeroise (s : State) (st : Status) : State :=
  let cut (r : CurveReq) : CurveRes := { tag := r.tag, status := st, out := [], noncanonical := false, time := 0 }
  let ends := ((s.keyhold.curveUnits.filterMap id) ++ s.keyhold.curveWait).map cut
  let s := s.zeroiseAll
  let s := { s with keyhold := { s.keyhold with curveDone := ends } }
  (s.closeSessions.endCommands st).loseHarvests st

/-! ### Tocsin (R499 to R506) -/

/-- The TAMPER event (Table KEY-8). -/
def State.tamperEvent (s : State) (sensor : Nat) : State :=
  s.event 4 0x17 0xFF (statusCode .tamperAbort) ([BitVec.ofNat 8 sensor, 0, 0, 0] ++ leBytes 4 s.toc.count)

/-- The always-on domain loses its power: what it records is lost; the fuses and the LOCKED latch are elsewhere. -/
def tocLost (t : Tocsin) : Tocsin := { unbroken := false, count := t.count, lockedLatch := t.lockedLatch }

/-- TOC_SENSE after a trip of a sensor (Table KEY-7). -/
def tocSense (sensor : Nat) (t : Tocsin) : Tocsin :=
  { t with
    mesh := t.mesh || sensor == 5, light := t.light || sensor == 6
    tamper0 := t.tamper0 || sensor == 8, tamper1 := t.tamper1 || sensor == 9 }

/-- VDDK is in its window: Tocsin and Keyhold run from it. -/
def State.onVddk (s : State) : Bool := s.power.auxOk && s.power.vddkOk

/-- The always-on domain is powered: from VDDK while that is in its window, from VBAT otherwise (R127, R499). -/
def State.tocPowered (s : State) : Bool := s.onVddk || s.power.vbatOk

/-- A sensor is watched (Table KEY-7). -/
def State.sensorWatched (s : State) (sensor : Nat) : Bool :=
  decide (1 ≤ sensor) && decide (sensor ≤ 9) &&
    (if sensor = 1 then s.onVddk
     else if sensor = 2 ∨ sensor = 7 then s.power.vddc == .good
     else s.tocPowered)

/-- Steps 1 to 3 of Table KEY-8: the sensor latched, zeroisation, VDDC removed. A further trip during a response changes
nothing (R503). -/
def State.tamperRespond (s : State) (sensor : Nat) : State :=
  if s.toc.burning then s
  else
    let s := { s with toc := { s.toc with
      latch := some sensor, cause := sensor, causeState := devCode s.dev.st, burning := true, cleanFlag := false } }
    (s.zeroise .tamperAbort).removeVddc .tocsin

/-- TAMPER_TRIP: the response while VDDK is in its window; on VBAT the sensor is latched for the next arming (R502); so it
is in HELD, where Keyhold is in reset (DEDUCED, log entry 28). -/
def State.tamperTrip (s : State) (sensor : Nat) : State :=
  if !s.sensorWatched sensor then s
  else
    let s := { s with toc := tocSense sensor s.toc }
    if !s.onVddk || s.dev.st == .held then
      if s.toc.latch.isSome then s
      else { s with toc := { s.toc with
        latch := some sensor, cause := sensor, causeState := if s.onVddk then devCode s.dev.st else 0xF, cleanFlag := false } }
    else s.tamperRespond sensor

/-- A tamper in Muffled whose scrub has not ended (R151). -/
def State.muffledTrip (s : State) : Bool := s.dev.muffledTamper || (s.dev.st == .muffled && s.toc.burning)

/-- TOCSIN_ARM (R504, R127, R132, R150): once per boot, before its step 1 ends. What it finds is a tamper during start-up;
on a spent part it ends in LOCKED with no increment (R474). -/
def State.tocsinArm (s : State) (mesh tamper0 tamper1 : Bool) : State :=
  if !(s.dev.st == .booting && s.dev.bootStep == 0 && !s.toc.armed && !s.toc.burning) then s
  else
    let t := s.toc
    let found : Option Nat := t.latch.or (if mesh then some 5 else if tamper0 then some 8 else if tamper1 then some 9 else none)
    let s := { s with toc := { t with
      armed := true, continuity := !t.unbroken, unbroken := true, mesh := mesh, tamper0 := tamper0, tamper1 := tamper1 } }
    if 4096 ≤ t.count then s.enterLocked
    else
      match found with
      | none => s
      | some sensor =>
        let s := s.tamperRespond sensor
        if t.latch.isSome then { s with toc := { s.toc with cause := t.cause, causeState := t.causeState } } else s

/-- THERMTRIP (R112): in hardware, without a count, whenever SYS_RST_N is high, in HELD too. What it stops stays stopped until a
system reset. While SYS_RST_N is low the device is in reset and THERMTRIP_N released (DEDUCED, log entry 64). -/
def State.thermtrip (s : State) : State :=
  if s.dev.st == .cold || !s.power.sysRstN then s
  else
    let s := (s.zeroise .lastingFault).removeVddc .thermtrip
    let s := { s with
      power := { s.power with thermtripN := false }
      toc := { s.toc with cleanFlag := false, therm := true }
      dev := { s.dev with switch := none, wake := none, muffling := none, shutting := none }
      stores := { s.stores with scrub := 0 } }
    s.settleDev

/-! ### Known answers (R662) -/

/-- A FATAL fault of the device (Table FLT-3) that ends in LOCKED without an increment. -/
def State.fatalLocked (s : State) (unit : Nat) (why : VddcWhy) : State :=
  let s := s.fault 3 unit 0 (statusCode .lastingFault) none 0 0
  ((s.zeroise .locked).removeVddc why).enterLocked

/-- KAT_TICK: a test that fails is run once more; a second failure is FATAL. At boot the tests are those of step 2. -/
def State.katTick (s : State) (pass : Bool) : State :=
  let boot := s.dev.st == .booting && s.dev.bootStep == 1 && !s.dev.halted
  let on := match s.dev.st with
    | .cold | .held | .locked => false
    | .booting => decide (2 ≤ s.dev.bootStep) || boot
    | _ => true
  if !on then s
  else if pass then { s with keyhold := { s.keyhold with katFailed := false } }
  else if !s.keyhold.katFailed then { s with keyhold := { s.keyhold with katFailed := true } }
  else s.fatalLocked 5 .fatal

/-! ### Resets (R133, R135) -/

/-- What a system reset makes of the supply: the core is off at the end of the hold of R111, which it does not shorten
(R130). -/
def resetPower (pin : Bool) (p : Power) : Power :=
  { p with
    vddcEn := false
    vddc := match p.vddc with | .starting | .good => .discharging | v => v
    vddcDsch := match p.vddc with | .off => false | _ => true
    why := .systemReset, tries := 0, restartDue := false
    thermtripN := p.thermtripN || pin }

/-- A system reset (Table BOO-2): every block but Belfry, the always-on domain and the LOCKED latch at its reset values;
the tenant is lost. `pin` says that SYS_RST_N is asserted, or acts so (R121). -/
def State.systemReset (s : State) (cause : Nat) (pin : Bool) : State :=
  let therm := !s.power.thermtripN
  let s := s.closeSessions
  let b : State := {}
  { b with
    regs := [(.devResetCause, 0, 2 ^ cause + b2n therm * 16)]
    power := resetPower pin s.power
    dev := { belfryPort := s.dev.belfryPort }
    toc := { s.toc with armed := false, burning := false, cleanRead := false }
    belfry := { s.belfry with repairFull := false, telq := [] }
    stores := { gen := s.stores.gen + 1 }
    pending := s.pending, out := s.out, free := s.free }

/-- A burn that a reset interrupts has burnt its bit (R474: an interrupted burn can only raise the count; DESIGN CHOICE,
log entry 28). -/
def State.finishBurn (s : State) : State :=
  if s.toc.burning then { s with toc := { s.toc with count := min 4096 (s.toc.count + 1), lockedLatch := true, burning := false, latch := none } }
  else s

/-- SYS_RST_ASSERT. -/
def State.sysRstAssert (s : State) : State :=
  let s' := { s with power := { s.power with sysRstN := false } }
  if s.dev.st == .cold || (s.dev.st == .held && !s.power.sysRstN) then s' else s'.finishBurn.systemReset 1 true

/-- VDDK loss (R120, R121): while SYS_RST_N is high it acts as its assertion. Tocsin moves to VBAT, if that is there. -/
def State.vddkLoss (s : State) : State :=
  if s.dev.st == .cold || !s.power.vddkOk then s
  else
    let s := s.finishBurn
    let s := { s with
      power := { s.power with vddkOk := false }
      toc := if s.power.vbatOk then { s.toc with cleanFlag := s.toc.cleanFlag && !s.power.sysRstN } else tocLost s.toc }
    if s.power.sysRstN then s.systemReset 2 true else s

/-- VBAT goes (R127): outside VDDK's window the domain loses its power. `replaced` says that a cell in its range is fitted again, as
VBAT may be at any time (R117). -/
def State.vbatLoss (s : State) (replaced : Bool) : State :=
  let s := { s with power := { s.power with vbatOk := replaced } }
  if s.onVddk then s else { s with toc := tocLost s.toc }

/-- The aux group falls (R133): COLD. LOCKED is left; Belfry stops; the board has taken VDDC away. -/
def State.auxLoss (s : State) : State :=
  if s.dev.st == .cold then s
  else
    let s := s.finishBurn
    let toc := if s.power.vbatOk then s.toc else tocLost s.toc
    let r := s.systemReset 0 true
    { r with
      regs := []
      dev := { st := .cold }
      power := { r.power with auxOk := false, sysRstN := false, vddc := .off, vddcDsch := false, why := .none }
      toc := { toc with armed := false, lockedLatch := false, burning := false }
      belfry := { r.belfry with
        running := false, eid := 0, pendingRepairs := [], waiting := [], spdm := 0, vca := [], chain := [], meas := [] } }

/-- POWER_ON_RESET (R133, R135): from COLD to HELD. VDDK is there again. -/
def State.powerOn (s : State) : State :=
  if s.dev.st != .cold then s
  else
    let r := s.systemReset 0 true
    { r with power := { r.power with auxOk := true, vddkOk := true, sysRstN := false, smbAlertN := true, why := .none } }

/-- The boot begins (R138). -/
def State.beginBoot (s : State) : State :=
  { s with dev := { s.dev with
    st := .booting, thermWait := false, bootStart := s.cad.toll
    waited := if s.dev.thermWait then s.cad.toll - s.dev.waitStart else 0 } }

/-- SYS_RST_RELEASE (R108, R112, R138): straps are latched at the rising edge of the pin; an internal reset ends without
one. With the LOCKED latch set the device goes to LOCKED. VDDK has come back. -/
def State.sysRstRelease (s : State) (pos : Nat) (bootSrc : Bool) (smb : Nat) (cool : Bool) : State :=
  if s.dev.st != .held || s.dev.thermWait then s
  else
    let p := s.power
    let p := if p.sysRstN then p else
      { p with sysRstN := true, posPin := pos, bootSrcPin := b2n bootSrc, smbAddrPin := smb, pos := pos, bootSrc := b2n bootSrc, smbAddr := smb }
    let s := { s with power := { p with vddkOk := true } }
    if s.toc.lockedLatch then { s with dev := { s.dev with st := .locked } }
    else if cool then s.beginBoot
    else { s with dev := { s.dev with thermWait := true, waitStart := s.cad.toll } }

/-- THERMAL_WAIT_END (R112). -/
def State.thermalWaitEnd (s : State) : State :=
  if s.dev.st == .held && s.dev.thermWait && s.power.thermtripN then s.beginBoot else s

/-! ### Scrubs (R550, R551) -/

/-- A scrub under the scrub keys in force. -/
def State.scrubBegins (s : State) : State :=
  let s := s.storeKeys .scrub
  { s with stores := { s.stores with scrub := 1, selfRefresh := false } }

/-- A full scrub begins under fresh scrub keys, in the slots of D0 (Table KEY-2); none while the DRBG gives none. After zeroisation
there is no DRBG: the keys are then of no matter, because every key that read the Stores is gone (log entry 28). -/
def State.startScrub (s : State) : Option State :=
  if s.keyhold.drbgZeroised then some s.scrubBegins
  else (s.draw 0 64).map fun x =>
    ((List.range 4).foldl (fun s i => (s.putKey 0 (2 * i) (x.1.take 32) 3 0).putKey 0 (2 * i + 1) (x.1.drop 32) 3 0) x.2).scrubBegins

/-- A pseudo-channel fenced, retired or returned: UNIT_STATE (Table STO-3). -/
def State.setPc (s : State) (i new cause : Nat) : State :=
  let old := (s.pc i).st
  let s := s.updPc i fun p => { p with st := new, cause := cause }
  if old = new then s else s.unitStateEvent 2 i old new 0

/-- The end of the scrub itself: mismatching pseudo-channels are fenced, the scrub keys zeroised. -/
def State.endScrub (s : State) (mismatch : List Nat) : State :=
  let s := mismatch.foldl (fun s i => if (s.pc i).st = 0 ∧ i < 128 then s.setPc i 1 3 else s) s
  let s := (s.dropKeys fun k => k.engine == 0).storeKeys .none
  { s with stores := { s.stores with scrub := 0, scrubFresh := !s.tenanted } }

/-! ### The tenant switch (R39, R524, Table ATT-7) -/

/-- Step 2: every TENANT and HARVEST key and every slot of D0, D3 and D4 zeroised; sealed results are gone with the
tenant Store key, certificates stay. A member of a Quad, having no tenant, leaves it (R59). -/
def State.eraseTenant (s : State) : State :=
  let s := s.dropKeys fun k => k.lifetime == 1 || k.lifetime == 2 || k.engine == 0 || k.engine == 3 || k.engine == 4
  let kr := s.keyhold.keyreg
  let kr := if kr.attr.lifetime = 1 ∨ kr.attr.lifetime = 2 then { kr with key := List.replicate 32 0, attr := {} } else kr
  let s := { s with keyhold := { s.keyhold with keyreg := kr, tenantKey := none }, blobs := [] }
  let s := { s with ctxs := s.ctxs.map fun c => { zeroCtxSecrets c with result := [] } }
  (s.storeKeys .none).quitQuad

/-- Returns of pseudo-channels in progress end with RETIRED (R549). -/
def State.endReturns (s : State) : State :=
  let l := s.stores.returning
  let s := { s with stores := { s.stores with returning := [] } }
  l.foldl (fun s i =>
    let s := s.setPc i 2 5
    match s.belfry.waiting.find? fun w => w.2.2 == 0x25 + 256 * (2 * 256 + i) with
    | some w => s.belfryAnswer w.1 w.2.1 .lastingFault []
    | none => s) s

/-- The switch goes as far as it can: from step 0 (voids still under way) through the crypto-erase to the scrub,
which needs scrub keys of the DRBG. -/
def State.advanceSwitch (s : State) : State :=
  match s.dev.switch with
  | none => s
  | some w =>
    if w.step = 0 ∧ s.ctxs.any (·.st == .voiding) then s
    else
      let s := if w.step = 0 then
          (s.eraseTenant.endReturns).settleDev
        else s
      if w.step < 3 then
        match s.startScrub with
        | some s => { s with dev := { s.dev with switch := some { w with step := 3 } } }
        | none => { s.noteWait 0 with dev := { s.dev with switch := some { w with step := 2 } } }
      else s

/-- A tenant switch begins (step 1). -/
def State.beginSwitch (s : State) (a : Asker) : State :=
  ({ s with dev := { s.dev with switch := some { step := 0, by_ := a, coreOff := s.power.vddc != VddcState.good } } }).advanceSwitch

/-- A switch that waited for voids to end goes on. -/
def State.resumeSwitch (s : State) : State := if s.dev.switch.any fun w => w.step == 0 then s.advanceSwitch else s

/-- An orderly shutdown goes on once the device is untenanted and the Stores are scrubbed (R627): VDDC is removed. -/
def State.shutVddc (s : State) : State :=
  if s.power.vddc == .off && !s.power.restartDue then
    -- the core is off already
    let a := s.dev.shutting.getD .device
    let s := { s with toc := { s.toc with cleanFlag := true }, dev := { s.dev with shutting := none, shutDown := true } }
    s.answer a .ok []
  else s.removeVddc .shutdown

/-- The last step: UNTENANTED. -/
def State.endSwitch (s : State) (st : Status) : State :=
  match s.dev.switch with
  | none => s
  | some w =>
    let s := { s with dev := { s.dev with switch := none, st := .untenanted }, img := { s.img with placed := [] } }
    let s := s.answer w.by_ st []
    if s.dev.shutting.isSome then s.shutVddc else s

/-- Step 4: contexts closed, VDDC removed; with the core lost for good the switch ends here. -/
def State.switchPower (s : State) (w : TenantSwitch) : State :=
  let s := (List.range 4).foldl (fun s c =>
    let st := (s.ctx c).st
    if st == .released || st == .voided then s.closeCtx c else s) s
  let s := { s with dev := { s.dev with switch := some { w with step := 4 } } }
  if s.dev.coreDead then ((s.coreLost).rebuildStripe).endSwitch .lastingFault
  else
    let s := (s.setBit .devResetCause 0 6).removeVddc .tenantSwitch
    if s.power.vddc == .off then { s with power := { s.power with restartDue := true } } else s

/-! ### The VDDC sequence (R111, R118, R129) -/

/-- VDDC_DISCHARGED: the hold begins; a MUFFLE in progress completes (R146). -/
def State.vddcDischarged (s : State) : State :=
  if s.power.vddc != .discharging then s
  else
    let s := { s with power := { s.power with vddc := .hold } }
    match s.dev.muffling with
    | none => s
    | some a =>
      let s := { s with dev := { s.dev with muffling := none } }
      s.answer a .ok [BitVec.ofNat 8 (devCode s.dev.st)]

/-- What waits for the core: a boot at step 3, a wake, a switch past its step 4, a brownout or a retry. -/
def State.coreWanted (s : State) : Bool :=
  match s.dev.st with
  | .cold | .held | .locked => false
  | _ =>
    s.power.thermtripN && !s.muffledTrip && !s.dev.coreDead && !s.dev.halted &&
      (s.power.why == .brownout || s.power.why == .startRetry || s.power.why == .tenantSwitch || s.power.restartDue ||
        s.dev.wake.isSome)

/-- VDDC_HOLD_END: VDDC_DSCH goes low; what waits may proceed. -/
def State.vddcHoldEnd (s : State) : State :=
  if s.power.vddc != .hold then s
  else
    let due := s.coreWanted
    let s := { s with power := { s.power with vddc := .off, vddcDsch := false, restartDue := due } }
    if s.power.why == .shutdown && s.dev.shutting.isSome then s.shutVddc else s

/-- VDDC_RESTART: VDDC_EN rises again. -/
def State.vddcRestart (s : State) : State :=
  if s.power.restartDue && s.power.vddc == .off then s.startVddc else s

/-- Every Pan that is not retired or returning is under the self-test. -/
def State.testAll (s : State) : State := s.startTests (List.range 48)

/-- VDDC_GOOD (Table PKG-10, step 3); the first Status read goes out, whose end starts the governor (step 4, R118). A switch or a
wake goes on with its self-tests. -/
def State.vddcGood (s : State) : State :=
  if s.power.vddc != .starting then s
  else
    let s := ({ s with power := { s.power with vddc := .good, tries := 0, why := .none } }).avsQueue
      [{ kind := 0, value := 0, first := true }]
    match s.dev.switch, s.dev.wake with
    | some w, _ =>
      if w.step = 4 then ({ s with dev := { s.dev with switch := some { w with step := 5 } } }.rebuildStripe).testAll else s
    | none, some w => ({ s with dev := { s.dev with wake := some { w with step := 3 } } }).testAll
    | none, none => s

/-- A wake that has failed (R149): crypto-erase, scrub, UNTENANTED with the core off. -/
def State.wakeFails (s : State) (a : Asker) : State :=
  let s := { s with dev := { s.dev with wake := none, coreDead := true } }
  (s.answer a .lastingFault [BitVec.ofNat 8 (devCode s.dev.st)]).beginSwitch .device

/-- The core could not be started twice. In a boot it halts; a wake fails; elsewhere the core stays off (log entry 27). -/
def State.coreFails (s : State) : State :=
  match s.dev.st, s.dev.wake with
  | .booting, _ => { s with dev := { s.dev with halted := true, fail := 2 } }
  | _, some w => s.wakeFails w.by_
  | _, none =>
    let s := { s with dev := { s.dev with coreDead := true } }
    if s.dev.switch.any fun w => w.step == 4 then (s.rebuildStripe).endSwitch .lastingFault else s

/-- VDDC_START_TIMEOUT (R118): removed, and tried once more. -/
def State.vddcStartTimeout (s : State) : State :=
  if s.power.vddc != .starting then s
  else if s.power.tries = 0 then
    let s := s.removeVddc .startRetry
    { s with power := { s.power with tries := 1 }, dev := { s.dev with vddcRetry := true } }
  else
    let s := s.removeVddc .startFailed
    ({ s with power := { s.power with tries := 0 } }).coreFails

/-- VDDC_DISCHARGE_FAIL (R129). -/
def State.vddcDischargeFail (s : State) : State :=
  if s.power.vddc != .discharging || s.dev.st == .cold || s.dev.st == .locked then s
  else ({ s with toc := { s.toc with dischargeFail := true } }).fatalLocked 0 s.power.why

/-- A switch whose self-tests lost the core is back at its step 4. -/
def switchRestart (w : TenantSwitch) : TenantSwitch := if w.step = 5 then { w with step := 4 } else w

/-- VDDC_BROWNOUT (R121): live harvests are voided, then the core is removed and restarted. A tenant switch in its self-tests starts
the core again and tests again. -/
def State.vddcBrownout (s : State) : State :=
  if s.power.vddc != .good then s
  else
    let s := (s.fault 3 0 0 (statusCode .lastingFault) none 0 0).voidAll .lastingFault
    let s := { s with dev := { s.dev with switch := s.dev.switch.map switchRestart } }
    (s.setBit .devResetCause 0 7).removeVddc .brownout

/-! ### Muffled (R146, R149) -/

/-- MUFFLE. It completes when VDDC reads below 50 mV: at once where the core is off or in its hold already. -/
def State.runMuffle (s : State) (pf : Nat) : State :=
  let res (s : State) : Bytes := [BitVec.ofNat 8 (devCode s.dev.st)]
  match s.dev.st, (s.fn pf).serving with
  | .muffled, _ => s.finish pf .ok (res s)
  | .tenantedIdle, some v =>
    if s.img.load.isSome || s.dev.switch.isSome then s.finish pf .busy (res s)
    else
      let s := { s with
        dev := { s.dev with st := .muffled, muffling := some (.host pf v.seq) }, stores := { s.stores with selfRefresh := true } }
      match (s.removeVddc .muffle).power.vddc with
      | .discharging => s.removeVddc .muffle
      | _ => ({ s.removeVddc .muffle with dev := { s.dev with muffling := none } }).finish pf .ok (res s)
  | .running, _ => s.finish pf .busy (res s)
  | _, _ => s.finish pf .refused (res s)

/-- The scrub that precedes LOCKED after a tamper in Muffled (R151). -/
def State.tamperScrub (s : State) (a : Asker) : State :=
  match s.startScrub with
  | some s => { s with dev := { s.dev with wake := some { step := 0, by_ := a } } }
  | none => s

/-- A wake begins (R149, R153). -/
def State.beginWake (s : State) (a : Asker) : State :=
  if s.dev.muffledTamper then s.tamperScrub a
  else
    let t := { s with dev := { s.dev with wake := some { step := 0, by_ := a } } }
    if s.toc.burning then t else t.wantVddc

/-- TAMPER_COUNTER_BURN (R474, Table KEY-8, steps 4 and 5): a spent counter stands. In Muffled, LOCKED waits for the scrub
that WAKE or an order of Belfry's begins; a WAKE served since the trip begins it now (R151). -/
def State.tamperBurn (s : State) : State :=
  if !s.toc.burning then s
  else
    let s := { s with toc := { s.toc with count := min 4096 (s.toc.count + 1), burning := false } }
    if s.dev.st == .muffled then
      let s := { s with dev := { s.dev with muffledTamper := true } }
      match s.dev.wake with
      | some w => s.tamperScrub w.by_
      | none => s
    else (s.enterLocked).tamperEvent s.toc.cause

/-- WAKE. The states that the spec does not list for it refuse it (DESIGN CHOICE, log entry 27). -/
def State.runWake (s : State) (pf : Nat) : State :=
  match s.dev.st, (s.fn pf).serving with
  | .muffled, some v =>
    if s.dev.wake.isSome || s.dev.switch.isSome then s.finish pf .busy [BitVec.ofNat 8 (devCode s.dev.st)]
    else s.beginWake (.host pf v.seq)
  | _, _ => s.finish pf .refused [BitVec.ofNat 8 (devCode s.dev.st)]

/-- WAKE_COMPLETE: steps 4 and 5 of Table BOO-7, once the self-tests are over. -/
def State.wakeComplete (s : State) : State :=
  match s.dev.wake with
  | none => s
  | some w =>
    if w.step ≠ 3 ∨ s.power.vddc ≠ .good ∨ s.sweep.testing ≠ [] ∨ s.dev.st ≠ .muffled then s
    else
      let s := { s with dev := { s.dev with wake := none, st := .tenantedIdle }, stores := { s.stores with selfRefresh := false } }
      s.answer w.by_ .ok [BitVec.ofNat 8 (devCode s.dev.st)]

/-- An orderly shutdown begins (R627, R643). -/
def State.beginShutdown (s : State) (a : Asker) : State :=
  let scrubbing := s.stores.scrub == 1
  let s := { s with dev := { s.dev with shutting := some a, shutScrub := scrubbing && !s.tenanted } }
  match s.dev.st with
  | .untenanted =>
    if scrubbing then s
    else match s.startScrub with
      | some s => s
      | none => s.noteWait 0
  | .tenantedIdle | .running | .muffled =>
    if s.dev.switch.isSome then s else (s.voidAll .preempted).beginSwitch .device
  | _ => s

/-- SHUTDOWN at UNTENANTED entry: the boot's own scrub counts where it was in progress at the order. -/
def State.resumeShutdown (s : State) : State :=
  if s.dev.shutting.isNone || s.dev.st != .untenanted || s.stores.scrub == 1 || s.power.why == .shutdown then s
  else if s.dev.shutScrub then s.shutVddc
  else match s.startScrub with
    | some s => s
    | none => s.noteWait 0

end Sys2Proof.Machine
end

