-- ==== Sys2Proof/Machine/Boot.lean ====
section
/-! DEFINITION. The boot (BOO, R138 to R145), the user records (CAD R86 to R88; FLT R661 to R665), self-tests, scrubs and
returns as they end, Store requests, resets of functions. -/
namespace Sys2Proof.Machine

open Sys2Proof

/-! ### The user calibration record (R88, R632) -/

/-- Every byte is erased. -/
def erased (b : Bytes) : Bool := b.all (· == 0xFF)

/-- A header of 16 bytes: MAGIC, VERSION 1, COUNT up to a bound, zeros elsewhere; `size` bytes an entry, erased behind. -/
def recordForm (magic : Bytes) (limit size : Nat) (b : Bytes) : Bool :=
  slice b 0 4 == magic && beAt b 4 2 == 1 && beAt b 6 2 == 0 && beAt b 12 4 == 0 && decide (16 ≤ b.length) &&
    decide (beAt b 8 4 ≤ limit) && decide (16 + size * beAt b 8 4 ≤ b.length) && erased (b.drop (16 + size * beAt b 8 4))

/-- Entries of a record. -/
def recordEntries (size : Nat) (b : Bytes) : List Bytes :=
  if erased b then [] else (List.range (beAt b 8 4)).map fun i => slice b (16 + size * i) size

/-- A trim entry that Table CAD-3 lists. -/
def trimOk (e : Bytes) : Bool :=
  (decide (byteAt e 0 < 48) || byteAt e 0 == 0xFF) && decide (byteAt e 1 ≤ 4) && byteAt e 3 == 0

/-- The record is accepted: erased, or well formed in 64 KiB. -/
def calOk (b : Bytes) : Bool :=
  erased b || (decide (b.length ≤ 65536) && recordForm (ascii "VZCL") 16380 4 b && (recordEntries 4 b).all trimOk)

/-- The offset bytes that apply, by Pan × 8 + group: a later entry of the record wins (R88). -/
def trimBytes (b : Bytes) : List (Nat × Nat) :=
  (recordEntries 4 b).foldl (fun l e =>
    let ps := if byteAt e 0 = 0xFF then List.range 48 else [byteAt e 0]
    ps.foldl (fun l p => insertN l (8 * p + byteAt e 1) (byteAt e 2)) l) []

/-- The user offsets of a record, by Pan × 8 + group; a negative offset is zero (R87). -/
def trimsOf (b : Bytes) : List (Nat × Nat) :=
  ((trimBytes b).map fun e => (e.1, (signed 8 e.2).toNat)).filter fun e => e.2 != 0

/-- A negative offset applies: it is applied as zero (R87). -/
def trimsClamped (b : Bytes) : Bool := (trimBytes b).any fun e => decide (128 ≤ e.2)

/-! ### The user repair record (R663 to R665) -/

/-- What the repair entries amount to, in order. -/
structure RepairMap where
  rows : List (Nat × Nat × Nat × Nat) := []
  bad : List (Nat × Nat × Nat) := []
  subs : List (Nat × Nat) := []
  pans : List Nat := []
  pcs : List Nat := []

/-- The factory repair map (R472). -/
def factoryMap : RepairMap := { rows := Config.factoryRows, subs := Config.factoryRetired }

/-- An entry keeps to Table FLT-7. -/
def repairForm (e : Bytes) : Bool :=
  let k := byteAt e 0
  let sub := beAt e 2 2
  let row := beAt e 4 2
  let spare := byteAt e 6
  decide (1 ≤ k) && decide (k ≤ 7) && decide (byteAt e 1 < if k ≤ 5 then 48 else 128) &&
    (if k ≤ 3 then decide (sub < 384) else sub == 0) && (if k = 1 then decide (row < 512) else row == 0) &&
    (if k ≤ 2 then decide (spare < 8) else spare == 0) && byteAt e 7 == 0

/-- One entry applied; none where it breaks a rule of R664. -/
def repairStep (m : RepairMap) (e : Bytes) : Option RepairMap :=
  let u := byteAt e 1
  let sub := beAt e 2 2
  let row := beAt e 4 2
  let spare := byteAt e 6
  if !repairForm e then none
  else
    match byteAt e 0 with
    | 1 =>
      if m.bad.contains (u, sub, spare) || m.rows.any fun r => r.1 == u && r.2.1 == sub && r.2.2.2 == spare && r.2.2.1 != row then none
      else some { m with rows := m.rows ++ [(u, sub, row, spare)] }
    | 2 => some { m with
        bad := m.bad ++ [(u, sub, spare)], rows := m.rows.filter fun r => !(r.1 == u && r.2.1 == sub && r.2.2.2 == spare) }
    | 3 => some { m with subs := m.subs ++ [(u, sub)] }
    | 4 => some { m with pans := m.pans ++ [u] }
    | 5 => some { m with pans := m.pans.filter (· != u) }
    | 6 => some { m with pcs := m.pcs ++ [u] }
    | _ => some { m with pcs := m.pcs.filter (· != u) }

/-- The map under a record; none where the record is rejected. -/
def repairMap (b : Bytes) : Option RepairMap :=
  if erased b then some factoryMap
  else if b.length ≤ 2 ^ 20 ∧ recordForm (ascii "VZRR") 131070 8 b then (recordEntries 8 b).foldlM repairStep factoryMap
  else none

/-- A record of entries. -/
def repairRecord (l : List Bytes) : Bytes :=
  ascii "VZRR" ++ [0, 1, 0, 0] ++ beBytes 4 l.length ++ [0, 0, 0, 0] ++ l.flatten

/-- An entry that a later one supersedes or cancels (R664, R665). -/
def superseded (e : Bytes) (later : List Bytes) : Bool :=
  match byteAt e 0 with
  | 1 => later.any fun f => (byteAt f 0 == 1 && slice f 1 5 == slice e 1 5) ||
      (byteAt f 0 == 2 && slice f 1 3 == slice e 1 3 && byteAt f 6 == byteAt e 6)
  | 4 => later.any fun f => byteAt f 0 == 5 && byteAt f 1 == byteAt e 1
  | 6 => later.any fun f => byteAt f 0 == 7 && byteAt f 1 == byteAt e 1
  | 5 | 7 => true
  | _ => later.contains e

/-- A record compacted. -/
def compact : List Bytes → List Bytes
  | [] => []
  | e :: r => if superseded e r then compact r else e :: compact r

/-- REPAIR_APPEND (R633, R665): the oldest repair that waits is appended. A stored record that its own rules reject begins
anew (DESIGN CHOICE, log entry 29). -/
def State.repairAppend (s : State) : State :=
  match s.belfry.pendingRepairs with
  | [] => s
  | e :: rest =>
    if !s.belfry.running then s
    else
      let s := { s with belfry := { s.belfry with pendingRepairs := rest } }
      let old := if (repairMap s.belfry.repair).isSome then recordEntries 8 s.belfry.repair else []
      let l := if 131070 < old.length + 1 then compact (old ++ [e]) else old ++ [e]
      if 131070 < l.length then
        if s.belfry.repairFull then s
        else ({ s with belfry := { s.belfry with repairFull := true } }).errorEvent none (statusCode .refused) 0 3 0 0 0
      else { s with belfry := { s.belfry with repair := repairRecord l } }

/-! ### Boot steps (Table BOO-3) -/

/-- The boot halts (R140, Table BOO-5). -/
def State.bootHalt (s : State) (code : Nat) : State := { s with dev := { s.dev with halted := true, fail := code } }

def State.setStep (s : State) (n : Nat) : State := { s with dev := { s.dev with bootStep := n } }

/-- PCI Express link state, with its event (R453). -/
def State.setPcie (s : State) (st : Nat) : State :=
  if s.dev.pcie = st then s else ({ s with dev := { s.dev with pcie := st } }).linkStateEvent 2 0 st

/-- Training begins at the later of PERST_N rising and the end of step 1 (R144); in LOCKED the endpoint stays readable. -/
def State.pcieTrain (s : State) : State :=
  let ready := match s.dev.st with
    | .cold | .held => false
    | .booting => decide (1 ≤ s.dev.bootStep)
    | _ => true
  if ready && s.power.perstN && s.dev.pcie == 0 then s.setPcie 1 else s

/-- Step 1: the always-on domain is armed and found nothing. -/
def State.bootStep1 (s : State) : State :=
  if !s.toc.armed || s.toc.burning || s.toc.latch.isSome then s
  else (({ s with toc := { s.toc with cleanRead := s.toc.cleanFlag, cleanFlag := false } }).setStep 1).pcieTrain

/-- The firmware slot that runs: the active one, or the other (R140). -/
def State.fwPick (s : State) : Option Nat :=
  let ok (n : Nat) : Bool :=
    let x := s.belfry.slots.getD n {}
    Config.fwVerifies n x.erased x.writes
  if ok s.belfry.active then some s.belfry.active
  else if ok (1 - s.belfry.active) then some (1 - s.belfry.active) else none

/-- A component's digest in a slot. -/
def State.fwDigestOf (s : State) (n part : Nat) : Bytes :=
  let x := s.belfry.slots.getD n {}
  Config.fwDigest n x.erased x.writes part

/-- The keys of step 2 (R473, R475, R476) with the alias certificate (R514); none while the DRBG gives nothing. The private
key of the identity is used here and nowhere kept. -/
def State.bootKeys (s : State) (slot : Nat) : Option State :=
  let ds := [Config.romDigest, s.fwDigestOf slot 0, s.belfry.digest]
  let mfw := Crypto.sha384 (ds.flatMap id)
  let ident := deriveP384 Config.uds (ascii "VZ identity")
  let cdi := kdf Config.uds mfw (ascii "VZ cdi") 48
  let ali := deriveP384 cdi (ascii "VZ alias")
  let bel := deriveP384 Config.uds (ascii "VZ belfry")
  let tbs := aliasTbs ali.2 (mfw :: ds)
  (s.ecSign Crypto.cP384 (beNat ident.1) tbs).map fun x =>
    let s := ((x.2.putKey 5 0 ali.1 3 0).putKey 6 0 bel.1 3 0).putKey 7 0 cdi 3 0
    { s with
      keyhold := { s.keyhold with
        udsClosed := true, fw := ds, identityPub := ident.2, aliasPub := ali.2, aliasCert := derCert tbs x.1
        belfryPub := bel.2, cdi := cdi }
      dev := { s.dev with fwSlot := slot, fwFallback := slot != s.belfry.active } }

/-- Step 2: firmware verified, keys derived, DRBG instantiated; then VDDC is started. -/
def State.bootStep2 (s : State) : State :=
  match s.fwPick with
  | none => s.bootHalt 1
  | some slot =>
    if s.keyhold.streams.all (·.inst) then
      match s.bootKeys slot with
      | none => s.noteWait 0
      | some s => (s.setStep 2).wantVddc
    else if s.dev.bootStart + 2000000 ≤ s.cad.toll then s.bootHalt 4
    else s

/-- Step 3: VDDC is good; the calibration is applied. -/
def State.bootStep3 (s : State) : State :=
  if s.power.vddc != .good then s
  else
    let b := s.belfry.cal
    let s := { s with cad := { s.cad with calRecord := b } }
    if calOk b then
      let s := { s with cad := { s.cad with trims := trimsOf b } }
      (if trimsClamped b then s.setBit .cadEvt 0 3 else s).setStep 3
    else ({ s with cad := { s.cad with trims := [] }, dev := { s.dev with calRejected := true } }).setStep 3

/-- A Pan under a repair map. -/
def panRepairs (m : RepairMap) (p : Nat) (q : Pan) : Pan :=
  { q with
    retiredSubs := ((m.subs.filter fun e => e.1 == p).map (·.2)).eraseDups
    repairs := (m.rows.filter fun e => e.1 == p).map fun e => (e.2.1, e.2.2.1, e.2.2.2)
    badSpares := (m.bad.filter fun e => e.1 == p).map (·.2)
    st := if m.pans.contains p then .retired else q.st }

/-- Step 4: the repair maps are applied. -/
def State.bootStep4 (s : State) : State :=
  let m := (repairMap s.belfry.repair).getD factoryMap
  let bad := (repairMap s.belfry.repair).isNone
  let s := (List.range 48).foldl (fun s p => s.updPan p (panRepairs m p)) s
  let s := m.pcs.foldl (fun s i => s.updPc i fun _ => { st := 2, cause := 4 }) s
  ({ s with dev := { s.dev with repairRejected := bad } }).setStep 4

/-- Step 5: the queues open, and what the user records raise is raised (R143). -/
def State.bootStep5 (s : State) : State :=
  let s := s.setStep 5
  let s := if s.dev.calRejected then s.errorEvent none (statusCode .refused) 0 1 0 0 0 else s
  let s := if s.dev.repairRejected then s.errorEvent none (statusCode .refused) 0 2 0 0 0 else s
  { s with sweep := { s.sweep with quick := true } }

/-- BIST_RESULT of a Pan whose logic failed (R667). -/
def State.logicFail (s : State) (p : Nat) : State :=
  let s := { s with sweep := { s.sweep with last := lastWord 6 p 0x1FF 3 0x3FF 0x7F } }
  s.bistEvent p 0xFF 0xFF 0xFF 0xFFFF 0xFF 6

/-- Step 6, the quick pass (R661): failing rows are repaired as a slice repairs them; `mask` names the Pans whose scratch
buffer or port failed twice (bits 0 to 47) and whose self-test did (bits 48 to 95). -/
def State.bootStep6 (s : State) (mask : Nat) (rows : List (Nat × Nat × RowFail)) : State :=
  let s := rows.foldl (fun s r =>
    if (s.pan r.1).st == .retired || decide (48 ≤ r.1) || decide (384 ≤ r.2.1) || !rowMatters (s.pan r.1) r.2.1 r.2.2 then s
    else if !r.2.2.lasting then s.fault 1 1 r.1 (statusCode .transientRetried) none (panLoc r.2.1 r.2.2.row r.2.2.word) 0
    else
      let m := ({ st := s } : Mend).row r.1 r.2.1 r.2.2
      if m.out = 4 then m.st.retirePan r.1 else if m.out = 3 then m.st.clearSuspect r.1 else m.st.addTarget r.1 r.2.1) s
  let s := (List.range 48).foldl (fun s p =>
    if bitOf mask p then (s.bistRow p 0x1FF 0x3FF 3 0x7F 4).retirePan p
    else if bitOf mask (48 + p) then ((s.fault 2 1 p (statusCode .lastingFault) none 0 0).logicFail p).retirePan p
    else s) s
  let s := s.bistEvent 0xFF 0xFF 0xFF 0xFF 0xFFFF 0xFF 0
  ({ s with sweep := { s.sweep with quick := false } }).setStep 6

/-- Step 7: the stacks are trained; `mask` names the pseudo-channels that failed. A whole stack's failure halts the boot.
The Stores are then scrubbed, unless R141 skips that, and Carillon's links train (step 8b). -/
def State.bootStep7 (s : State) (mask : Nat) : State :=
  let dead (k : Nat) : Bool := (List.range 32).all fun j => bitOf mask (32 * k + j)
  if (List.range 4).any dead then s.bootHalt 3
  else
    let s := (List.range 128).foldl (fun s i =>
      if (s.pc i).cause = 4 then s
      else if bitOf mask i then (s.updPc i fun _ => { st := 2, cause := 1 }).persist (repairEntry 6 i 0 0 0)
      else s.updPc i fun _ => { st := 0, cause := 0 }) s
    let s := { s.rebuildStripe with stores := { s.rebuildStripe.stores with trained := 15 } }
    let s := (List.range 3).foldl (fun s k =>
      if bitOf (s.reg .carLinkctl 0) k then (s.updLink k fun l => { l with st := 1 }).linkStateEvent 1 k 1 else s) s
    if s.toc.cleanRead then ({ s with dev := { s.dev with step8a := true } }).setStep 7
    else
      match s.startScrub with
      | some s => s.setStep 7
      | none => s.noteWait 0

/-- Steps 8a and 8b are both over: the test keys of step 9 are drawn (R544). Until then DEV_BOOT.STEP stands at 7 (DESIGN CHOICE, log
entry 64: the spec says only that both report as 8). -/
def State.endStep8 (s : State) : State :=
  if !(s.dev.step8a && s.dev.step8b) || s.dev.bootStep != 7 then s
  else
    match s.draw 0 64 with
    | none => s.noteWait 0
    | some (k, s) =>
      let s := (List.range 4).foldl (fun s i => (s.putKey 0 (2 * i) (k.take 32) 3 0).putKey 0 (2 * i + 1) (k.drop 32) 3 0) s
      (s.storeKeys .test).setStep 8

/-- Step 9: the ports that `mask` names failed their loopback; the others train, where they are enabled (R435). -/
def State.bootStep9 (s : State) (mask : Nat) : State :=
  let s := (List.range 4).foldl (fun s q =>
    if bitOf mask q then s.updPort q fun p => { p with loopbackFail := true }
    else if bitOf (s.reg .inlPctl q) 0 then (s.updPort q fun p => { p with link := 1 }).linkStateEvent 0 q 1
    else s) s
  ((s.dropKeys fun k => k.engine == 0).storeKeys .none).setStep 9

/-- Step 10: the enrolment key; UNTENANTED (R139, R476). -/
def State.bootStep10 (s : State) : State :=
  match s.draw 0 32 with
  | none => s.noteWait 0
  | some (k, s) =>
    let s := (List.range 8).foldl (fun s u => s.putKey 7 (8 + u) k 3 0) s
    let s := { s with
      keyhold := { s.keyhold with ekeyPub := dhPublic k, ekeyValid := true }
      dev := { s.dev with st := .untenanted, bootTime := (s.cad.toll - s.dev.bootStart) / 1000 } }
    (s.setStep 10).resumeShutdown

/-- BOOT_STEP_COMPLETE: the steps in their order (R138). -/
def State.bootStepDone (s : State) (n mask : Nat) (rows : List (Nat × Nat × RowFail)) : State :=
  if s.dev.st != .booting || s.dev.halted || s.toc.burning || !s.power.thermtripN then s
  else if n = 8 then
    if s.dev.bootStep = 7 then ({ s with dev := { s.dev with step8b := true } }).endStep8 else s
  else if n ≠ s.dev.bootStep + 1 then s
  else
    match n with
    | 1 => s.bootStep1
    | 2 => s.bootStep2
    | 3 => s.bootStep3
    | 4 => s.bootStep4
    | 5 => s.bootStep5
    | 6 => s.bootStep6 mask rows
    | 7 => s.bootStep7 mask
    | 9 => s.bootStep9 mask
    | _ => s.bootStep10

/-! ### Scrubs, returns, self-tests as they end -/

/-- SCRUB_COMPLETE (R550): what waited for the scrub goes on. -/
def State.scrubComplete (s : State) (mismatch : List Nat) : State :=
  if s.stores.scrub ≠ 1 then s
  else
    let s := s.endScrub mismatch
    if s.dev.muffledTamper then
      let st : Bytes := [BitVec.ofNat 8 (devCode s.dev.st)]
      let s := match s.dev.wake with | some w => s.answer w.by_ .tamperAbort st | none => s
      let s := match s.dev.switch with | some w => s.answer w.by_ .tamperAbort [] | none => s
      (s.enterLocked).tamperEvent s.toc.cause
    else if s.dev.st == .booting then
      ({ s with dev := { s.dev with step8a := true, scrubbed := true } }).endStep8
    else
      match s.dev.switch with
      | some w => if w.step = 3 then s.switchPower w else s
      | none => if s.dev.shutting.isSome && s.dev.st == .untenanted then s.shutVddc else s

/-- PC_RETURN_DONE (R549): IN_SERVICE, joining the stripe set at the next rebuild, or RETIRED. -/
def State.pcReturnDone (s : State) (i : Nat) (pass : Bool) : State :=
  if !s.stores.returning.contains i then s
  else
    let left := s.stores.returning.filter (· != i)
    let s := { s with stores := { s.stores with
      returning := left, scrub := if s.stores.scrub = 2 ∧ left = [] then 0 else s.stores.scrub } }
    let s := if pass then (s.setPc i 0 0).persist (repairEntry 7 i 0 0 0) else s.setPc i 2 5
    match s.belfry.waiting.find? fun w => w.2.2 == 0x25 + 256 * (2 * 256 + i) with
    | some w => s.belfryAnswer w.1 w.2.1 (if pass then .ok else .lastingFault) []
    | none => s

/-- LOGIC_SELF_TEST_DONE (R659): a mismatch reruns the test once; a second one retires the Pan. The last test of a tenant
switch ends it. -/
def State.selfTestDone (s : State) (p : Nat) (pass : Bool) : State :=
  if !s.sweep.testing.contains p then s
  else if !pass && !s.sweep.failedOnce.contains p then
    { s with sweep := { s.sweep with failedOnce := s.sweep.failedOnce ++ [p] } }
  else
    let again := s.sweep.failedOnce.contains p
    let s := { s with sweep := { s.sweep with
      testing := s.sweep.testing.filter (· != p), failedOnce := s.sweep.failedOnce.filter (· != p) } }
    let s :=
      if pass then
        let s := if again then s.fault 1 1 p (statusCode .transientRetried) none 0 0 else s
        (s.updPan p fun q => { q with retriedTest := again }).settlePan p
      else (((s.fault 2 1 p (statusCode .lastingFault) none 0 0).logicFail p).retirePan p)
    if s.sweep.testing == [] && s.dev.switch.any (fun w => w.step == 5) then s.endSwitch .ok else s

/-! ### Store requests (R543 to R546) -/

/-- STORE_ACCESS: a read (no data) or a write of `len` bytes; `err` says what the controller found in the units that it
read: 0 nothing, 1 a single-bit error, 2 a double-bit error that the retry did not find again, 3 one that it did. Without
keys the access is REFUSED, and during a scrub BUSY: it has no effect; nor has one of no bytes. The requester hears the status, and
the data of a read. -/
def State.storeAccess (s : State) (addr : Nat) (data : Option Bytes) (len err : Nat) : Except Fault State :=
  if len == 0 then .ok s
  else if s.stores.scrub == 1 then .ok (s.emit (.store (statusCode .busy) []))
  else if s.stores.key == .none then .ok (s.emit (.store (statusCode .refused) []))
  else if s.storeBytes < addr + len then .error (.storeAddress addr)
  else
    let whole := addr % 64 == 0 && len % 64 == 0
    let reads := data.isNone || !whole
    let pc := s.pcAt addr
    let s := if !reads then s
      else if err = 1 then (s.bump .stoPcecc pc 31 0 1).classCount 0
      else if err = 2 then (s.bump .stoPcecc pc 63 48 1).faultRaw 1 2 pc (statusCode .transientRetried) none addr 0
      else s
    let lost := reads && (err == 3 || storesCondemned s.stores (addr / 64 * 64) ((addr + len + 63) / 64 * 64 - addr / 64 * 64))
    let s := if reads && err == 3 then s.condemn addr none else s
    if lost then .ok (s.emit (.store (statusCode .uncorrectable) []))
    else
      match data with
      | none => .ok ((s.count .stoRdbytes 0 len).emit (.store (statusCode .ok) (storesReadN s.stores addr len)))
      | some bs => .ok ((s.storeWrite addr (padTo len bs)).emit (.store (statusCode .ok) []))

/-! ### Resets of functions (R610, R135) -/

/-- A stored register of function n's context space or of its EVQ. -/
def fnReg (r : Reg) (i n : Nat) : Bool :=
  match (regPlace r).zone with
  | .bar0 => i / (regPlace r).count == n
  | .queue => i == n
  | _ => false

/-- A function reset: its context voided, its mailbox, event queue, MSI-X and HCX state at reset values; commands end
without a completion, and those that no longer need the host run on. -/
def State.resetFn (s : State) (n : Nat) : State :=
  let s := s.voidCtx n .voided
  let s := if n = 0 then s.loadReset else s
  let s := s.updFn n fun _ => {}
  let s := s.updQueue n fun _ => {}
  { s with
    regs := s.regs.filter fun e => !fnReg e.1 e.2.1 n
    latched := s.latched.filter fun e => !fnReg e.1 e.2.1 n }

/-- PERST_ASSERT (R135, R144, R154): every function, the endpoint's link. -/
def State.perstAssert (s : State) : State :=
  let s := { s with power := { s.power with perstN := false } }
  match s.dev.st with
  | .cold | .held => s
  | _ => (((List.range 4).foldl State.resetFn s).setBit .devResetCause 0 5).setPcie 0

/-- PERST_RELEASE. -/
def State.perstRelease (s : State) : State := ({ s with power := { s.power with perstN := true } }).pcieTrain

/-- PCIE_LINK_UP: the endpoint answers. -/
def State.pcieUp (s : State) : State := if s.dev.pcie == 1 then s.setPcie 2 else s

/-- PCIE_LINK_DOWN (R453): the link leaves UP and trains again, PERST_N standing. -/
def State.pcieDown (s : State) : State := if s.dev.pcie == 2 then s.setPcie 0 else s

/-- BELFRY_RESET_RELEASE (R109, R140): Belfry verifies its firmware by the boot ROM's rule. -/
def State.belfryRelease (s : State) : State :=
  if !s.power.auxOk || s.belfry.running then s
  else
    match s.fwPick with
    | none => s
    | some n => { s with belfry := { s.belfry with running := true, slot := n, digest := s.fwDigestOf n 1 } }

/-! ### The meanings of this family that no mailbox command waits for -/

/-- POWER_ON_RESET (R133, R135). -/
def execPowerOnReset (s : State) : Host.Outcome State Fault Refusal := s.done s.powerOn

/-- AUX_POWER_LOSS (R133). -/
def execAuxPowerLoss (s : State) : Host.Outcome State Fault Refusal := s.done s.auxLoss

/-- BELFRY_RESET_RELEASE (R109, R140). -/
def execBelfryResetRelease (s : State) : Host.Outcome State Fault Refusal := s.done s.belfryRelease

/-- SYS_RST_ASSERT (R135, R154). -/
def execSysRstAssert (s : State) : Host.Outcome State Fault Refusal := s.done s.sysRstAssert

/-- SYS_RST_RELEASE (R108, R138). -/
def execSysRstRelease (pos : Fin 4) (bootSrc : Bool) (smb : Fin 4) (cool : Bool) (s : State) :
    Host.Outcome State Fault Refusal := s.done ((s.sysRstRelease pos bootSrc smb cool).pcieTrain)

/-- THERMAL_WAIT_END (R112). -/
def execThermalWaitEnd (s : State) : Host.Outcome State Fault Refusal := s.done s.thermalWaitEnd

/-- PERST_ASSERT (R135). -/
def execPerstAssert (s : State) : Host.Outcome State Fault Refusal := s.done s.perstAssert

/-- PERST_RELEASE (R144). -/
def execPerstRelease (s : State) : Host.Outcome State Fault Refusal := s.done s.perstRelease

/-- PCIE_LINK_UP (R144). -/
def execPcieLinkUp (s : State) : Host.Outcome State Fault Refusal := s.done s.pcieUp

/-- PCIE_LINK_DOWN (R453). -/
def execPcieLinkDown (s : State) : Host.Outcome State Fault Refusal := s.done (s.pcieDown).pcieTrain

/-- VDDK_LOSS (R120, R121, R499). -/
def execVddkLoss (s : State) : Host.Outcome State Fault Refusal := s.done s.vddkLoss

/-- VBAT_LOSS (R117, R127). -/
def execVbatLoss (replaced : Bool) (s : State) : Host.Outcome State Fault Refusal := s.done (s.vbatLoss replaced)

/-- VDDC_RESTART (R111). -/
def execVddcRestart (s : State) : Host.Outcome State Fault Refusal := s.done s.vddcRestart

/-- TOCSIN_ARM (R504, R150). -/
def execTocsinArm (mesh tamper0 tamper1 : Bool) (s : State) : Host.Outcome State Fault Refusal :=
  s.done (s.tocsinArm mesh tamper0 tamper1)

/-- COUNTER_SNAPSHOT (R532): at a toll tick whose count is a multiple of 1,000. -/
def execCounterSnapshot (s : State) : Host.Outcome State Fault Refusal :=
  s.done (if s.cad.toll % 1000 = 0 then { s with perfSnap := s.perf } else s)

/-- STORE_ACCESS (R543). -/
def execStoreAccess (addr : Nat) (data : Option Bytes) (len : Nat) (err : Fin 4) (s : State) :
    Host.Outcome State Fault Refusal :=
  let old := s
  match s.storeAccess addr data len err with
  | .ok t => old.done t
  | .error f => .fault f

/-- REPAIR_APPEND (R633, R665). -/
def execRepairAppend (s : State) : Host.Outcome State Fault Refusal := s.done s.repairAppend

/-- The levels of the CMOS pins that the model holds, in the order of Table PKG-5, bit 0 first: SYS_RST_N, PERST_N, POS, BOOT_SRC,
SMB_ADDR, SMB_ALERT_N, THERMTRIP_N, VDDC_EN, VDDC_DSCH. The chain's own order stands in the boundary-scan description file, which the
spec does not hold, and the levels of the other pins are no state of the model (DESIGN CHOICE, log entry 64). -/
def pinLevels (p : Power) : Nat :=
  b2n p.sysRstN + b2n p.perstN * 2 + p.posPin % 4 * 4 + p.bootSrcPin % 2 * 16 + p.smbAddrPin % 4 * 32 + b2n p.smbAlertN * 128 +
    b2n p.thermtripN * 256 + b2n p.vddcEn * 512 + b2n p.vddcDsch * 1024

/-- The boundary-scan instruction that acts: EXTEST and HIGHZ act as BYPASS while SYS_RST_N is high (R106). -/
def scanActs (p : Power) : Nat := if 3 ≤ p.jtag ∧ p.sysRstN then 0 else p.jtag

/-- What the device drives on SMB_ALERT_N, THERMTRIP_N, VDDC_EN and VDDC_DSCH: the chain's cells in EXTEST, nothing in HIGHZ. -/
def pinsDriven (p : Power) : Option Nat :=
  if scanActs p = 4 then none else if scanActs p = 3 then some p.chain else some (pinLevels p / 128)

/-- BOUNDARY_SCAN_INSTRUCTION (R106): 0 BYPASS, 1 IDCODE, 2 SAMPLE/PRELOAD, 3 EXTEST, 4 HIGHZ, with the cells that the scan after it
shifts in for the outputs. TDO gives the device's IDCODE, the pins as SAMPLE/PRELOAD and EXTEST capture them, or the bypass bit. -/
def execBoundaryScanInstruction (ins : Fin 5) (cells : Fin 16) (s : State) : Host.Outcome State Fault Refusal :=
  let p := { s.power with jtag := ins.val }
  let e := scanActs p
  let p := if e = 2 ∨ e = 3 then { p with chain := cells.val } else p
  s.done (({ s with power := p }).emit (.jtag e (if e = 1 then 0x04100C9D else if e = 2 ∨ e = 3 then pinLevels s.power else 0)))

end Sys2Proof.Machine
end

