-- ==== Sys2Proof/Machine/Keyhold.lean ====
section
/-! DEFINITION. Keyhold's own steps (KEY): KEYREG, re-masking, the curve engine's units, the noise windows, the DRBG
requests. -/
namespace Sys2Proof.Machine

open Sys2Proof

/-- Keyhold runs: VDDK is up and no system reset holds it. -/
def State.keyRuns (s : State) : Bool :=
  match s.dev.st with
  | .cold | .held | .locked => false
  | _ => true

/-! ### KEYREG (R478 to R480, R507) -/

/-- KEYREG is free for the holder, or already held by it. -/
def State.keyregFor (s : State) (h : Nat) : Bool :=
  match s.keyhold.keyreg.holder with
  | none => true
  | some k => k == h

/-- The 256 bits that a source gives. -/
def State.keySource (s : State) : KeySource → Option (Bytes × State)
  | .drbg => s.draw 0 32
  | .derive slot salt info => (s.slotKey 7 slot).map fun k => (kdf k salt info 32, s)
  | .curve tag =>
    match s.keyhold.curveDone.find? fun r => r.tag == tag && r.status == .ok with
    | none => none
    | some r =>
      some (padTo 32 r.out,
        { s with keyhold := { s.keyhold with curveDone := s.keyhold.curveDone.filter fun x => x.tag != tag } })

/-- A load joins those that wait. -/
def State.keyQueue (s : State) (e : Nat × KeySource × KeyAttr) : State :=
  { s with keyhold := { s.keyhold with keyWait := s.keyhold.keyWait ++ [e] } }

/-- KEYREG granted to a holder and loaded from its source; a load that waits for the DRBG holds KEYREG meanwhile; a source that has
nothing to give loads nothing, and KEYREG is not held for it. -/
def State.keyLoad (s : State) (e : Nat × KeySource × KeyAttr) : State :=
  match s.keySource e.2.1 with
  | some (k, t) =>
    { t with keyhold := { t.keyhold with
      keyreg := { t.keyhold.keyreg with key := k, attr := e.2.2, holder := some e.1 } } }.grantKey e.1
  | none =>
    if e.2.1 = .drbg then
      (({ s with keyhold := { s.keyhold with keyreg := { s.keyhold.keyreg with holder := some e.1 } } }.grantKey e.1).keyQueue e).noteWait 0
    else s

/-- The load that is next: the holder's own, or on a free KEYREG that of the holder that its element grants (R76, R507). -/
def State.keyNext (s : State) : Option (Nat × KeySource × KeyAttr) :=
  let l := s.keyhold.keyWait
  match s.keyhold.keyreg.holder with
  | some h => l.find? fun e => e.1 == h
  | none =>
    match contender s.arb.keyreg (l.map (·.1)) with
    | some h => l.find? fun e => e.1 == h
    | none => none

/-- Loads that wait go on, one after another, while KEYREG is free for one of them. -/
def State.keyGo (s : State) : Nat → State
  | 0 => s
  | n + 1 =>
    match s.keyNext with
    | none => s
    | some e => (({ s with keyhold := { s.keyhold with keyWait := s.keyhold.keyWait.erase e } }).keyLoad e).keyGo n

/-- KEYREG_LOAD (R478). A holder that finds KEYREG held waits for its grant (R507). -/
def execKeyregLoad (holder : Nat) (src : KeySource) (attr : KeyAttr) (s : State) :
    Host.Outcome State Fault Refusal :=
  if !s.keyRuns then .next s
  else if s.keyregFor holder then s.done (s.keyLoad (holder, src, attr))
  else s.done (s.keyQueue (holder, src, attr))

/-- The usage bit that Table KEY-3 gives for an engine. -/
def usageFor (a : KeyAttr) (e : Nat) : Bool :=
  if e ≤ 3 then a.encrypt else if e = 4 then a.unwrap else if e ≤ 6 then a.sign else a.deriveOnly

/-- The slots of each destination (Table KEY-4). -/
def slotCount (e : Nat) : Nat := [8, 65544, 6, 4, 1, 1, 1, 16].getD e 0

/-- A refusal by KEYREG counts; saturates. -/
def State.keyregReject (s : State) : State := s.bump .khdReject 0 15 0 1

/-- KEYREG with its key and attributes zeroised. -/
def wipe (r : KeyReg) : KeyReg := { r with key := List.replicate 32 0, attr := {} }

/-- A delivery is allowed (R479). -/
def mayDeliver (a : KeyAttr) (e : Nat) : Bool := bitOf a.dest e && usageFor a e && (!a.deriveOnly || e == 7)

/-- KEYREG_DELIVER (R479, R480). -/
def execKeyregDeliver (holder : Nat) (engine : Fin 8) (index : Nat) (s : State) :
    Host.Outcome State Fault Refusal :=
  let old := s
  let r := s.keyhold.keyreg
  if !s.keyRuns || r.holder != some holder || decide (slotCount engine ≤ index) then .next s
  else if !mayDeliver r.attr engine then
    old.done (s.keyregReject.errorEvent none (statusCode .policyForbids) 5 1 0 0 0)
  else
    let s := s.putKey engine index r.key r.attr.lifetime r.attr.ctx
    let dest := setBits r.attr.dest engine engine 0
    let r := { r with attr := { r.attr with dest := dest } }
    old.done { s with keyhold := { s.keyhold with keyreg := if r.attr.lifetime = 0 ∨ dest = 0 then wipe r else r } }

/-- No bit is set and the lifetime is not lengthened (R480). -/
def narrows (old new : KeyAttr) : Bool :=
  Nat.land old.dest new.dest == new.dest && (old.deriveOnly || !new.deriveOnly) && (old.encrypt || !new.encrypt) &&
    (old.sign || !new.sign) && (old.unwrap || !new.unwrap) && decide (new.lifetime ≤ old.lifetime) &&
    Nat.land old.ctx new.ctx == new.ctx

/-- KEYREG_ATTR_CHANGE (R480). -/
def execKeyregAttrChange (holder : Nat) (attr : KeyAttr) (s : State) : Host.Outcome State Fault Refusal :=
  let r := s.keyhold.keyreg
  if !s.keyRuns || r.holder != some holder then .next s
  else if !narrows r.attr attr then s.done s.keyregReject
  else
    let r := { r with attr := attr }
    s.done { s with keyhold := { s.keyhold with keyreg := if attr.dest = 0 then wipe r else r } }

/-- KEYREG_RELEASE (R480); a load that waits is granted KEYREG (R507). -/
def execKeyregRelease (holder : Nat) (s : State) : Host.Outcome State Fault Refusal :=
  s.done (if s.keyhold.keyreg.holder == some holder then
      { s with keyhold := { s.keyhold with keyreg := {} } }.keyGo s.keyhold.keyWait.length
    else s)

/-! ### Re-masking (R484, R508) -/

/-- Fresh masks for a list of holders of a mask, one request to stream 0 each; a request that waits leaves the rest under
their current masks. -/
def State.remaskList {α : Type} (put : α → Bytes → α) : List α → State → List α × State
  | [], s => ([], s)
  | x :: xs, s =>
    match s.draw 0 32 with
    | none => (x :: xs, s.noteWait 0)
    | some (m, s) =>
      let (ys, s) := State.remaskList put xs s
      (put x m :: ys, s)

/-- The slot-context tables of the contexts, re-masked. -/
def State.remaskCtxs : List Ctx → State → List Ctx × State
  | [], s => ([], s)
  | c :: cs, s =>
    let (l, s) := State.remaskList (fun (e : SlotCtx) m => { e with mask := m }) c.slots s
    let (ds, s) := State.remaskCtxs cs s
    ({ c with slots := l } :: ds, s)

/-- REMASK_TICK (R484): KEYREG, every engine slot, the slot-context table and every Grainer store are re-masked. -/
def execRemaskTick (s : State) : Host.Outcome State Fault Refusal :=
  let old := s
  if !s.keyRuns then .next s
  else
    let (regs, s) := State.remaskList (fun (r : KeyReg) m => { r with mask := m }) [s.keyhold.keyreg] s
    let (slots, s) := State.remaskList (fun (k : KeySlot) m => { k with mask := m }) s.keyhold.slots s
    let (ctxs, s) := State.remaskCtxs s.ctxs s
    let (pans, s) := State.remaskList (fun (p : Pan) m => { p with grainMask := m }) s.pans s
    old.done { s with
      keyhold := { s.keyhold with keyreg := regs.headD s.keyhold.keyreg, slots := slots }
      ctxs := ctxs
      pans := pans }

/-! ### The curve engine (R486 to R491) -/

/-- The operations of the X25519 units; a check of a P-256, P-384 or Ed25519 key runs in the wide unit. -/
def isX : CurveOp → Bool
  | .x25519 | .x25519Pair | .checkX25519 => true
  | _ => false

/-- The free unit that takes an operation: the first free X25519 unit, or the wide unit (unit 8). -/
def State.freeUnit (s : State) (op : CurveOp) : Option Nat :=
  if isX op then (List.range 8).find? fun u => (s.keyhold.curveUnits.getD u none).isNone
  else if (s.keyhold.curveUnits.getD 8 none).isNone then some 8 else none

/-- CURVE_REQUEST (R486): the request starts in a free unit, or waits. -/
def execCurveRequest (r : CurveReq) (s : State) : Host.Outcome State Fault Refusal :=
  if !s.keyRuns then .next s
  else
    match s.freeUnit r.op with
    | some u =>
      s.done ({ s with keyhold := { s.keyhold with curveUnits := updAt s.keyhold.curveUnits u fun _ => some r } }.grantUnit u r.who)
    | none => s.done { s with keyhold := { s.keyhold with curveWait := s.keyhold.curveWait ++ [r] } }

/-- The end of an operation: status, output, NONCANONICAL, a rejection by validation, time in 0.1 µs. -/
structure CurveEnd where
  status : Status
  out : Bytes := []
  noncanonical : Bool := false
  rejected : Bool := false
  time : Nat

/-- A rejection completes at 2.0 µs with no output (R487). -/
def curveReject (st : Status) : CurveEnd := { status := st, rejected := true, time := 20 }

/-- The curve of an operation of the wide unit. -/
def curveOf : CurveOp → Crypto.Curve
  | .p256Ecdh | .p256Pair | .p256Sign | .p256Verify | .checkP256 => Crypto.cP256
  | _ => Crypto.cP384

/-- ECDH on a validated point. -/
def ecdhEnd (c : Crypto.Curve) (scalar point : Bytes) (time : Nat) : CurveEnd :=
  match pointCheck c point with
  | some st => curveReject st
  | none =>
    if beNat scalar = 0 ∨ c.n ≤ beNat scalar then curveReject .badScalar
    else
      match Crypto.ecTimes c (beNat scalar) (Crypto.pointOf c point) with
      | some (x, _) => { status := .ok, out := beBytes c.len x, time := time }
      | none => { status := .ok, out := beBytes c.len 0, time := time }

/-- A verification or a key check as an end. -/
def checkedEnd (r : Status × Bool) (time : Nat) : CurveEnd :=
  if r.2 then curveReject r.1 else { status := r.1, time := time }

/-- A key check alone as an end. -/
def keyEnd (st : Option Status) : CurveEnd :=
  match st with
  | some st => curveReject st
  | none => { status := .ok, time := 20 }

/-- A key pair of the wide unit (R488): d stays in the unit for the ECDH that follows. -/
def State.pairEnd (s : State) (c : Crypto.Curve) (time : Nat) : Option (CurveEnd × State) :=
  (s.drawScalar c).map fun x =>
    ({ status := .ok, out := Crypto.sec1 c (Crypto.ecTimes c x.1 (some c.g)), time := time },
     { x.2 with keyhold := { x.2.keyhold with pairScalar := some (beBytes c.len x.1) } })

/-- A signature as an end. -/
def State.signEnd (s : State) (c : Crypto.Curve) (r : CurveReq) (time : Nat) : Option (CurveEnd × State) :=
  (s.ecSign c (beNat r.scalar) r.msg).map fun x => ({ status := .ok, out := x.1, time := time }, x.2)

/-- The scalar of an ECDH: its own, or the one that a key pair left in the unit, which is zeroised (R488). -/
def State.ecdhRun (s : State) (r : CurveReq) (time : Nat) : CurveEnd × State :=
  let k := if r.scalar = [] then s.keyhold.pairScalar.getD [] else r.scalar
  (ecdhEnd (curveOf r.op) k r.point time, { s with keyhold := { s.keyhold with pairScalar := none } })

/-- X25519 (R489): a match with a point of small order gives 32 zero bytes with LOW_ORDER at 2.0 µs. -/
def xEnd (r : CurveReq) : CurveEnd :=
  match dh r.scalar r.point with
  | none =>
    { status := .lowOrder, out := List.replicate 32 0, noncanonical := (adjustU r.point).2, rejected := true, time := 20 }
  | some z => { status := .ok, out := z, noncanonical := (adjustU r.point).2, time := 220 }

/-- The run of an operation; none while it waits for the DRBG (R497). -/
def State.curveRun (s : State) (r : CurveReq) : Option (CurveEnd × State) :=
  match r.op with
  | .x25519 => some (xEnd r, s)
  | .x25519Pair => some ({ status := .ok, out := dhPublic r.scalar, time := 220 }, s)
  | .p256Ecdh => some (s.ecdhRun r 1620)
  | .p384Ecdh => some (s.ecdhRun r 3620)
  | .p256Pair => s.pairEnd Crypto.cP256 1500
  | .p384Pair => s.pairEnd Crypto.cP384 3400
  | .p256Sign => s.signEnd Crypto.cP256 r 1800
  | .p384Sign => s.signEnd Crypto.cP384 r 4200
  | .p256Verify => some (checkedEnd (ecVerify Crypto.cP256 r.point r.msg r.sig) 3020, s)
  | .p384Verify => some (checkedEnd (ecVerify Crypto.cP384 r.point r.msg r.sig) 7020, s)
  | .ed25519Verify => some (checkedEnd (edCheck r.point r.msg r.sig) 1220, s)
  | .checkP256 | .checkP384 => some (keyEnd (pointCheck (curveOf r.op) r.point), s)
  | .checkX25519 => some (keyEnd (if lowOrder r.point then some .lowOrder else none), s)
  | .checkEd25519 => some (keyEnd (edKeyCheck r.point), s)

/-- A unit that is free takes a waiting request of its kind, of the requester that the unit's element grants, and of that
requester's the oldest (R76, R486). -/
def State.curveNext (s : State) (u : Nat) : State :=
  let mine (r : CurveReq) : Bool := isX r.op == (u != 8)
  match contender (s.arb.curve.getD u []) ((s.keyhold.curveWait.filter mine).map (·.who)) with
  | none => s
  | some w =>
    match s.keyhold.curveWait.find? fun r => mine r && r.who == w with
    | none => s
    | some r =>
      { s with keyhold := { s.keyhold with
        curveUnits := updAt s.keyhold.curveUnits u fun _ => some r, curveWait := s.keyhold.curveWait.erase r } }.grantUnit u w

/-- CURVE_OP_COMPLETE (R487). -/
def execCurveOpComplete (unit : Fin 9) (s : State) : Host.Outcome State Fault Refusal :=
  let old := s
  match s.keyhold.curveUnits.getD unit none with
  | none => .next s
  | some r =>
    match s.curveRun r with
    | none => old.done (s.noteWait 0)
    | some (e, s) =>
      let res : CurveRes := { tag := r.tag, status := e.status, out := e.out, noncanonical := e.noncanonical, time := e.time }
      let s := { s with keyhold := { s.keyhold with
        curveUnits := updAt s.keyhold.curveUnits unit fun _ => none, curveDone := s.keyhold.curveDone ++ [res] } }
      let s := s.count .khdCurve (if unit.val = 8 then 1 else 0) 1
      let s := if e.rejected then s.bump .khdReject 0 31 16 1 else s
      old.done (s.curveNext unit)

/-! ### The noise source and the DRBG (R492 to R498) -/

/-- The raw bits of a window, first bit first. -/
def rawBits (w : BitVec 1024) : List Bool := (List.range 1024).map fun i => w.getLsbD i

/-- The longest run of identical bits reaches 41 (R493). -/
def runFails : List Bool → Bool → Nat → Bool
  | [], _, n => decide (41 ≤ n)
  | b :: r, v, n => if b == v then runFails r v (n + 1) else decide (41 ≤ n) || runFails r b 1

/-- The first bit's value occurs more than 776 times (R493). -/
def propFails (l : List Bool) : Bool := decide (776 < (l.filter (· == l.headD false)).length)

/-- Conditioning (R492). -/
def conditionBits (vn : Bool) : List Bool → List Bool
  | a :: b :: r => if vn then (if a == b then conditionBits vn r else a :: conditionBits vn r) else (a != b) :: conditionBits vn r
  | _ => []

/-- A window of the noise source (R493, R494): it is absorbed whatever its tests say, and credited when it passes. -/
def State.noiseWindow (s : State) (raw : BitVec 1024) : State :=
  if !s.keyRuns then s
  else
    let s := s.reseedDue
    let l := rawBits raw
    let bad := runFails l (l.headD false) 0 || propFails l
    let kh := s.keyhold
    let s := { s with keyhold := { kh with
      pool := kh.pool ++ conditionBits Config.vonNeumann l
      credit := if bad then kh.credit else kh.credit + 256
      failcnt := if bad then satAdd 32 kh.failcnt 1 else kh.failcnt
      windows := kh.windows + 1 } }
    if s.dev.st == .booting && s.dev.bootStep == 1 && !s.dev.halted then s.instantiateNext else s.reseedDue

/-- DRBG_GENERATE (R495, R497): at most 64 KiB; a stream that is due makes the request wait. -/
def execDrbgGenerate (stream : Fin 49) (n : Nat) (s : State) : Host.Outcome State Fault Refusal :=
  let old := s
  let n := min n 65536
  match s.draw stream n with
  | some (out, s) => old.done (s.updStream stream fun d => { d with out := out })
  | none => old.done ((s.noteWait stream).updStream stream fun d => if d.inst then { d with waitBytes := n } else d)

/-- RNG_WAIT_TIMEOUT (R497): RNG_HEALTH at 10 s of a wait, and at every further 10 s of it. -/
def execRngWaitTimeout (stream : Fin 49) (s : State) : Host.Outcome State Fault Refusal :=
  let old := s
  let d := s.stream stream
  match d.waitSince with
  | none => .next s
  | some t =>
    if s.cad.toll < t + 10000000 * (d.raised + 1) then .next s
    else
      let req := if stream.val = 0 then 0xFF else (s.pan (stream - 1)).ctx.getD 0xFF
      let s := s.event 4 0x19 0xFF 0 (leBytes 4 ((s.cad.toll - t) / 1000) ++ [BitVec.ofNat 8 req])
      old.done ((s.bump .khdRngwait 0 31 0 1).updStream stream fun d => { d with raised := d.raised + 1 })

end Sys2Proof.Machine
end

