-- ==== Sys2Proof/Machine/Transfers.lean ====
section
/-! DEFINITION. Carillon's transfers: posted writes, reads, CLEAR, epochs, timeouts (CAR, R573 to R581), and the records of a
job that the firmware exchanges (HVS, LDG, GRN). The bodies of those messages are the model's own (log entry 22). -/
namespace Sys2Proof.Machine

open Sys2Proof

/-! ### Sealed records -/

/-- A sealed record of a type that is next from its source: taken, and opened; discarded where its tag fails. -/
def State.takeSealed (s : State) (r : Bytes) (typ : Nat) (f : RecHead → Bytes → State → State) : State :=
  if (recHead r).typ ≠ typ ∨ !s.recordTurn r then s
  else
    match s.openRecord r with
    | none => (s.takeRecord r).discardRecord
    | some b => f (recHead r) b (s.takeRecord r)

/-- A message of a job, once whole: the function takes the context, the source and the content. Another message's record
stays for its own row; one that no row knows is discarded. -/
def State.takeCtl (s : State) (r : Bytes) (c : Ctl) (f : Nat → Nat → Bytes → State → State) : State :=
  if (recHead r).typ ≠ 0x10 ∨ (recHead r).epoch = 0 ∨ !s.recordTurn r then s
  else
    match s.openRecord r with
    | none => (s.takeRecord r).discardRecord
    | some b =>
      let h := recHead r
      if byteAt b 0 = ctlCode c then
        match (s.takeRecord r).assemble (256 * h.src + ctlCode c) b with
        | (none, s) => s
        | (some m, s) => f h.ctx h.src m s
      else if byteAt b 0 = 0 ∨ 24 < byteAt b 0 then s.takeRecord r
      else s

/-! ### Epochs (R573, R574) -/

/-- A completion item to a Pan (R577, R578). -/
def State.completionItem (s : State) (p rchan : Nat) (st : Status) (tag : Nat) (data : Bytes) : State :=
  let b := leBytes 2 (statusCode st) ++ [0, 0] ++ leBytes 4 tag ++ leBytes 4 data.length ++ List.replicate 20 0 ++ data
  match (s.pan p).ctx with
  | some c => s.portItem c p rchan false b
  | none => s

/-- This device switches to an epoch: at a BATCH on every link, with the old key kept until every peer has sent one. Links that
have returned carry traffic from that boundary on, and the pause that they kept ends (R581). -/
def State.switchEpoch (s : State) (e : Nat) : State :=
  match s.car.job with
  | none => s
  | some j =>
    let up := s.peers.filter fun p => (s.linkTo p).any s.linkUp
    let s := s.updJob fun j => { j with
      epoch := e, oldEpoch := if up = [] then none else some j.epoch, batchAwait := up, dirty := false, cleared := false, clears := []
      clearWait := [], wantAdvance := false, writes := 0, txSeq := [], waitSeq := [] }
    let s := s.loadEpochKey
    let s := (List.range 3).foldl (fun s k =>
      if s.linkUp k then (s.updLink k fun l => { l with relaying := false, returning := false }).placeBatch k else s) s
    let s := if up = [] then s.dropKeys fun q => q.engine == 2 && q.index % 2 == (e + 1) % 2 else s
    let s := s.ownPauseSet j.ctx false fun x => { x with pauseLink := s.linkPause }
    let s := j.clearWait.foldl (fun s w => s.completionItem w.1 w.2 .ok 0 (leBytes 4 e)) s
    let s := j.waitSeq.foldl (fun s w => s.sendSealed w.1 w.2.1 w.2.2.1 w.2.2.2) s
    s.resumeCtx j.ctx

/-- An advance is due: every Pan has cleared a dirty epoch, or a reason of R573 stands in a clean one. The slot of the next
key has to be free (R574). -/
def advanceDue (j : Job) : Bool := j.oldEpoch.isNone && if j.dirty then j.cleared else j.wantAdvance

/-- EPOCH_ADVANCE (R574, R584): at the Treble, with its own posted writes of the epoch ended; that the other members' have is
what the command brings. -/
def State.advanceEpoch (s : State) : State :=
  match s.car.job with
  | none => s
  | some j =>
    if !s.isTreble || !advanceDue j || j.key == [] || s.car.transfers.any fun t => t.kind == 0 && t.epoch == j.epoch then s
    else
      let s := s.peers.foldl (fun s p => s.sendSealed 0x11 p 0 (leBytes 4 (j.epoch + 1))) s
      s.switchEpoch (j.epoch + 1)

/-- EPOCH at a member. -/
def State.epochRecord (s : State) (r : Bytes) : State :=
  s.takeSealed r 0x11 fun h b s =>
    match s.car.job with
    | none => s
    | some j => if h.src = s.treble ∧ leAt b 0 4 = j.epoch + 1 then s.switchEpoch (j.epoch + 1) else s

/-! ### The Carillon service (R575 to R578) -/

/-- A descriptor of Table CAR-4 is well formed for a service: 0 POSTED_WRITE, 1 READ, 2 FENCE. -/
def descOk (service : Nat) (b : Bytes) : Bool :=
  let zero (off n : Nat) : Bool := allZero (slice b off n)
  let len := leAt b 12 2
  decide (32 ≤ b.length) &&
    (if service = 0 then
      decide (byteAt b 0 < 4) && decide (byteAt b 1 < 48) && decide (byteAt b 2 < 64) && zero 3 1 && zero 8 24 &&
        decide (b.length ≤ 2048)
    else if service = 1 then
      decide (byteAt b 0 < 4) && decide (byteAt b 1 < 48) && zero 2 2 && leAt b 8 4 % 32 == 0 && decide (32 ≤ len) &&
        decide (len ≤ 2016) && len % 32 == 0 && zero 14 18
    else zero 0 16 && zero 20 12)

/-- The job that an item of a Pan belongs to. -/
def State.jobOf (s : State) (p : Nat) : Option Job :=
  s.car.job.filter fun j => (s.pan p).ctx == some j.ctx && (s.ctx j.ctx).quad && ctxLive (s.ctx j.ctx).st

/-- A position may be a target: another member. -/
def State.isTarget (s : State) (pos : Nat) : Bool := bitOf s.car.members pos && pos != s.power.pos

/-- A transfer's record goes to a position. One that finds no path is timed from now on. -/
def State.sendTransfer (s : State) (kind typ p rchan pos tag epoch : Nat) (body : Bytes) : State :=
  let via := s.sealedPath typ pos
  let s := s.sendSealed typ pos tag body
  let t : Transfer := { kind := kind, tag := tag, pan := p, rchan := rchan, peer := pos, link := via.getD 3, epoch := epoch,
                        timing := via.isNone, last := s.lastFlit (via.getD 3) }
  { s with car := { s.car with transfers := s.car.transfers ++ [t] } }

/-- The link that a failure names: 3 where the traffic is relayed or found no path (CAR_PFAIL_LAST). -/
def State.failLink (s : State) (peer link : Nat) : Nat := if s.linkTo peer == some link then link else 3

/-- Every Pan of the job on every member has sent CLEAR (R578). All members hold one image, so their Pans are those of this
device (R567). -/
def State.checkClears (s : State) : State :=
  match s.car.job with
  | none => s
  | some j =>
    if j.dirty && (s.memberList.all fun m => (s.pansOf j.ctx).all fun p => j.clears.contains (m, p)) then
      s.updJob fun j => { j with cleared := true }
    else s

/-- An item at the Carillon port. -/
def State.serviceItem (s : State) (p service rchan : Nat) (b : Bytes) : State :=
  let pos := byteAt b 0
  let tag := leAt b 4 4
  match s.jobOf p with
  | none =>
    if service = 0 then s.writeFailed (((s.pan p).ctx).getD 0) 3 pos 0 tag
    else s.completionItem p rchan .refused (if service = 1 then tag else 0) []
  | some j =>
    if service = 0 then
      if !descOk 0 b || !s.isTarget pos then s.writeFailed j.ctx 3 pos j.epoch tag
      else (s.updJob fun j => { j with writes := j.writes + 1 }).sendTransfer 0 0x01 p rchan pos tag j.epoch b
    else if service = 1 then
      if !descOk 1 b || !s.isTarget pos then s.completionItem p rchan .refused tag []
      else s.sendTransfer 1 0x04 p rchan pos tag j.epoch (b.take 32)
    else if !descOk 2 b || !j.dirty || leAt b 16 4 != j.epoch then s.completionItem p rchan .refused 0 []
    else
      let s := s.updJob fun j => { j with clearWait := j.clearWait ++ [(p, rchan)] }
      if s.isTreble then
        (s.updJob fun j => { j with clears := if j.clears.contains (s.power.pos, p) then j.clears else j.clears ++ [(s.power.pos, p)] }).checkClears
      else s.sendSealed 0x06 s.treble 0 ([BitVec.ofNat 8 p, 0, 0, 0] ++ leBytes 4 j.epoch)

/-- CLEAR at the Treble. -/
def State.clearRecord (s : State) (r : Bytes) : State :=
  s.takeSealed r 0x06 fun h b s =>
    match s.car.job with
    | none => s
    | some j =>
      let e := (h.src, byteAt b 0)
      if s.isTreble && j.dirty && leAt b 4 4 == j.epoch && !j.clears.contains e then
        (s.updJob fun j => { j with clears := j.clears ++ [e] }).checkClears
      else s

/-! ### Posted writes at the target, and their answers (R575, R576) -/

/-- POSTED_NOTICE: status and reason (1 AUTH, 2 STRAY, 3 STATE). -/
def State.notice (s : State) (dst tag : Nat) (st : Status) (reason : Nat) : State :=
  s.sendSealed 0x03 dst tag (leBytes 2 (statusCode st) ++ [BitVec.ofNat 8 reason])

/-- POSTED_WRITE. A payload whose channel has no room waits, and its record with it. -/
def State.postedWrite (s : State) (r : Bytes) : State :=
  let h := recHead r
  if h.typ ≠ 0x01 ∨ !s.recordTurn r then s
  else
    let t := s.takeRecord r
    match s.car.job with
    | none => t.discardRecord
    | some j =>
      if j.key == [] then t.discardRecord
      else
        match s.openRecord r with
        | none => if r.length < 40 ∨ h.ctx ≠ j.ctx ∨ h.dst ≠ s.power.pos then t.discardRecord else t.notice h.src h.tag .authFail 1
        | some b =>
          let it : FabItem :=
            { src := 0xFF, srcChan := 0, ctx := some j.ctx, kind := 0, dest := byteAt b 1, dchan := byteAt b 2, rchan := 0,
              token := false, data := b.drop 32 }
          if !ctxLive (s.ctx j.ctx).st then t.notice h.src h.tag .refused 3
          else if 48 ≤ it.dest ∨ 64 ≤ it.dchan ∨ (s.strayReason it).isSome then t.notice h.src h.tag .routeStray 2
          else
            match t.deliverPan it with
            | none => s
            | some t =>
              let via := (t.pathTo h.src).getD 3
              (t.sendSealed 0x02 h.src h.tag []).updJob fun j => { j with owed := j.owed ++ [(h.src, h.tag, via)] }

/-- The transfer that an answer completes. -/
def State.transferOf (s : State) (kind src tag : Nat) : Option Transfer :=
  s.car.transfers.find? fun t => t.kind == kind && t.peer == src && t.tag == tag

/-- A transfer is no longer open. -/
def State.dropTransfer (s : State) (t : Transfer) : State := { s with car := { s.car with transfers := s.car.transfers.erase t } }

/-- An answer after the decision (R580). -/
def State.lateAnswer (s : State) : State := s.bump .carPosted 0 31 0 1

/-- WRITE_ACK. -/
def State.writeAck (s : State) (r : Bytes) : State :=
  s.takeSealed r 0x02 fun h _ s =>
    match s.transferOf 0 h.src h.tag with
    | some t => s.dropTransfer t
    | none => s.lateAnswer

/-- POSTED_NOTICE. -/
def State.postedNotice (s : State) (r : Bytes) : State :=
  s.takeSealed r 0x03 fun h _ s =>
    match s.transferOf 0 h.src h.tag with
    | some t => (s.dropTransfer t).writeFailed h.ctx (s.failLink t.peer t.link) t.peer t.epoch t.tag
    | none => s.lateAnswer

/-- READ_REQ: the range against the Pan's NEED, with the upsets that the read meets, which is not retried (R577, R646); a range that a Sweep slice
holds is read when the slice has ended (R209). The answer is the completion item. -/
def State.readReq (s : State) (r : Bytes) (ups : List (Nat × Upset)) : State :=
  let h := recHead r
  let answer (b : Bytes) (st : Status) (data : Bytes) (s : State) : State :=
    s.sendSealed 0x05 h.src h.tag
      (leBytes 2 (statusCode st) ++ [0, 0] ++ leBytes 4 (leAt b 4 4) ++ leBytes 4 data.length ++ List.replicate 20 0 ++ data)
  let held := match s.openRecord r with | some b => s.held (byteAt b 1) (leAt b 8 4) (leAt b 12 2) | none => false
  if held then { s with sweep := { s.sweep with held := s.sweep.held ++ [.readReq r ups] } }
  else
    s.takeSealed r 0x04 fun h b s =>
      let p := byteAt b 1
      let off := leAt b 8 4
      let len := leAt b 12 2
      if !descOk 1 b || (s.pan p).ctx != some h.ctx || !ctxLive (s.ctx h.ctx).st || decide (panBytes (s.pan p) < off + len) then
        answer b .refused [] s
      else
        let (fixed, double) := (upsetsIn ups off len).partition fun u => u.2 == .corrected
        let s := fixed.foldl (fun s u => s.meetUpset p 0 u) s
        let n := double.length + ((s.pan p).bad.filter fun w => decide (8 * w < off + len) && decide (off < 8 * w + 8)).length
        if n = 0 then answer b .ok (Memory.readN (s.pan p).mem off len) s
        else answer b .uncorrectable [] (s.bump .panEcc p 31 16 n)

/-- READ_DATA at the initiating Pan. -/
def State.readData (s : State) (r : Bytes) : State :=
  s.takeSealed r 0x05 fun h b s =>
    match s.transferOf 1 h.src h.tag with
    | some t => (s.dropTransfer t).portItem h.ctx t.pan t.rchan false b
    | none => s.lateAnswer

/-- TRANSFER_TIMEOUT (R580): of a transfer whose timeout has started, by a link that went DOWN or by 20 µs without an
acknowledgement of every flit. -/
def State.transferTimeout (s : State) (kind tag : Nat) : State :=
  match s.car.transfers.find? fun t => t.kind == kind && t.tag == tag && (t.timing || s.unacked t) with
  | none => s
  | some t =>
    if kind = 0 then
      match s.car.job with
      | some j => (s.dropTransfer t).writeFailed j.ctx (s.failLink t.peer t.link) t.peer t.epoch t.tag
      | none => s.dropTransfer t
    else if kind = 1 then (s.dropTransfer t).completionItem t.pan t.rchan .linkDown t.tag []
    else
      match (s.pathBut t.peer t.link).filter fun _ => !t.resent with
      | some k =>
        let s := (s.dropTransfer t).ctlSend (some k) t.peer (t.tag / 4) t.body
        { s with car := { s.car with
          transfers := s.car.transfers ++ [{ t with link := k, timing := false, resent := true, last := s.lastFlit k }] } }
      | none => (s.dropTransfer t).leaveQuad.membersEvent

/-! ### Opening on every member (R359, R362) -/

/-- QUAD_PARAMS at a member: the block, which is checked and answered; then eight bytes, the Treble's toll counter, with which
the harvest opens. -/
def State.paramsIn (s : State) (c src : Nat) (m : Bytes) : State :=
  if src ≠ s.treble then s
  else if m.length = 8 then
    match s.car.job with
    | some j =>
      if j.held = [] || (s.ctx c).st != .closed then s
      else
        let s := (s.updJob fun j => { j with held := [] }).openNow c j.held
        (s.updCtx c fun x => { x with tollRef := some (leAt m 0 8, s.cad.toll) }).pauseAtOpen c
    | none => s
  else
    let bad := match s.openGate c with
      | some st => some st
      | none => if hvMode (blockCtx m) = 0 then some .refused else (s.openFail m.length m true).or (s.layoutFail c m)
    match bad with
    | some st => s.ctl src .openAnswer (leBytes 2 (statusCode st))
    | none => (s.updJob fun j => { j with held := m }).ctl src .openAnswer [0, 0]

/-- QUAD_ROSTER at a member. -/
def State.rosterIn (s : State) (c src : Nat) (m : Bytes) : State :=
  if src ≠ s.treble then s
  else if m = [] then
    match s.car.job with
    | some j =>
      if j.held = [] then s
      else
        let s := s.updJob fun j => { j with held := [] }
        if (s.ctx c).st == .opened then s.rosterNow c j.held else s
    | none => s
  else
    match (if (s.ctx c).st == .opened then s.rosterFail c m else some .refused) with
    | some st => s.ctl src .openAnswer (leBytes 2 (statusCode st))
    | none => (s.updJob fun j => { j with held := m }).ctl src .openAnswer [0, 0]

/-- The Treble has every member's answer: everywhere or nowhere; of several refusals the lowest position's counts. Step 11 of an
open comes after them (R356). -/
def State.allAnswered (s : State) (c : Nat) (j : Job) : State :=
  let opening := (s.ctx c).st == .closed
  match (List.range 4).findSome? fun p => (lookupN j.answers p).filter (· != 0) with
  | some code =>
    if opening then s.openFails c (statusOf code)
    else (s.updJob fun j => { j with held := [], answers := [] }).finish c (statusOf code) []
  | none =>
    let s := s.updJob fun j => { j with held := [], answers := [] }
    if opening then
      if !s.openWaits c 0x10 then s.openFails c .refused
      else
        match s.layoutFail c j.held with
        | some st => s.openFails c st
        | none => (((s.ctlAll .params (leBytes 8 s.cad.toll)).openNow c j.held).pauseAtOpen c).finish c .ok [1]
    else if (s.ctx c).st == .opened && s.openWaits c 0x11 then
      let s := (s.ctlAll .roster []).rosterNow c j.held
      s.finish c .ok (s.rosterResult c)
    else s

/-- QUAD_OPEN_ANSWER at the Treble. -/
def State.answerIn (s : State) (c src : Nat) (m : Bytes) : State :=
  let s := s.ctlAnswered src [.params, .roster]
  match s.car.job with
  | none => s
  | some j =>
    if j.held = [] ∨ !s.isTreble then s
    else
      let j' := { j with answers := insertN j.answers src (leAt m 0 2) }
      let s := s.updJob fun _ => j'
      if s.peers.all fun p => (lookupN j'.answers p).isSome then s.allAnswered c j' else s

/-! ### Settling on every member (R372, R373, R379, R397, R405) -/

/-- The accumulator of this device, in Pan order. -/
def State.wholeSum (s : State) (c : Nat) : Option Bytes :=
  (s.pansOf c).foldl (fun o p => match o, s.accRead c p 0 ((s.sliceOf c p).2 * (ringW (s.ctx c) / 8)) with
    | some a, some b => some (a ++ b) | _, _ => none) (some [])

/-- In SPLIT a member's inputs of UNMASKING: its partial sum and its ledger bytes (R379). -/
def State.sendSums (s : State) (c : Nat) : State :=
  if hvMode (s.ctx c) ≠ 2 then s
  else
    match s.wholeSum c with
    | none => s.fatalVoid c 7 0 0
    | some b => (s.ctl s.treble .partialSum b).sendBytesHome c

/-- QUAD_PARTIAL_SUM at the Treble: added word by word. -/
def State.mergeSum (s : State) (c src : Nat) (m : Bytes) : State :=
  let x := s.ctx c
  if hvMode x ≠ 2 ∨ !s.isTreble ∨ x.st != .unmasking || x.merged.contains src then s
  else if x.onChip && (s.pansOf c).any fun p => s.held p 0 ((s.sliceOf c p).2 * (ringW x / 8)) then
    { s with sweep := { s.sweep with held := s.sweep.held ++ [.partialSum c src m] } }
  else
    let w := ringW x
    let add (e : Option (State × Nat)) (p : Nat) : Option (State × Nat) := e.bind fun e =>
      let n := (e.1.sliceOf c p).2 * (w / 8)
      (e.1.accRead c p 0 n).map fun a => (e.1.accWrite c p 0 (ringBytes false w a (slice m e.2 n)), e.2 + n)
    match (s.pansOf c).foldl add (some (s, 0)) with
    | none => s.fatalVoid c 7 0 0
    | some e => (e.1.updCtx c fun x => { x with merged := x.merged ++ [src] }).checkUnmasked c

/-- QUAD_LEDGER_BYTES at the Treble: a HOME's conflict count and its bytes, for the gate or for a VOIDED certificate (R394,
R395). -/
def State.mergeBytes (s : State) (c src : Nat) (m : Bytes) : State :=
  let x := s.ctx c
  if hvMode x ≠ 2 ∨ !(x.st == .unmasking || x.gather.contains src) || x.merged.contains (src + 4) then s
  else
    let slots := (slotList x).filter fun i => rosterHome x i == src
    let s := s.updCtx c fun x => slots.zipIdx.foldl (fun x e => setLedger x e.1 (byteAt m (4 + e.2)))
      { x with merged := x.merged ++ [src + 4], gather := x.gather.filter (· != src), conflicts := satAdd 32 x.conflicts (leAt m 0 4) }
    (s.checkUnmasked c).finishVoid c

/-- QUAD_LEDGER_BYTES at a member, from the Treble: a slot's byte. What is revealed and verified of it, and whether recovery has
failed, is written in this member's Tally (Table LDG-2). -/
def State.bytesIn (s : State) (c src : Nat) (m : Bytes) : State :=
  let slot := leAt m 0 4
  let x := s.ctx c
  if src ≠ s.treble ∨ !ctxLive x.st ∨ !s.servesSlot x slot then s
  else s.updCtx c fun x => setLedger x slot (setBits (ledgerByte x slot) 5 2 (bitsOf (byteAt m 4) 5 2))

/-- A member's gate report (R405): conditions, debug scopes, and in SHARD its result slices. -/
def State.sendGate (s : State) (c : Nat) : State :=
  let x := s.ctx c
  let head : Bytes := [BitVec.ofNat 8 (s.partConditions c), BitVec.ofNat 8 x.debug]
  if hvMode x = 1 then
    match s.ownSlices c with
    | some d => s.ctl s.treble .gateReport (head ++ d)
    | none => s.fatalVoid c 5 0 0
  else s.ctl s.treble .gateReport head

/-- QUAD_STEP_TOKEN at a member. -/
def State.stepTokenIn (s : State) (c src : Nat) (m : Bytes) : State :=
  let x := s.ctx c
  let k := byteAt m 0
  let st := statusOf (leAt m 1 2)
  if src ≠ s.treble ∨ !ctxLive x.st then s
  else if k = 0 then (if x.st == .tallied then (s.enterState c .unmasking .ok).sendSums c else s)
  else if k = 1 then
    if x.st == .settling then s.holdCtx c st
    else if x.st == .tallied || x.st == .unmasking then s.enterState c .settling st
    else s
  else if x.st != .settling then s
  else if k ≤ 6 then (s.updCtx c fun x => { x with step := k, reports := [] }).stepTokens c k
  else
    let reports := (s.pansOf c).zipIdx.map fun e => (s.power.pos, e.1, slice m (4 + 32 * e.2) 32)
    (s.updCtx c fun x => { x with
      step := 7, lastReports := reports, noiseLacks := if byteAt m 3 = 1 then [s.power.pos] else [] }).sendGate c

/-- QUAD_GATE_REPORT at the Treble; a single byte holds scopes that have opened since the report (R530). -/
def State.gateIn (s : State) (c src : Nat) (m : Bytes) : State :=
  if !s.isTreble || (s.ctx c).st != .settling then s
  else if m.length = 1 then
    s.updCtx c fun x => { x with
      gateReports := x.gateReports.map fun r => if r.1 == src then (r.1, r.2.1, Nat.lor r.2.2 (byteAt m 0)) else r }
  else if (s.ctx c).step != 7 then s
  else
    (s.updCtx c fun x => { x with
      gateReports := (x.gateReports.filter fun r => r.1 != src) ++ [(src, byteAt m 0, byteAt m 1)]
      memberData := insertN x.memberData src (m.drop 2) }).settleAdvance c

/-- QUAD_RELEASE_COPY at a member: staged and acknowledged. -/
def State.copyIn (s : State) (c src : Nat) (m : Bytes) : State :=
  let n := leAt m 0 8
  if src ≠ s.treble ∨ (s.ctx c).st != .settling then s
  else
    let r := slice m 12 n
    ((s.stageResult c r).updCtx c fun x => { x with staged := some (r, (m.drop (12 + n)).take (leAt m 8 4)) }).ctl src .releaseAck []

/-- QUAD_COMMIT at a member. -/
def State.commitIn (s : State) (c src : Nat) : State :=
  match (s.ctx c).staged with
  | some (r, cert) => if src = s.treble ∧ (s.ctx c).st == .settling then s.release c r cert else s
  | none => s

/-- QUAD_VOID at a member: the harvest, or an open that came to nothing. From the Treble it tells the toll counter of the
certificates. -/
def State.voidIn (s : State) (c src : Nat) (m : Bytes) : State :=
  if ctxLive (s.ctx c).st then
    let s := if src = s.treble ∧ m.length = 10 then s.updCtx c fun x => { x with tollRef := some (leAt m 2 8, s.cad.toll) } else s
    s.voidLocal c (statusOf (leAt m 0 2))
  else if s.isTreble then s
  else (s.endJob c).dropJobKeys

/-- QUAD_PAUSED_FLAG: the Treble's flag at a member; a member's own cause, and a link's return, at the Treble. -/
def State.pausedIn (s : State) (c src : Nat) (m : Bytes) : State :=
  let flag := byteAt m 0 == 1
  if s.isTreble then
    let s := s.updJob fun j => { j with
      pausedBy := if flag then (if j.pausedBy.contains src then j.pausedBy else j.pausedBy ++ [src]) else j.pausedBy.filter (· != src)
      wantAdvance := j.wantAdvance || byteAt m 1 == 1 }
    (s.pauseSync c).resumeCtx c
  else if src = s.treble ∧ ctxLive (s.ctx c).st then (s.repause c fun x => { x with pauseQuad := flag }).resumeCtx c
  else s

/-- BACKOUT(i): at a member, its own part; at the Treble, which hears of it from the member that failed, everywhere. -/
def State.backoutIn (s : State) (c src slot : Nat) : State :=
  if s.backoutHeld c slot then { s with sweep := { s.sweep with held := s.sweep.held ++ [.backout c src slot] } } else
  let s := if (slotCtx (s.ctx c) slot).isSome && (addEntry (s.ctx c) slot).issued then s.backout c slot false else s
  if s.isTreble && ctxLive (s.ctx c).st then s.backoutAll c slot src else s

end Sys2Proof.Machine
end

