-- ==== Sys2Proof/Machine/Serve.lean ====
section
/-! DEFINITION. The mailbox: taking commands into service, their checks, DMA, doorbells, resends (HST, R593 to R604, R610,
R611; BOO, R134, R145, R148). -/
namespace Sys2Proof.Machine

open Sys2Proof

/-! ### Commands by their arguments -/

/-- Host ranges that a command names: address and length (R595). -/
def rangesOf (c : HostCmd) : List (Nat × Nat) :=
  match c with
  | .imageLoad a l => [(a, l)]
  | .imagePartial a l _ => [(a, l)]
  | .attest o ol nl n => [(o, ol), (n, nl)]
  | .enrollTenant a l => [(a, l)]
  | .weightsLoad a l => [(a, l)]
  | .harvestOpen a l => [(a, l)]
  | .rosterLoad a l => [(a, l)]
  | .hostIngest a l n r f => if f = 0 then [(a, l), (r, 64 * n)] else [(a, l)]
  | .sharesSubmit a l n r => [(a, l), (r, 64 * n)]
  | .releaseFetch r rl c cl => (if r = 0 then [] else [(r, rl)]) ++ if c = 0 then [] else [(c, cl)]
  | .debugUnlock a l => [(a, l)]
  | .tenantLeave | .tallyFreeze | .settle | .harvestVoid | .harvestClose | .quadForm _ | .quadDissolve | .muffle | .wake => []

/-- What a command reads from the host first. -/
def readOf (c : HostCmd) : Option (Nat × Nat) :=
  match c with
  | .imageLoad a l => some (a, l)
  | .imagePartial a l _ => some (a, l)
  | .attest _ _ nl n => some (n, nl)
  | .enrollTenant a l => some (a, l)
  | .weightsLoad a l => some (a, l)
  | .harvestOpen a l => some (a, l)
  | .rosterLoad a l => some (a, l)
  | .hostIngest a l _ _ _ => some (a, l)
  | .sharesSubmit a l _ _ => some (a, l)
  | .debugUnlock a l => some (a, l)
  | .releaseFetch .. | .tenantLeave | .tallyFreeze | .settle | .harvestVoid | .harvestClose | .quadForm _ | .quadDissolve
  | .muffle | .wake => none

/-- Commands that PF0 alone takes (Table HST-3). -/
def pf0Only (c : HostCmd) : Bool :=
  match c with
  | .imageLoad .. | .imagePartial .. | .enrollTenant .. | .tenantLeave | .quadForm _ | .quadDissolve | .muffle | .wake | .debugUnlock .. => true
  | _ => false

/-- R603 on the arguments: an enumerated argument, a reserved bit, the function, a fixed length. -/
def argsFail (pf : Nat) (c : HostCmd) : Option Status :=
  match c with
  | .imagePartial _ _ k => if 4 ≤ k then some .badEnum else if pf ≠ 0 then some .refused else none
  | .hostIngest _ _ _ _ f => if 2 ≤ f then some .badEnum else none
  | .quadForm m => if 16 ≤ m then some .reservedNonzero else if pf ≠ 0 then some .refused else none
  | .enrollTenant _ l => if pf ≠ 0 ∨ l ≠ 240 then some .refused else none
  | .debugUnlock _ l => if pf ≠ 0 ∨ l ≠ 192 then some .refused else none
  | _ => if pf0Only c && pf != 0 then some .refused else none

/-- The codes of commands that need the core. -/
def needsCore (code : Nat) : Bool := [0x01, 0x02, 0x05, 0x10, 0x11, 0x12, 0x13, 0x14, 0x15].contains code

/-- Refusals of the device's state, which come before everything else (R134, R148, R524, R627, R149; DEDUCED, log entry 39,
where a rule names no status). -/
def State.stateRefusal (s : State) (code : Nat) : Option Status :=
  if s.dev.st == .locked then some .locked
  else if !s.power.thermtripN then some .lastingFault
  else if s.dev.st == .muffled && !([0x30, 0x31, 0x03, 0x16, 0x18, 0x06].contains code) then some .busy
  else if s.dev.switch.isSome then (if code = 0x16 then none else some .busy)
  else if (s.dev.shutDown || s.dev.shutting.isSome) && code != 0x03 && code != 0x16 then some .refused
  else if needsCore code && s.dev.coreDead then some .lastingFault
  else if needsCore code && s.power.vddc != .good then some .busy
  else none

/-- The result of a command that fails (Table HST-5). -/
def State.failResult (s : State) (pf code : Nat) : Bytes :=
  if code = 0x01 ∨ code = 0x02 then [BitVec.ofNat 8 s.img.detail, BitVec.ofNat 8 s.img.section_]
  else if code = 0x10 ∨ code = 0x15 ∨ code = 0x17 ∨ code = 0x18 then s.ctxResult pf
  else if code = 0x30 ∨ code = 0x31 then [BitVec.ofNat 8 (devCode s.dev.st)]
  else []

/-! ### Running -/

/-- A command runs, with what it has read (none for a command that reads nothing). -/
def State.runCmd (s : State) (pf : Nat) (c : HostCmd) (b : Bytes) : State :=
  match c with
  | .imageLoad .. => s.stageFile b
  | .imagePartial .. => s.stageFile b
  | .attest o _ nl _ => s.runAttest pf o nl b
  | .enrollTenant .. => s.runEnrol pf b
  | .weightsLoad _ l => s.runWeights pf l b
  | .tenantLeave =>
    match s.dev.st, (s.fn pf).serving with
    | .tenantedIdle, some v => s.beginSwitch (.host pf v.seq)
    | .muffled, some v =>
      let s := match s.dev.wake with
        | some w => ({ s with dev := { s.dev with wake := none } }).answer w.by_ .preempted [BitVec.ofNat 8 (devCode s.dev.st)]
        | none => s
      s.beginSwitch (.host pf v.seq)
    | .running, _ => s.finish pf .busy []
    | _, _ => s.finish pf .refused []
  | .harvestOpen _ l => s.runOpen pf l b
  | .rosterLoad .. => s.runRoster pf b
  | .hostIngest _ l n _ f =>
    if f = 1 then
      let (st, s) := s.admitChild pf l b
      s.finish pf st []
    else s.runIngest pf n false b
  | .tallyFreeze => s.runFreeze pf
  | .sharesSubmit _ _ n _ => s.runIngest pf n true b
  | .settle => s.runSettle pf
  | .releaseFetch r rl c cl => s.runFetch pf r rl c cl
  | .harvestVoid => s.runVoid pf
  | .harvestClose => s.runClose pf
  | .quadForm m => s.runForm pf m
  | .quadDissolve => s.runDissolve pf
  | .muffle => s.runMuffle pf
  | .wake => s.runWake pf
  | .debugUnlock .. => s.runUnlock pf b

/-- The checks of a command's own chapter before it reads the host; an image command's begin the load (`State.beginLoad`). -/
def State.ownGate (s : State) (pf : Nat) (c : HostCmd) : Option Status :=
  match c with
  | .attest _ ol nl _ => s.attestGate ol nl
  | .enrollTenant .. => if s.dev.st == .untenanted then none else some .refused
  | .weightsLoad .. => s.weightsGate pf
  | .harvestOpen .. => s.openGate pf
  | .rosterLoad .. => (ctxGate (s.ctx pf) [.opened] [] []).or (if s.notTreble pf then some .refused else none)
  | .hostIngest _ l n r f => s.ingestGate pf l n r f false
  | .sharesSubmit _ l n r => s.ingestGate pf l n r 0 true
  | .debugUnlock .. => s.unlockGate
  | .imageLoad .. | .imagePartial .. | .tenantLeave | .tallyFreeze | .settle | .releaseFetch .. | .harvestVoid | .harvestClose
  | .quadForm _ | .quadDissolve | .muffle | .wake => none

/-- The command in service fails at its transfer: its second read has failed, or bus mastering is gone (R595, R611). -/
def State.transferFails (s : State) (pf : Nat) (st : Status) : State :=
  match (s.fn pf).serving with
  | none => s
  | some v =>
    let code := cmdCode v.cmd
    if code = 0x01 ∨ code = 0x02 then s.endLoad pf (if st == .paused then .paused else .imageRejected) 0x0F 0xFF false
    else s.finish pf st (s.failResult pf code)

/-- The command in service has its data. What the device has become since it was served may refuse it: a HARVEST_OPEN whose data
come after a MUFFLE of PF0 was accepted completes with BUSY (R152). -/
def State.dataCome (s : State) (pf : Nat) (b : Bytes) : State :=
  match (s.fn pf).serving with
  | none => s
  | some v =>
    let s := s.updFn pf fun f => { f with serving := some { v with awaitDma := false } }
    match if s.img.load.isSome then none else s.stateRefusal (cmdCode v.cmd) with
    | some st => s.finish pf st (s.failResult pf (cmdCode v.cmd))
    | none => s.runCmd pf v.cmd (padTo ((readOf v.cmd).map (·.2)|>.getD 0) b)

/-- The command in service reads the host: its data is at hand, has failed to come twice, or is asked for. -/
def State.fetchData (s : State) (pf : Nat) (c : HostCmd) (d : Dma) : State :=
  match readOf c with
  | none => s.runCmd pf c []
  | some (a, l) =>
    match d with
    | .data b => s.dataCome pf b
    | .failed => s.transferFails pf .refused
    | .pending =>
      (s.updFn pf fun f => { f with serving := f.serving.map fun v => { v with awaitDma := true } }).emit (.dmaRead pf a l)

/-- A command in service: every check in its order, then its effect (R595, R603, R611). -/
def State.serveCmd (s : State) (pf : Nat) (c : HostCmd) (d : Dma) : State :=
  let code := cmdCode c
  let no (st : Status) : State :=
    if code = 0x01 ∨ code = 0x02 then s.endLoadGate pf st else s.finish pf st (s.failResult pf code)
  match (s.stateRefusal code).or (argsFail pf c) with
  | some st => no st
  | none =>
    if !(rangesOf c).isEmpty && !(s.fn pf).bme then no .paused
    else if (rangesOf c).any fun r => rangeWraps r.1 r.2 then no .refused
    else
      match c with
      | .imageLoad _ l =>
        let (s, go) := s.beginLoad pf l none
        if go then s.fetchData pf c d else s
      | .imagePartial _ l k =>
        let (s, go) := s.beginLoad pf l (some k)
        if go then s.fetchData pf c d else s
      | _ =>
        match s.ownGate pf c with
        | some st => no st
        | none => (if code = 0x03 then s.takeSnap pf else s).fetchData pf c d

/-! ### The ring (R598, R599, R602, R603) -/

/-- BAR0 offsets of the ring and of MB_DOORBELL. -/
def ringBase : Nat := 0x400000
def doorbellOff : Nat := 0x401000

/-- DOORBELL_LOST (Table QUE-4). -/
def State.lostEvent (s : State) (pf off : Nat) : State :=
  s.event pf 0x1A pf 0 ([BitVec.ofNat 8 pf, 0, 0, 0] ++ leBytes 4 off ++ leBytes 4 (s.fn pf).expect)

/-- A dropped mailbox write. -/
def State.dropWrite (s : State) (pf off : Nat) : State := (s.lostEvent pf off).bump .mbLost pf 31 0 1

/-- An entry's command, or the status of R603. -/
def entryCmd (e : Bytes) : Except Status HostCmd :=
  let op := byteAt e 0
  let a (o n : Nat) : Nat := leAt e o n
  let known : Option (Nat × HostCmd) := match op with
    | 0x01 => some (20, .imageLoad (a 8 8) (a 16 4))
    | 0x02 => some (21, .imagePartial (a 8 8) (a 16 4) (a 20 1))
    | 0x03 => some (32, .attest (a 8 8) (a 16 4) (a 20 4) (a 24 8))
    | 0x04 => some (20, .enrollTenant (a 8 8) (a 16 4))
    | 0x05 => some (20, .weightsLoad (a 8 8) (a 16 4))
    | 0x06 => some (8, .tenantLeave)
    | 0x10 => some (20, .harvestOpen (a 8 8) (a 16 4))
    | 0x11 => some (20, .rosterLoad (a 8 8) (a 16 4))
    | 0x12 => some (33, .hostIngest (a 8 8) (a 16 4) (a 20 4) (a 24 8) (a 32 1))
    | 0x13 => some (8, .tallyFreeze)
    | 0x14 => some (32, .sharesSubmit (a 8 8) (a 16 4) (a 20 4) (a 24 8))
    | 0x15 => some (8, .settle)
    | 0x16 => some (36, .releaseFetch (a 8 8) (a 16 8) (a 24 8) (a 32 4))
    | 0x17 => some (8, .harvestVoid)
    | 0x18 => some (8, .harvestClose)
    | 0x20 => some (9, .quadForm (a 8 1))
    | 0x21 => some (8, .quadDissolve)
    | 0x30 => some (8, .muffle)
    | 0x31 => some (8, .wake)
    | 0x40 => some (20, .debugUnlock (a 8 8) (a 16 4))
    | _ => none
  match known with
  | none => .error .illegalOpcode
  | some (n, c) => if !allZero (slice e 1 3) || !allZero (slice e n (60 - n)) then .error .reservedNonzero else .ok c

/-- The entry in the slot of EXPECT, where the device may serve it. -/
def ringEntry (f : Fn) : Option Bytes :=
  let k := f.expect % 64
  let e := Memory.readN f.ring (64 * k) 64
  if bitOf f.damaged k || leAt e 4 4 != f.expect || leAt e 60 4 != (2 ^ 32 - 1 - f.expect) then none else some e

/-- EXPECT moves on, and the entry with its number is in service. -/
def takeSeq (f : Fn) (c : HostCmd) : Fn :=
  { f with expect := (f.expect + 1) % 2 ^ 32, serving := some { cmd := c, seq := f.expect } }

/-- The last entry that the doorbell covered has been served. -/
def endLimit (f : Fn) : Fn := if f.limit == some f.expect then { f with limit := none } else f

/-- An entry that is no command completes at once: its device-state refusal first (R603). -/
def State.serveBad (s : State) (pf seq code : Nat) (st : Status) : State :=
  s.complete pf seq code ((s.stateRefusal code).getD st) (s.failResult pf code)

/-- The next entry of an idle function, in its order: those presented whole, then those of the ring. -/
def State.serveNext (s : State) (pf : Nat) : State :=
  let f := s.fn pf
  match f.waiting with
  | w :: rest => (s.updFn pf fun f => takeSeq { f with waiting := rest } w.cmd).serveCmd pf w.cmd w.dma
  | [] =>
    match f.limit with
    | none => s
    | some _ =>
      match ringEntry f with
      | none =>
        (s.updFn pf fun f => { f with stopped := true, limit := none }).lostEvent pf (ringBase + 64 * (f.expect % 64))
      | some e =>
        match entryCmd e with
        | .ok c => (s.updFn pf fun f => takeSeq (endLimit f) c).serveCmd pf c .pending
        | .error st =>
          (s.updFn pf fun f => { endLimit f with expect := (f.expect + 1) % 2 ^ 32 }).serveBad pf f.expect (byteAt e 0) st

/-- The mailbox is serviced from UNTENANTED onwards (R145). -/
def State.mailboxRuns (s : State) : Bool :=
  match s.dev.st with
  | .cold | .held | .booting => false
  | _ => true

/-- The functions that contend for the Steward command arbiter: idle, with an entry that waits. -/
def State.callers (s : State) : List Nat :=
  (List.range 4).filter fun pf => (s.fn pf).serving.isNone && (!(s.fn pf).waiting.isEmpty || (s.fn pf).limit.isSome)

/-- A command that waits with its data, for the DRBG (R497), for other members, or for the end of a void (R382), is tried again. A
HARVEST_OPEN that the device's state refuses by then fails (R152); one that has yet to write the host completes with PAUSED once
bus mastering is clear (R611). -/
def State.retryStalled (s : State) (pf : Nat) : State :=
  match (s.fn pf).serving with
  | none => s
  | some v =>
    match v.data with
    | none => s
    | some b =>
      let writes := (cmdCode v.cmd == 0x03 || cmdCode v.cmd == 0x16) && !(rangesOf v.cmd).isEmpty
      match if cmdCode v.cmd = 0x10 then s.stateRefusal 0x10 else none with
      | some st => s.openFails pf st
      | none => if writes && !(s.fn pf).bme then s.transferFails pf .paused else if [0x03, 0x04, 0x10, 0x11, 0x15, 0x16, 0x17, 0x18].contains (cmdCode v.cmd) then s.runCmd pf v.cmd b else s

/-- Commands in service that a void has left without their end: TALLY_FREEZE, and the frames of an ingest (R607). -/
def State.endVoided (s : State) (pf : Nat) : State :=
  let x := s.ctx pf
  let s := x.lostReplies.foldl (fun s e =>
    s.hostReply (e.2.port - 4) e.2.index (vezilReply 4 e.2.tag (hvId x) (beBytes 2 (statusCode .voided) ++
      [1, BitVec.ofNat 8 (partByte x)] ++ beBytes 4 e.1 ++ beBytes 4 0 ++ beBytes 4 0))) s
  let s := if x.lostReplies.isEmpty then s else s.updCtx pf fun x => { x with lostReplies := [] }
  match (s.fn pf).serving with
  | some v => if v.cmd == .tallyFreeze && !x.freezing && x.st != .voiding then s.finish pf .voided (List.replicate 8 0) else s
  | none => s

/-- Entries are served one after another, of the functions that contend that which the Steward command arbiter granted least
recently first (R76, R77, R152). Entries of different functions that were never granted, such as those held until UNTENANTED is
entered (R145), are served in the order of the functions' numbers (DESIGN CHOICE, log entry 16). -/
def State.serveCallers (s : State) : Nat → State
  | 0 => s
  | n + 1 =>
    match contender s.arb.steward s.callers with
    | none => s
    | some pf => (((List.range 4).foldl (fun s c => s.endVoided c) ((s.grantFn pf).serveNext pf))).serveCallers n

/-- The mailbox goes on. -/
def State.pump (s : State) : State :=
  if !s.mailboxRuns then s
  else
    let s := (List.range 4).foldl (fun s pf => (s.endVoided pf).retryStalled pf) s
    s.serveCallers ((s.fns.map fun f => f.waiting.length).sum + 260)

/-- What a command may have let go on: credits, receipts, a tenant switch and the mailbox. -/
def State.goOn (s : State) : State := (s.retryCredits.retryReceipts.resumeSwitch).pump

/-- What fresh random bytes may let go on: certificates, a tenant switch, a shutdown, a formation, the mailbox (R497). -/
def State.drbgBack (s : State) : State := ((s.keyGo s.keyhold.keyWait.length).retryCerts.advanceSwitch.resumeShutdown.formAdvance).goOn

/-! ### What the driver and the bus do -/

/-- The endpoint answers configuration requests of a function, and its memory space. -/
def State.pcieAnswers (s : State) : Bool := s.dev.pcie == 2
def State.hostReaches (s : State) (pf : Nat) : Bool := s.pcieAnswers && (s.fn pf).mse

/-- The function serves nothing and no entry of it waits, so its next entry is served at once. -/
def State.fnIdle (s : State) (pf : Nat) : Bool :=
  s.mailboxRuns && (s.fn pf).serving.isNone && (s.fn pf).waiting.isEmpty && (s.fn pf).limit.isNone

/-- The entry with the function's next number is in service. -/
def State.taken (s : State) (pf : Nat) (c : HostCmd) : State := (s.updFn pf fun f => takeSeq f c).grantFn pf

/-- An entry presented whole: written, checked and covered by its doorbell. -/
def State.present (s : State) (pf : Nat) (c : HostCmd) (d : Dma) : State :=
  if !s.hostReaches pf then s
  else if s.fnIdle pf then ((s.taken pf c).serveCmd pf c d).pump
  else (s.updFn pf fun f => { f with waiting := f.waiting ++ [{ cmd := c, dma := d }] }).pump

/-- MAILBOX_WRITE (R602). -/
def State.mailboxWrite (s : State) (pf off : Nat) (data : Bytes) (whole bad : Bool) : State :=
  let o := off - ringBase
  if !s.hostReaches pf || decide (off < ringBase) || decide (ringBase + 4096 < off + data.length) || data.isEmpty then s
  else if bad || !whole || off % 4 != 0 || data.length % 4 != 0 then
    let s := s.dropWrite pf off
    s.updFn pf fun f => { f with damaged := setBits f.damaged (o / 64) (o / 64) 1 }
  else
    let starts := (List.range 64).filter fun k => decide (o ≤ 64 * k) && decide (64 * k < o + data.length)
    s.updFn pf fun f => { f with
      ring := Memory.writeN f.ring o data, damaged := starts.foldl (fun d k => setBits d k k 0) f.damaged }

/-- MB_DOORBELL (R599, R602). One with T = EXPECT − 1 does nothing; a later doorbell never uncovers what an earlier one
covered. -/
def State.doorbell (s : State) (pf t : Nat) (single bad : Bool) : State :=
  let e := (s.fn pf).expect
  let t := t % 2 ^ 32
  let ahead := (t + 1 + 2 ^ 32 - e) % 2 ^ 32
  if !s.hostReaches pf then s
  else if bad || !single || decide (64 < ahead) then s.dropWrite pf doorbellOff
  else if ahead = 0 then s
  else
    let old := match (s.fn pf).limit with | some l => (l + 1 + 2 ^ 32 - e) % 2 ^ 32 | none => 0
    let lim := if ahead < old then (e + old + 2 ^ 32 - 1) % 2 ^ 32 else t
    (s.updFn pf fun f => { f with stopped := false, limit := some lim }).pump

/-- MB_RESEND (R601). -/
def State.resend (s : State) (pf seq : Nat) : State :=
  let f := s.fn pf
  let seq := seq % 2 ^ 32
  let back := (f.expect + 2 ^ 32 - seq) % 2 ^ 32
  if !s.hostReaches pf then s
  else if f.serving.any (fun v => v.seq == seq) || f.parked.any (fun v => v.seq == seq) then s
  else
    match f.cache.find? fun r => r.seq == seq with
    | some r => if 1 ≤ back ∧ back ≤ 64 then s.cmdDone pf seq r.code r.status r.result else s.setBit .hcxErr pf 4
    | none => s.setBit .hcxErr pf 4

/-- DMA_COMPLETION (R595, R611): for the command in service that awaits a read. -/
def State.dmaCompletion (s : State) (pf : Nat) (data : Option Bytes) : State :=
  match (s.fn pf).serving with
  | none => s
  | some v =>
    if !v.awaitDma then s
    else
      match data, readOf v.cmd with
      | some b, _ => (s.dataCome pf b).pump
      | none, some (a, l) =>
        if v.retried then (s.transferFails pf .refused).pump
        else (s.updFn pf fun f => { f with serving := some { v with retried := true } }).emit (.dmaRead pf a l)
      | none, none => s

/-- FUNCTION_LEVEL_RESET (R610). -/
def State.flr (s : State) (pf : Nat) : State := if s.pcieAnswers then (s.resetFn pf).goOn else s

/-- BUS_MASTER_CLEAR (R611): D3hot clears Memory Space Enable too. -/
def State.masterClear (s : State) (pf : Nat) (d3hot : Bool) : State :=
  if !s.pcieAnswers then s
  else
    let s := s.updFn pf fun f => { f with bme := false, mse := f.mse && !d3hot }
    let s := if ctxLive (s.ctx pf).st then s.ownPauseSet pf false fun x => { x with pauseBme := true } else s
    (match (s.fn pf).serving with
      | some v => if v.awaitDma then s.transferFails pf .paused else s
      | none => s).pump

/-- BUS_MASTER_SET (R611): a return to D0 restores both. -/
def State.masterSet (s : State) (pf : Nat) (d0 : Bool) : State :=
  if !s.pcieAnswers then s
  else
    let s := s.updFn pf fun f => { f with bme := true, mse := f.mse || d0 }
    let s := if ctxLive (s.ctx pf).st then (s.ownPauseSet pf false fun x => { x with pauseBme := false }).resumeCtx pf else s
    s.goOn

end Sys2Proof.Machine
end

