-- ==== Sys2Proof/Machine/RegRows.lean ====
section
/-! DEFINITION. Register accesses as commands (SCO, R14 to R24; R90, R144, R593): the ranges of bytes that are no register,
reads with their clears and latches, checked writes with what they set off. -/
namespace Sys2Proof.Machine

open Sys2Proof

/-! ### Requesters and the start of blocks -/

/-- The requester's number in the latches of R23 and in what a read returned: the function, 4 Belfry, 5 + s a Steward. -/
def whoNum (who : Requester) : Nat :=
  match who with
  | .host pf => pf
  | .belfry => 4
  | .steward k => 5 + k

/-- The boot step that starts the block a register of BAR2 stands in (R144, Table BOO-3; the blocks that Table BOO-3 does
not name are started with the Stewards: DESIGN CHOICE, log entry 41). -/
def blockStep (r : Reg) : Nat :=
  let pl := regPlace r
  match pl.zone with
  | .bar2 =>
    if pl.off < 0x10000 then 0
    else if pl.off < 0x20000 then 3
    else if pl.off < 0x30000 then 5
    else if pl.off < 0x50000 then 6
    else if pl.off < 0x70000 then 7
    else if pl.off < 0x80000 then 9
    else if pl.off < 0xA0000 then 1
    else if pl.off < 0xB0000 then 5
    else if pl.off < 0xC0000 then 6
    else 5
  | _ => 0

/-- The block of a register has been started: the queues' registers while the queues run (Table BOO-3, step 5). -/
def State.started (s : State) (r : Reg) : Bool :=
  match (regPlace r).zone with
  | .queue => s.queuesOpen
  | _ => decide (blockStep r ≤ s.dev.bootStep)

/-- What a register reads as at its reset value (R136, R137): the table's value, with the straps and fuses as boot step 1 loaded
them and the always-on domain's own bits. -/
def State.resetView (s : State) (who : Requester) (r : Reg) (i : Nat) : Nat :=
  match r with
  | .tocStatus => regReset r + b2n s.toc.continuity * 8
  | .tocCause | .tocTherm => s.regView who r i
  | .panSite | .trimVal => if s.dev.bootStep = 0 then regReset r else s.regView who r i
  | .inlMac => if s.dev.bootStep = 0 then regReset r else Config.mac i % 2 ^ 48
  | .carQuad => if s.dev.bootStep = 0 then regReset r else setBits (regReset r) 5 4 s.power.pos
  | _ => regReset r

/-- What a register reads as: its reset value until the step that starts its block (R144). -/
def State.regNow (s : State) (who : Requester) (r : Reg) (i : Nat) : Nat :=
  if s.started r then s.regView who r i else s.resetView who r i

/-! ### Reads -/

/-- A latched high half is taken, or dropped. -/
def dropLatch (l : List (Reg × Nat × Nat × Nat)) (r : Reg) (i w : Nat) : List (Reg × Nat × Nat × Nat) :=
  l.filter fun e => !(e.1 == r && e.2.1 == i && e.2.2.1 == w)

/-- The latched high half of a register for a requester. -/
def State.latchOf (s : State) (r : Reg) (i w : Nat) : Option Nat :=
  (s.latched.find? fun e => e.1 == r && e.2.1 == i && e.2.2.1 == w).map (·.2.2.2)

/-- A register that R23 latches: 64 bits, read-only or read-to-clear. -/
def latches (r : Reg) : Bool :=
  (regPlace r).width == 64 && (regFields r).all fun f => f.acc == .ro || f.acc == .rc || f.acc == .rsv

/-- A 32-bit read of the low half of a 64-bit register (R23). -/
def State.readLow (s : State) (who : Requester) (r : Reg) (i : Nat) : Nat × State :=
  let v := s.regNow who r i
  if latches r then
    let s := { s with latched := dropLatch s.latched r i (whoNum who) ++ [(r, i, whoNum who, v / 2 ^ 32)] }
    (v % 2 ^ 32, s.clearRc who r i)
  else (v % 2 ^ 32, s)

/-- A 32-bit read of the high half: the latched value, else the live one, which clears nothing (R23). -/
def State.readHigh (s : State) (who : Requester) (r : Reg) (i : Nat) : Nat × State :=
  match s.latchOf r i (whoNum who) with
  | some v => (v, { s with latched := dropLatch s.latched r i (whoNum who) })
  | none => (s.regNow who r i / 2 ^ 32, s)

/-- A read of a whole register (R15, R23). -/
def State.readWhole (s : State) (who : Requester) (r : Reg) (i : Nat) : Nat × State :=
  (s.regNow who r i, s.clearRc who r i)

/-- A byte of the MSI-X table: mask bits are set at reset (log entry 14). -/
def msixByte (f : Fn) (o : Nat) : Byte := (lookupN f.msix o).getD (if o % 16 = 12 then 1 else 0)

/-- The queue whose item window an address lies in, with the byte inside the window (R447). -/
def windowAt (who : Requester) (sp : Space) (off : Nat) : Option (Nat × Nat) :=
  match sp with
  | .bar0 n => if 0x800000 ≤ off ∧ off < 0x800040 then some (n, off - 0x800000) else none
  | .bar2 =>
    if who == .belfry then if 0xD1080 ≤ off ∧ off < 0xD10C0 then some (5, off - 0xD1080) else none
    else if 0xD1000 ≤ off ∧ off < 0xD1040 then some (4, off - 0xD1000)
    else if 0xD1040 ≤ off ∧ off < 0xD1080 then some (6, off - 0xD1040)
    else none
  | .steward => none

/-- Bytes that are no register (Table HST-2, Table QUE-9, ERR_LOG): what a read of `n` bytes gives; none where no such
range holds the address. -/
def State.areaRead (s : State) (who : Requester) (sp : Space) (off n : Nat) : Option (Bytes × State) :=
  match windowAt who sp off with
  | some (q, b) =>
    let s := if b = 0 ∧ s.queuesOpen ∧ queueReader q who then s.queueRead q 0 else s
    some (slice (s.queue q).window b n, s)
  | none =>
    match sp with
    | .bar0 pf =>
      let f := s.fn pf
      let x := s.ctx pf
      if 0x2000 ≤ off ∧ off < 0x2400 then some ((List.range n).map fun k => msixByte f (off - 0x2000 + k), s)
      else if 0x2400 ≤ off ∧ off < 0x2408 then some (slice (leBytes 8 f.pba) (off - 0x2400) n, s)
      else if 0x400000 ≤ off ∧ off < 0x401000 then some (Memory.readN f.ring (off - 0x400000) n, s)
      else if 0xC01000 ≤ off ∧ off < 0xD01000 then some (slice (if windowValid x then x.cert else []) (off - 0xC01000) n, s)
      else none
    | .bar2 =>
      if 0xC1000 ≤ off ∧ off < 0xC3000 then
        let o := off - 0xC1000
        some (slice ((lookupN s.sweep.log (o / 32)).getD (List.replicate 32 0)) (o % 32) n, s)
      else none
    | .steward =>
      if 0x1E000000 ≤ off ∧ off < 0x1E000700 ∧ off % 0x100 < 0x40 then some (List.replicate n 0, s)
      else if 0x1F000000 ≤ off ∧ off < 0x1F004000 ∧ 0x40 ≤ off % 0x1000 ∧ off % 0x1000 < 0x80 then
        let w := s.stew (off / 0x1000 % 4)
        some (if off % 0x1000 < 0x60 then List.replicate n 0 else slice w.got (off % 0x1000 - 0x60) n, s)
      else none

/-- A read of one register, of one half of one, or of nothing (R593): an unmapped address reads zero, and so does a
register that the requester has no path to. -/
def State.readOne (s : State) (who : Requester) (sp : Space) (off width : Nat) : Nat × State :=
  match findReg who sp off with
  | none => (0, s)
  | some (r, i, b) =>
    if !mayRead who r then (0, s)
    else if (regPlace r).width = 64 ∧ width = 4 then (if b = 0 then s.readLow who r i else s.readHigh who r i)
    else s.readWhole who r i

/-- The register at an address is 64 bits wide and starts there. -/
def wideAt (who : Requester) (sp : Space) (off : Nat) : Bool :=
  match findReg who sp off with
  | some (r, _, b) => (regPlace r).width == 64 && b == 0
  | none => false

/-- A read of 4 or 8 aligned bytes; 8 bytes over two registers of 32 bits are two reads, the lower address first (R593). -/
def State.readAccess (s : State) (who : Requester) (sp : Space) (off width : Nat) : Nat × State :=
  match s.areaRead who sp off width with
  | some (b, s) => (leNat b, s)
  | none =>
    if width = 8 ∧ !wideAt who sp off then
      let lo := s.readOne who sp off 4
      let hi := lo.2.readOne who sp (off + 4) 4
      (lo.1 + 2 ^ 32 * hi.1, hi.2)
    else s.readOne who sp off width

/-- An access that R593 defines, by a requester that reaches the space. -/
def State.accessOk (s : State) (who : Requester) (sp : Space) (off width : Nat) : Bool :=
  (width == 4 || width == 8) && off % width == 0 && s.reaches who sp

/-- A read, with what it returns. -/
def State.readRow (s : State) (who : Requester) (sp : Space) (off width : Nat) : State :=
  if s.accessOk who sp off width then
    let v := s.readAccess who sp off width
    v.2.emit (.read (whoNum who) width v.1)
  else s

/-! ### Writes -/

/-- HCX_ERR of the function that an access came through. -/
def State.hostFlag (s : State) (who : Requester) (b : Nat) : State :=
  match who with
  | .host pf => s.setBit .hcxErr pf b
  | _ => s

/-- One operation of RNG_CMD by Steward `k` (Table QUE-5). -/
def State.rngCmd (s : State) (k v : Nat) : State :=
  let t := bitsOf v 7 0
  let arg := (s.stew k).arg
  match bitsOf v 31 28 with
  | 1 => s.rngReady k t arg
  | 2 => s.rngDelay k t arg
  | 3 => s.rngSleep k t
  | 4 => s.rngDispatch k
  | 5 => s.rngWait k t (arg % 8)
  | 6 => s.rngGet k (arg % 8)
  | 7 => (s.rngDone k (arg % 2 ^ 32)).retryCredits
  | _ => s

/-- A link or a port that a written enable bit turns off goes DOWN (CAR_LINKCTL, INL_PCTL.EN); one turned on trains again. -/
def State.enablesSet (s : State) (r : Reg) (i old : Nat) : State :=
  match r with
  | .carLinkctl =>
    (List.range 3).foldl (fun s k =>
      if bitOf old k && !bitOf (s.reg .carLinkctl 0) k then s.carDown k 5
      else if !bitOf old k && bitOf (s.reg .carLinkctl 0) k && s.linksRun then s.linkState k 1 0
      else s) s
  | .inlPctl => s.inletLink i (if bitOf (s.reg .inlPctl i) 0 && (s.port i).link == 0 then 1 else (s.port i).link)
  | _ => s

/-- The Ethernet and IP addresses of a port. -/
def State.addresses (s : State) (q : Nat) : Nat × Nat × List Nat :=
  (s.macOf q, s.reg .inlIpv4 q, [Reg.inlIpv60, .inlIpv61, .inlIpv62, .inlIpv63].map fun r => s.reg r q)

/-- Each port with an address that is not what it was in `old` announces itself once, while its link is UP (R414). -/
def State.announceMoved (s old : State) : State :=
  (List.range 4).foldl (fun t q =>
    if s.addresses q != old.addresses q && (s.port q).link == 2 then t.announce q else t) s

/-- The effect of a write that passed its checks: the register's own operation, or its fields with what they set off. -/
def State.takeWrite (s : State) (who : Requester) (r : Reg) (i v : Nat) : State :=
  match r with
  | .mbResend => s.resend i v
  | .qOp => s.queueOp i (v % 8) 0 false
  | .dbgCmd => s.dbgOp (bitsOf v 2 0) (bitsOf v 13 8) []
  | .rngCmd => s.rngCmd i v
  | _ =>
    let old := s.reg r i
    (s.plainWrite who r i v).enablesSet r i old

/-- A checked write to a register (R15 to R17, R21, R22, R24): `v` at byte `b` of it. Q_CTL and MB_DOORBELL have checks of
their own; a queue's registers are written while the queues run. -/
def State.putReg (s : State) (who : Requester) (r : Reg) (i b width v : Nat) : State :=
  match r with
  | .mbDoorbell => s.doorbell i v true false
  | .qCtl => if s.queuesOpen && mayWrite who r then s.queueCtl i (v % 2 ^ 32) 0 else s
  | _ =>
    let fv := fullValue (regPlace r) (s.regView who r i) b width v
    let chk := s.checkWrite who r i fv.1
    if (regPlace r).zone == .queue && !s.queuesOpen then s
    else ((if chk.1 then chk.2.takeWrite who r i fv.1 else chk.2).rsvFlag who r i fv.2 fv.1)

/-- A checked write with the announcement of an address that it changes (R414). -/
def State.writeReg (s : State) (who : Requester) (r : Reg) (i b width v : Nat) : State :=
  (s.putReg who r i b width v).announceMoved s

/-- The MSI-X table after a write: a vector that is pending and no longer masked is signalled. -/
def State.msixWrite (s : State) (pf o : Nat) (bs : Bytes) : State :=
  let s := s.updFn pf fun f =>
    { f with msix := (List.range bs.length).foldl (fun m k =>
        let v := bs.getD k 0
        if v = (if (o + k) % 16 = 12 then 1 else 0) then eraseN m (o + k) else insertN m (o + k) v) f.msix }
  (List.range 64).foldl (fun s v =>
    if bitOf (s.fn pf).pba v && !fnMasked (s.fn pf) v then
      (s.updFn pf fun f => { f with pba := setBits f.pba v v 0 }).signal pf v
    else s) s

/-- A staged producer item of Steward `k`: a write that ends bytes 56 to 63 commits it (R456). -/
def State.stageItem (s : State) (k q o : Nat) (bs : Bytes) : State :=
  let put (l : Bytes) : Bytes := l.take o ++ bs ++ l.drop (o + bs.length)
  let s := s.updStew k fun w => { w with stage := updAt w.stage q put }
  if o + bs.length = 64 then
    let it := (s.stew k).stage.getD q []
    s.produce q (byteAt it 0) (byteAt it 2) (leAt it 16 2) (slice it 20 44) false 0
  else s

/-- A staged work item: a write that ends bytes 24 to 31 enqueues it (R461). -/
def State.stageWork (s : State) (k o : Nat) (bs : Bytes) : State :=
  let s := s.updStew k fun w => { w with item := (w.item.take o ++ bs ++ w.item.drop (o + bs.length)).take 32 }
  if o + bs.length = 32 then s.stewEnqueue k (s.stew k).item else s

/-- A write to bytes that are no register; none where no such range holds the address. Item windows and what the device
shows are not written (R447). -/
def State.areaWrite (s : State) (who : Requester) (sp : Space) (off : Nat) (bs : Bytes) : Option State :=
  match windowAt who sp off with
  | some _ => some s
  | none =>
    match sp with
    | .bar0 pf =>
      if 0x2000 ≤ off ∧ off < 0x2400 then some (s.msixWrite pf (off - 0x2000) bs)
      else if 0x2400 ≤ off ∧ off < 0x2408 then some s
      else if 0x400000 ≤ off ∧ off < 0x401000 then some (s.mailboxWrite pf off bs true false)
      else if 0xC01000 ≤ off ∧ off < 0xD01000 then some s
      else none
    | .bar2 => if 0xC1000 ≤ off ∧ off < 0xC3000 then some s else none
    | .steward =>
      let k := match who with | .steward k => k.val | _ => 0
      if 0x1E000000 ≤ off ∧ off < 0x1E000700 ∧ off % 0x100 < 0x40 then some (s.stageItem k (off / 0x100 % 0x10) (off % 0x100) bs)
      else if 0x1F000000 ≤ off ∧ off < 0x1F004000 ∧ 0x40 ≤ off % 0x1000 ∧ off % 0x1000 < 0x60 then
        some (s.stageWork (off / 0x1000 % 4) (off % 0x1000 - 0x40) bs)
      else if 0x1F000000 ≤ off ∧ off < 0x1F004000 ∧ 0x60 ≤ off % 0x1000 ∧ off % 0x1000 < 0x80 then some s
      else none

/-- A write of one register, of one half of one, or to nothing (R593). -/
def State.writeOne (s : State) (who : Requester) (sp : Space) (off width v : Nat) : State :=
  match findReg who sp off with
  | none => s.hostFlag who 2
  | some (r, i, b) => s.writeReg who r i b width v

/-- The bytes of the mailbox that R602 guards: the ring and MB_DOORBELL. -/
def guarded (off : Nat) : Bool := decide (0x400000 ≤ off) && decide (off < 0x401004)

/-- A poisoned write to one register, to one half of one, or to nothing: POISONED, with RSV_WRITE where the data holds a reserved
bit (R21, R593). -/
def State.poisonedOne (s : State) (who : Requester) (sp : Space) (off width v : Nat) : State :=
  match findReg who sp off with
  | none => s.hostFlag who 2
  | some (r, i, b) =>
    let fv := fullValue (regPlace r) 0 b width v
    (s.rsvFlag who r i fv.2 fv.1).hostFlag who 3

/-- A poisoned write: in the guarded mailbox bytes by R602, else discarded with POISONED (R593). -/
def State.poisonedWrite (s : State) (who : Requester) (sp : Space) (off width v : Nat) : State :=
  let plain :=
    if (s.areaWrite who sp off (leBytes width v)).isSome then s.hostFlag who 3
    else if width = 8 ∧ !wideAt who sp off then
      (s.poisonedOne who sp off 4 (v % 2 ^ 32)).poisonedOne who sp (off + 4) 4 (v / 2 ^ 32)
    else s.poisonedOne who sp off width v
  match sp with
  | .bar0 pf =>
    if off < 0x401000 && guarded off then s.mailboxWrite pf off (leBytes width v) true true
    else if guarded off then s.doorbell pf v true true
    else plain
  | _ => plain

/-- A write of 4 or 8 aligned bytes; 8 bytes over two registers of 32 bits are two writes, the lower address first (R593).
A doorbell in 8 bytes is no single 4-byte write (R602). -/
def State.writeAccess (s : State) (who : Requester) (sp : Space) (off width v : Nat) : State :=
  match s.areaWrite who sp off (leBytes width v) with
  | some s => s
  | none =>
    if width = 8 ∧ !wideAt who sp off then
      let first := match sp with
        | .bar0 pf => if off = 0x401000 then s.doorbell pf v false false else s.writeOne who sp off 4 (v % 2 ^ 32)
        | _ => s.writeOne who sp off 4 (v % 2 ^ 32)
      first.writeOne who sp (off + 4) 4 (v / 2 ^ 32)
    else s.writeOne who sp off width v

/-- A write with its path and its poison (R593). -/
def State.writeRow (s : State) (who : Requester) (sp : Space) (off width v : Nat) (poisoned : Bool) : State :=
  let v := v % 2 ^ (8 * width)
  if !s.accessOk who sp off width then s
  else if poisoned then s.poisonedWrite who sp off width v
  else s.writeAccess who sp off width v

/-- REGISTER_WRITE (R15 to R17, R21, R24, R593). -/
def execRegisterWrite (who : Requester) (sp : Space) (off width v : Nat) (poisoned : Bool) (s : State) :
    Host.Outcome State Fault Refusal := s.done (s.writeRow who sp off width v poisoned).goOn

/-- READ_CLEAR (R15, R22). -/
def execReadClear (who : Requester) (sp : Space) (off width : Nat) (s : State) : Host.Outcome State Fault Refusal :=
  s.done (s.readRow who sp off width)

/-- LOW_HALF_READ (R23). -/
def execLowHalfRead (who : Requester) (sp : Space) (off : Nat) (s : State) : Host.Outcome State Fault Refusal :=
  s.done (s.readRow who sp off 4)

/-- GOV_VLIMIT_WRITE (R21, R82): the whole register, by the host or by Belfry. -/
def execGovVlimitWrite (who : Requester) (v : Nat) (s : State) : Host.Outcome State Fault Refusal :=
  s.done (if s.reaches who .bar2 then s.writeReg who .govVlimit 0 0 4 v else s)

end Sys2Proof.Machine
end

