-- ==== Sys2Proof/Machine/BelfryOps.lean ====
section
/-! DEFINITION. Belfry's orders (BLF, R618 to R644; R622, R638): sessions, the states in which an order is accepted, what
each does, and how it ends. Orders are served in arrival order, one at a time (R624). -/
namespace Sys2Proof.Machine

open Sys2Proof

/-! ### Sessions (R619 to R621) -/

/-- The Belfry TLS key exists and Belfry runs (R621). -/
def State.tlsUp (s : State) : Bool := s.belfry.running && (s.slotKey 6 0).isSome

/-- TLS_HANDSHAKE: mutual authentication under an operator anchor, at most 4 sessions. Without the key the connection is
reset. -/
def State.handshake (s : State) (session : Nat) (anchor : Bytes) (leafP384 chainOk version13 : Bool) : State :=
  if !s.tlsUp || decide (smbusSession ≤ session) then s.emit (.sessionClosed session)
  else if !leafP384 || !chainOk || !version13 || !s.belfry.install.anchors.contains anchor || decide (4 ≤ s.belfry.sessions.length) ||
      s.sessionOpen session || s.belfry.waiting.any (fun w => w.1 == session) then s.emit (.tlsAlert session)
  else { s with belfry := { s.belfry with sessions := s.belfry.sessions ++ [{ id := session }] } }

/-! ### The classes and states of Table BLF-2 -/

/-- A tenant is enrolled: TENANTED-IDLE, RUNNING, Muffled. -/
def tenantedState (st : DevState) : Bool := st == .tenantedIdle || st == .running || st == .muffled

/-- The states in which an order is accepted. -/
def orderAccepted (code : Nat) (st : DevState) : Bool :=
  if [0x01, 0x02, 0x24].contains code then true
  else if code = 0x13 then tenantedState st || st == .untenanted
  else if code = 0x14 then st == .tenantedIdle || st == .running
  else if code = 0x16 then st == .muffled
  else if code = 0x21 ∨ code = 0x23 then st == .untenanted
  else if code = 0x25 then tenantedState st
  else st != .locked

/-- The orders that a shutdown leaves (R627). -/
def afterShutdown (code : Nat) : Bool := [0x01, 0x02, 0x24, 0x15].contains code

/-- Why an order is refused before it acts. -/
def State.orderRefused (s : State) (code : Nat) : Bool :=
  ((s.dev.shutDown || s.dev.shutting.isSome) && !afterShutdown code) || !orderAccepted code s.dev.st

/-! ### HEALTH (Table BLF-3) -/

/-- Bits of a map of `n` units that a predicate selects. -/
def unitBits (n : Nat) (f : Nat → Bool) : Nat := (List.range n).foldl (fun v i => v + b2n (f i) * 2 ^ i) 0

/-- The HEALTH body. -/
def State.healthBody (s : State) : Bytes :=
  [BitVec.ofNat 8 (devCode s.dev.st)] ++
    ((List.range 4).map fun c => BitVec.ofNat 8 ((shownState (s.ctx c)) + b2n (paused (s.ctx c)) * 128)) ++
    [BitVec.ofNat 8 s.cad.vset,
     BitVec.ofNat 8 (s.cad.brake + b2n s.cad.throttleT * 4 + b2n s.cad.throttleP * 8 + b2n s.cad.avsFault * 16), 0] ++
    beBytes 2 s.cad.readPower ++ beBytes 2 (unsigned 16 s.cad.readTj) ++ beBytes 2 s.toc.count ++
    [BitVec.ofNat 8 (s.regView .belfry .tocStatus 0 % 64), 0] ++
    beBytes 8 (unitBits 48 fun p => (s.pan p).st == .retired) ++ beBytes 8 (unitBits 48 fun p => (s.pan p).suspect) ++
    beBytes 16 (unitBits 128 fun i => (s.pc i).st == 1 || (s.pc i).st == 2) ++
    [BitVec.ofNat 8 ((List.range 4).foldl (fun v q => v + (s.port q).link % 4 * 4 ^ q) 0),
     BitVec.ofNat 8 ((List.range 3).foldl (fun v k => v + (s.link k).st % 4 * 4 ^ k) 0),
     BitVec.ofNat 8 (bitsOf (s.regView .belfry .carQuad 0) 15 8), 0] ++
    beBytes 4 (s.regView .belfry .devBoot 0) ++ beBytes 4 s.keyhold.failcnt ++ [0, 0, 0, 0]

/-- The last `n` TELQ items still held, oldest first. -/
def State.telemetryBody (s : State) (n : Nat) : Bytes :=
  (s.belfry.telq.drop (s.belfry.telq.length - n)).flatMap (itemBytes 0)

/-! ### Registers that orders write (R626, R635) -/

/-- What the rules of R16 and R17 make of a value for a whole register; GOV_VLIMIT's ordering rule refuses. -/
def regFault (r : Reg) (v : Nat) : Option Status :=
  if unlisted r v then some .badEnum
  else if rsvNonzero r (2 ^ (regPlace r).width - 1) v then some .reservedNonzero
  else if r == .govVlimit && decide (bitsOf v 15 8 < bitsOf v 7 0) then some .refused
  else none

/-- Registers written together as one step: every value is judged first; one fault discards all; an address is announced once. -/
def State.writeAll (s : State) (l : List (Reg × Nat × Nat)) : Status × State :=
  match l.findSome? fun w => regFault w.1 w.2.2 with
  | some st => (st, s)
  | none =>
    (.ok, (l.foldl (fun s w => s.putReg .belfry w.1 w.2.1 0 ((regPlace w.1).width / 8) w.2.2) s).announceMoved s)

/-- The registers that ADDRESS_SET may write (R635). -/
def addressable (r : Reg) : Bool :=
  [Reg.inlPctl, .inlPvid, .inlUdpport, .inlMac, .inlIpv4, .inlIpv60, .inlIpv61, .inlIpv62, .inlIpv63, .inlRetry, .carLinkctl].contains r

/-- One write of ADDRESS_SET by its BAR2 offset. -/
def addressWrite (w : Nat × Nat) : Option (Reg × Nat × Nat) :=
  match findBar2 true w.1 with
  | some (r, i, b) => if addressable r && b == 0 && decide (w.2 < 2 ^ (regPlace r).width) then some (r, i, w.2) else none
  | none => none

/-! ### Eviction, shutdown, context stop (R627, R628, R639) -/

/-- Host commands in service that conflict with an eviction lose: they end with PREEMPTED (R186, R536, R639). `codes` names
those that have not begun to act. -/
def State.preempt (s : State) (codes : List Nat) (pfs : List Nat) : State :=
  pfs.foldl (fun s pf =>
    match (s.fn pf).serving with
    | some v =>
      let k := cmdCode v.cmd
      if codes.contains k then s.finish pf .preempted (s.failResult pf k) else s
    | none => s) s

/-- What an eviction does to what the host has under way: image loads, a wake or a MUFFLE in progress, commands in
service. -/
def State.evictHost (s : State) : State :=
  let s := (s.abortLoad false).preempt [0x04, 0x05, 0x10, 0x11, 0x40] (List.range 4)
  let s := match s.dev.wake with
    | some w => ({ s with dev := { s.dev with wake := none } }).answer w.by_ .preempted [BitVec.ofNat 8 (devCode s.dev.st)]
    | none => s
  match s.dev.muffling with
  | some a => ({ s with dev := { s.dev with muffling := none } }).answer a .preempted [BitVec.ofNat 8 (devCode s.dev.st)]
  | none => s

/-- An order that takes time is under way. -/
def State.orderWaits (s : State) (sess req code : Nat) : State :=
  { s with belfry := { s.belfry with waiting := s.belfry.waiting ++ [(sess, req, code)] } }

/-- EVICT (R628, R155): its reply comes when UNTENANTED is entered; one during a switch already under way joins it. -/
def State.evict (s : State) (sess req : Nat) : State :=
  if s.dev.st == .untenanted then s.belfryReply sess req 0x13 .ok []
  else
    let s := s.orderWaits sess req 0x13
    if s.dev.switch.isSome then s
    else ((s.evictHost).voidAll .preempted).beginSwitch .device

/-- SHUTDOWN (R627). -/
def State.shutdownOrder (s : State) (sess req : Nat) : State :=
  let s := (s.orderWaits sess req 0x12).preempt [0x04] (List.range 4)
  let s := if tenantedState s.dev.st && s.dev.switch.isNone then s.evictHost else s
  s.beginShutdown (.belfry sess req)

/-- CONTEXT_STOP (R628, R387): a live context is voided; a certificate already signed stands. -/
def State.contextStop (s : State) (sess req c : Nat) : State :=
  if 4 ≤ c then s.belfryReply sess req 0x14 .badEnum []
  else ((s.preempt [0x10, 0x11] [c]).voidCtx c .preempted).belfryReply sess req 0x14 .ok []

/-- The wake order (R149), a MAINTENANCE order: a wake or a switch that the host has begun wins. -/
def State.wakeOrder (s : State) (sess req : Nat) : State :=
  if s.dev.wake.isSome || s.dev.switch.isSome then s.belfryReply sess req 0x16 .preempted []
  else (s.orderWaits sess req 0x16).beginWake (.belfry sess req)

/-! ### Firmware and records (R630 to R634, R622) -/

/-- Bytes of a firmware slot. -/
def slotBytes : Nat := 2 ^ 24

/-- FW_STAGE: the slot that is not running. -/
def State.fwStage (s : State) (off flags : Nat) (data : Bytes) : Status × State :=
  if flags % 2 ^ 32 / 2 ≠ 0 then (.reservedNonzero, s)
  else if slotBytes < off + data.length ∨ 65528 < data.length then (.refused, s)
  else
    let k := 1 - s.dev.fwSlot
    (.ok, { s with belfry := { s.belfry with slots := updAt s.belfry.slots k fun x =>
      let x := if bitOf flags 0 then { x with erased := x.erased + 1, writes := [] } else x
      if data = [] then x else { x with writes := x.writes ++ [(off, data)] } } })

/-- FW_APPLY: the staging slot becomes active under the boot ROM's rule, and a system reset follows. ENROLL_TENANT in
service wins (R639). -/
def State.fwApply (s : State) (sess req : Nat) : State :=
  let k := 1 - s.dev.fwSlot
  let x := s.belfry.slots.getD k {}
  if (List.range 4).any fun pf => (s.fn pf).serving.any fun v => cmdCode v.cmd == 0x04 then s.belfryReply sess req 0x21 .preempted []
  else if !Config.fwVerifies k x.erased x.writes then s.belfryReply sess req 0x21 .sigFail []
  else
    (({ s with belfry := { s.belfry with active := k } }).belfryReply sess req 0x21 .ok []).systemReset 3 false

/-- The installation record is accepted (R622). -/
def installOk (r : Install) : Bool :=
  decide (1 ≤ r.anchors.length) && decide (r.anchors.length ≤ 4) &&
    (r.cert == [] || Config.certNames r.cert (deriveP384 Config.uds (ascii "VZ belfry")).2)

/-- It is written whole and takes effect at once. -/
def State.putInstall (s : State) (r : Install) : State := { s with belfry := { s.belfry with install := r } }

/-- A record as stored, cut to what a body holds (R623, R624). -/
def State.recordBody (s : State) (which : Nat) : Bytes :=
  let i := s.belfry.install
  (match which with
    | 0 => s.belfry.cal
    | 1 => s.belfry.repair
    | _ => Config.installForm i.anchors i.cert [i.ipv4, i.mask4, i.gw4, i.ipv6, i.plen6, i.gw6]).take 65536

/-- UNIT_RETURN (R634, R197, R549): a retired Pan begins its full Sweep, a retired pseudo-channel its return scrub. The order
code that waits carries kind and index. -/
def State.unitReturn (s : State) (sess req kind index : Nat) : State :=
  let wait (s : State) : State := s.orderWaits sess req (0x25 + 256 * (kind * 256 + index))
  match kind with
  | 1 =>
    if index < 48 ∧ (s.pan index).st = .retired then
      let s := s.updPan index fun q => { q with st := .returning, map := [], need := 0 }
      let s := s.unitStateEvent 1 index (panCode .retired) (panCode .returning) (b2n (s.pan index).suspect)
      wait ((List.range 384).foldl (fun s k => s.addTarget index k) s)
    else s.belfryReply sess req 0x25 .refused []
  | 2 =>
    if index < 128 ∧ (s.pc index).st = 2 ∧ s.tenanted then
      let s := s.setPc index 3 (s.pc index).cause
      wait { s with stores := { s.stores with
        returning := s.stores.returning ++ [index], scrub := if s.stores.scrub = 0 then 2 else s.stores.scrub } }
    else s.belfryReply sess req 0x25 .refused []
  | _ => s.belfryReply sess req 0x25 .badEnum []

/-! ### What each order does -/

/-- The code of an order (Table BLF-2). -/
def orderCode (o : BelfryOrder) : Nat :=
  match o with
  | .health => 0x01 | .telemetry _ => 0x02 | .powerCap _ => 0x10 | .governor .. => 0x11 | .shutdown => 0x12 | .evict => 0x13
  | .contextStop _ => 0x14 | .reset => 0x15 | .wake => 0x16 | .fwStage .. => 0x20 | .fwApply => 0x21 | .calWrite _ => 0x22
  | .repairWrite _ => 0x23 | .recordRead _ => 0x24 | .unitReturn .. => 0x25 | .addressSet _ => 0x30 | .installSet _ => 0x31

/-- An order that is done at once: its status, and with OK its body. -/
def State.replyNow (sess req code : Nat) (r : Status × State) (body : State → Bytes) : State :=
  r.2.belfryReply sess req code r.1 (if r.1 == .ok then body r.2 else [])

/-- ADDRESS_SET (R635). -/
def State.addressSet (s : State) (writes : List (Nat × Nat)) : Status × State :=
  match writes.mapM addressWrite with
  | some l => s.writeAll l
  | none => (.refused, s)

/-- The user calibration record (R632) and the user repair record (R633) replaced whole. -/
def State.putCal (s : State) (r : Bytes) : Status × State :=
  if calOk r then (.ok, { s with belfry := { s.belfry with cal := if erased r then [] else r } }) else (.refused, s)
def State.putRepair (s : State) (r : Bytes) : Status × State :=
  if (repairMap r).isSome then (.ok, { s with belfry := { s.belfry with repair := if erased r then [] else r } }) else (.refused, s)

/-- INSTALL_SET (R622): the reply leaves, then every session closes. -/
def State.installSet (s : State) (sess req : Nat) (r : Install) : State :=
  if installOk r then ((s.putInstall r).belfryReply sess req 0x31 .ok []).closeSessions else s.belfryReply sess req 0x31 .refused []

/-- An order's effect, in a state that accepts it. -/
def State.runOrder (s : State) (sess req : Nat) (o : BelfryOrder) : State :=
  let now (r : Status × State) (body : State → Bytes) : State := State.replyNow sess req (orderCode o) r body
  match o with
  | .health => now (.ok, s) State.healthBody
  | .telemetry n => now (if 1 ≤ n ∧ n ≤ 512 then .ok else .refused, s) fun s => s.telemetryBody n
  | .powerCap cap => now (s.writeAll [(.govCap, 0, cap % 2 ^ 32)]) fun _ => []
  | .governor ctl vlimit vfixed =>
    now (s.writeAll [(.govCtl, 0, ctl % 2 ^ 32), (.govVlimit, 0, vlimit % 2 ^ 32), (.govVfixed, 0, vfixed % 2 ^ 32)]) fun _ => []
  | .shutdown => s.shutdownOrder sess req
  | .evict => s.evict sess req
  | .contextStop c => s.contextStop sess req c
  | .reset => (s.belfryReply sess req 0x15 .ok []).systemReset 3 false
  | .wake => s.wakeOrder sess req
  | .fwStage off flags data => now (s.fwStage off flags data) fun _ => []
  | .fwApply => s.fwApply sess req
  | .calWrite r => now (s.putCal r) fun _ => []
  | .repairWrite r => now (s.putRepair r) fun _ => []
  | .recordRead which => now (if which < 3 then .ok else .badEnum, s) fun s => s.recordBody which
  | .unitReturn kind index => s.unitReturn sess req kind index
  | .addressSet writes => now (s.addressSet writes) fun _ => []
  | .installSet r => s.installSet sess req r

/-! ### How an order comes in and ends -/

/-- An order is served: in a state not listed for it, it completes with REFUSED. -/
def State.serveOrder (s : State) (sess req : Nat) (o : BelfryOrder) : State :=
  if s.orderRefused (orderCode o) then s.belfryReply sess req (orderCode o) .refused [] else s.runOrder sess req o

/-- An order over TLS is in service. -/
def State.orderBusy (s : State) : Bool := s.belfry.waiting.any fun w => w.1 != smbusSession

/-- Every order in service is a UNIT_RETURN, which an eviction ends (R556). -/
def State.returnsOnly (s : State) : Bool := s.belfry.waiting.all fun w => w.1 == smbusSession || w.2.2 % 256 == 0x25

/-- An order's turn is now: none is in service and none waits (R624); HEALTH and TELEMETRY are answered on arrival, and EVICT does not
wait for the return of a unit (DEDUCED from R556, log entry 42). -/
def State.orderTurn (s : State) (code : Nat) : Bool :=
  code == 0x01 || code == 0x02 || (!s.orderBusy && s.belfry.queue.isEmpty) || (code == 0x13 && s.returnsOnly)

/-- An order arrives on a session (R624): one of the last 64 completed is not run again, its reply is resent; one still
outstanding runs once; a seventeenth is BUSY (DESIGN CHOICE, log entry 42). It waits its turn while another is in service. -/
def State.order (s : State) (sess req : Nat) (o : BelfryOrder) : State :=
  match s.belfry.sessions.find? fun x => x.id == sess with
  | none => s
  | some x =>
    if !s.belfry.running then s
    else
      match x.cache.find? fun e => e.1 == req with
      | some e => s.emit (.belfry sess e.2)
      | none =>
        if x.outstanding.contains req then s
        else if 16 ≤ x.outstanding.length then s.emit (.belfry sess (belfryMsg req (orderCode o) (statusCode .busy) []))
        else
          let s := s.updSession sess fun x => { x with outstanding := x.outstanding ++ [req] }
          if !s.orderTurn (orderCode o) then
            { s with belfry := { s.belfry with queue := s.belfry.queue ++ [(sess, req, o)] } }
          else s.serveOrder sess req o

/-- The order that is served next of those that wait: the first, while none is in service, or an EVICT behind returns alone. -/
def State.nextOrder (s : State) : Option (Nat × Nat × BelfryOrder) :=
  if !s.orderBusy then s.belfry.queue.head?
  else if s.returnsOnly then s.belfry.queue.find? fun e => orderCode e.2.2 == 0x13
  else none

/-- The orders that wait are served as far as they can be. -/
def State.nextOrders (s : State) : Nat → State
  | 0 => s
  | n + 1 =>
    match s.nextOrder with
    | none => s
    | some e => (({ s with belfry := { s.belfry with queue := s.belfry.queue.erase e } }).serveOrder e.1 e.2.1 e.2.2).nextOrders n

/-- Orders that waited for what the device has now reached: an eviction at UNTENANTED, a POWER_DOWN in LOCKED or HELD once
VDDC is below 50 mV, the return of a Pan. -/
def State.endWaiting (s : State) (w : Nat × Nat × Nat) : State :=
  let code := w.2.2 % 256
  let unit := w.2.2 / 256
  if code = 0x13 then
    if s.dev.st == .untenanted && s.dev.switch.isNone then s.belfryAnswer w.1 w.2.1 .ok []
    else if s.dev.st == .locked then s.belfryAnswer w.1 w.2.1 .tamperAbort []
    else s
  else if code = 0x12 then
    if s.dev.st == .locked || s.dev.st == .held then
      if s.power.vddc == .off || s.power.vddc == .hold then s.belfryAnswer w.1 w.2.1 .ok [] else s
    else s
  else if code = 0x25 ∧ unit / 256 = 1 then
    match (s.pan (unit % 256)).st with
    | .returning => s
    | .retired => s.belfryAnswer w.1 w.2.1 .lastingFault []
    | _ => (s.persist (repairEntry 5 (unit % 256) 0 0 0)).belfryAnswer w.1 w.2.1 .ok []
  else s

/-- Every order that waited, in the order of their arrival. -/
def State.endOrders (s : State) : State := s.belfry.waiting.foldl State.endWaiting s

/-- What any command may have let go on: orders, credits, the mailbox. -/
def State.after (s : State) : State :=
  let s := s.endOrders
  (s.nextOrders s.belfry.queue.length).goOn

/-! ### Local orders over SMBus (R636, R638) -/

/-- A tamper latched in Muffled meets Belfry's next order (R151): the Stores are scrubbed, then LOCKED. -/
def State.meetTamper (s : State) : State :=
  if s.dev.muffledTamper && s.dev.wake.isNone then s.tamperScrub .device else s

/-- The local HEALTH order, which releases SMB_ALERT_N. -/
def State.localHealth (s : State) : State :=
  if !s.belfry.running then s
  else
    let s := (s.meetTamper).belfryReply smbusSession 0 0x01 .ok s.healthBody
    { s with power := { s.power with smbAlertN := true } }

/-- POWER_DOWN: SHUTDOWN; in LOCKED and in HELD it confirms that VDDC is below 50 mV. -/
def State.powerDown (s : State) : State :=
  if !s.belfry.running || s.belfry.waiting.any fun w => w.1 == smbusSession then s
  else if s.dev.muffledTamper then (s.meetTamper).belfryReply smbusSession 0 0x12 .tamperAbort []
  else if s.dev.st == .locked || s.dev.st == .held then (s.orderWaits smbusSession 0 0x12).endOrders
  else if s.dev.shutDown || s.dev.shutting.isSome then s.belfryReply smbusSession 0 0x12 .refused []
  else s.shutdownOrder smbusSession 0

/-- INSTALL: while no tenant is enrolled; LOCKED allows it not (R134). -/
def State.installLocal (s : State) (r : Install) : State :=
  if !s.belfry.running then s
  else
    let s := s.meetTamper
    if s.tenanted || s.dev.switch.isSome || s.dev.st == .locked || !installOk r then s.belfryReply smbusSession 0 0x31 .refused []
    else ((s.putInstall r).closeSessions).belfryReply smbusSession 0 0x31 .ok []

end Sys2Proof.Machine
end

