-- ==== Sys2Proof/Machine/BelfryRows.lean ====
section
/-! DEFINITION. The rows of Belfry (BLF): TLS orders, SMBus with MCTP and SPDM, the management port. The layouts of MCTP
control messages and of SPDM 1.2 messages are those of DSP0236 and DSP0274 (PRESUMED, log entry 43). -/
namespace Sys2Proof.Machine

open Sys2Proof

/-! ### Orders over TLS -/

/-- TLS_HANDSHAKE (R619 to R621). -/
def execTlsHandshake (session : Nat) (anchor : Bytes) (leafP384 chainOk version13 : Bool) (s : State) :
    Host.Outcome State Fault Refusal := s.done (s.handshake session anchor leafP384 chainOk version13)

/-- HEALTH (R625). -/
def execHealth (session request : Nat) (s : State) : Host.Outcome State Fault Refusal :=
  s.done (s.order session request .health).after

/-- TELEMETRY (R625). -/
def execTelemetry (session request : Nat) (n : Nat) (s : State) : Host.Outcome State Fault Refusal :=
  s.done (s.order session request (.telemetry n)).after

/-- POWER_CAP (R626). -/
def execPowerCap (session request : Nat) (cap : Nat) (s : State) : Host.Outcome State Fault Refusal :=
  s.done (s.order session request (.powerCap cap)).after

/-- GOVERNOR (R626). -/
def execGovernor (session request : Nat) (ctl vlimit vfixed : Nat) (s : State) : Host.Outcome State Fault Refusal :=
  s.done (s.order session request (.governor ctl vlimit vfixed)).after

/-- SHUTDOWN (R627, R643). -/
def execShutdown (session request : Nat) (s : State) : Host.Outcome State Fault Refusal :=
  s.done (s.order session request .shutdown).after

/-- EVICT (R628). -/
def execEvict (session request : Nat) (s : State) : Host.Outcome State Fault Refusal :=
  s.done (s.order session request .evict).after

/-- CONTEXT_STOP (R628). -/
def execContextStop (session request : Nat) (c : Nat) (s : State) : Host.Outcome State Fault Refusal :=
  s.done (s.order session request (.contextStop c)).after

/-- RESET (R629): the reply leaves just before the reset. -/
def execReset (session request : Nat) (s : State) : Host.Outcome State Fault Refusal :=
  s.done (s.order session request .reset).after

/-- WAKE_ORDER (R149). -/
def execWakeOrder (session request : Nat) (s : State) : Host.Outcome State Fault Refusal :=
  s.done (s.order session request .wake).after

/-- FW_STAGE (R630). -/
def execFwStage (session request : Nat) (off flags : Nat) (data : Bytes) (s : State) : Host.Outcome State Fault Refusal :=
  s.done (s.order session request (.fwStage off flags data)).after

/-- FW_APPLY (R631). -/
def execFwApply (session request : Nat) (s : State) : Host.Outcome State Fault Refusal :=
  s.done (s.order session request .fwApply).after

/-- CAL_WRITE (R632). -/
def execCalWrite (session request : Nat) (rec_ : Bytes) (s : State) : Host.Outcome State Fault Refusal :=
  s.done (s.order session request (.calWrite rec_)).after

/-- REPAIR_WRITE (R633). -/
def execRepairWrite (session request : Nat) (rec_ : Bytes) (s : State) : Host.Outcome State Fault Refusal :=
  s.done (s.order session request (.repairWrite rec_)).after

/-- RECORD_READ (R624): 0 the calibration record, 1 the repair record, 2 the installation record. -/
def execRecordRead (session request : Nat) (which : Nat) (s : State) : Host.Outcome State Fault Refusal :=
  s.done (s.order session request (.recordRead which)).after

/-- UNIT_RETURN (R634). -/
def execUnitReturn (session request : Nat) (kind index : Nat) (s : State) : Host.Outcome State Fault Refusal :=
  s.done (s.order session request (.unitReturn kind index)).after

/-- ADDRESS_SET (R635). -/
def execAddressSet (session request : Nat) (writes : List (Nat × Nat)) (s : State) : Host.Outcome State Fault Refusal :=
  s.done (s.order session request (.addressSet writes)).after

/-- INSTALL_SET (R622): the reply leaves, then every session closes. -/
def execInstallSet (session request : Nat) (rec_ : Install) (s : State) : Host.Outcome State Fault Refusal :=
  s.done (s.order session request (.installSet rec_)).after

/-- UNLISTED_ORDER (R623): a header that breaks Table BLF-1 closes the session, an unlisted ORDER is ILLEGAL_OPCODE. -/
def execUnlistedOrder (session : Nat) (header : Bytes) (s : State) : Host.Outcome State Fault Refusal :=
  let listed : List Nat := [0x01, 0x02, 0x10, 0x11, 0x12, 0x13, 0x14, 0x15, 0x16, 0x20, 0x21, 0x22, 0x23, 0x24, 0x25, 0x30, 0x31]
  let bad := header.length != 16 || slice header 0 3 != [0x56, 0x42, 1] || decide (65536 < beAt header 8 4) || beAt header 12 4 != 0
  s.done (if !s.sessionOpen session then s
    else if bad then
      ({ s with belfry := { s.belfry with
        sessions := s.belfry.sessions.filter fun x => x.id != session
        queue := s.belfry.queue.filter fun w => w.1 != session } }).emit (.sessionClosed session)
    else if listed.contains (byteAt header 3) then s
    else s.belfryReply session (beAt header 4 4) (byteAt header 3) .illegalOpcode [])

/-! ### Local orders and SMBus -/

/-- LOCAL_HEALTH (R638, R636). -/
def execLocalHealth (s : State) : Host.Outcome State Fault Refusal := s.done s.localHealth

/-- POWER_DOWN (R638). -/
def execPowerDown (s : State) : Host.Outcome State Fault Refusal := s.done s.powerDown.after

/-- INSTALL (R622). -/
def execInstall (rec_ : Install) (s : State) : Host.Outcome State Fault Refusal := s.done (s.installLocal rec_)

/-- SMBUS_ALERT_RESPONSE (R636): while SMB_ALERT_N is asserted, Belfry answers with its address. -/
def execSmbusAlertResponse (s : State) : Host.Outcome State Fault Refusal :=
  s.done (if s.belfry.running && !s.power.smbAlertN then s.emit (.smbus [BitVec.ofNat 8 (2 * (0x58 + s.power.smbAddr))]) else s)

/-- The answer to an MCTP control request: completion code and data after the command's header. -/
def mctpAnswer (eid : Nat) (msg : Bytes) : Bytes :=
  let cmd := byteAt msg 2
  [0x00, BitVec.ofNat 8 (byteAt msg 1 % 32), BitVec.ofNat 8 cmd] ++
    (match cmd with
    | 0x01 => [0, 0, BitVec.ofNat 8 eid, 0]
    | 0x02 => [0, BitVec.ofNat 8 eid, 0, 0]
    | 0x04 =>
      let t := byteAt msg 3
      if t = 0xFF ∨ t = 0 ∨ t = 5 ∨ t = 0x7E then
        let v := Config.mctpVersions t
        [0, BitVec.ofNat 8 (v.length / 4)] ++ v
      else [0x80]
    | 0x05 => [0, 3, 0x00, 0x05, 0x7E]
    | _ => [0x05])

/-- MCTP_CONTROL (R636): Set and Get Endpoint ID, Get Version Support, Get Message Type Support. -/
def execMctpControl (msg : Bytes) (s : State) : Host.Outcome State Fault Refusal :=
  s.done (if !s.belfry.running || byteAt msg 0 != 0 || byteAt msg 1 < 128 then s
    else
      let eid := byteAt msg 4
      let set := byteAt msg 2 == 0x01 && byteAt msg 3 % 4 < 2 && eid != 0 && eid != 0xFF
      let s := if set then { s with belfry := { s.belfry with eid := eid } } else s
      s.emit (.smbus (mctpAnswer s.belfry.eid msg)))

/-! ### SPDM (R637) -/

/-- An ERROR response. -/
def spdmError (code data : Nat) (ext : Bytes) : Bytes := [0x12, 0x7F, BitVec.ofNat 8 code, BitVec.ofNat 8 data] ++ ext

/-- A request answered, with what it does to Belfry's SPDM state. -/
def State.spdmReply (s : State) (f : Belfry → Belfry) (resp : Bytes) : State :=
  ({ s with belfry := f s.belfry }).emit (.smbus (0x05 :: resp))

/-- A request of version 1.2 with its code and its least length, while Belfry runs; errors otherwise. `need` is the state of
the negotiation that it takes. -/
def State.spdm (s : State) (msg : Bytes) (code len need : Nat) (run : State → State) : State :=
  if !s.belfry.running || byteAt msg 1 != code then s
  else if byteAt msg 0 ≠ (if code = 0x84 then 0x10 else 0x12) then s.spdmReply id (spdmError 0x41 0 [])
  else if msg.length < len then s.spdmReply id (spdmError 0x01 0 [])
  else if s.belfry.spdm < need then s.spdmReply id (spdmError 0x04 0 [])
  else run s

/-- The certificate chain of slot 0 in DSP0274's form. -/
def certChain : Bytes :=
  let body := Config.rootDigest ++ Config.belfryCert
  leBytes 2 (4 + body.length) ++ [0, 0] ++ body

/-- The message that a responder's signature covers: the prefix of SPDM 1.2, the context, and the digest of the transcript. -/
def spdmSigned (context : String) (transcript : Bytes) : Bytes :=
  let c := ascii context
  (List.replicate 4 (ascii "dmtf-spdm-v1.2.*")).flatten ++ List.replicate (36 - c.length) 0 ++ c ++ Crypto.sha384 transcript

/-- A response with its signature under the Belfry TLS key; ResponseNotReady while there is no key, or no randomness. -/
def State.spdmSign (s : State) (context : String) (transcript resp : Bytes) (f : Belfry → Belfry) : State :=
  let late := spdmError 0x42 0 Config.spdmNotReady
  match s.slotKey 6 0 with
  | none => s.spdmReply id late
  | some k =>
    match s.ecSign Crypto.cP384 (beNat k) (spdmSigned context (transcript ++ resp)) with
    | none => s.spdmReply id late
    | some (sig, s) => s.spdmReply f (resp ++ sig)

/-- A measurement block (R637, DSP0274): index, DMTF type and value. -/
def measBlock (index typ : Nat) (v : Bytes) : Bytes :=
  [BitVec.ofNat 8 index, 0x01] ++ leBytes 2 (3 + v.length) ++ [BitVec.ofNat 8 typ] ++ leBytes 2 v.length ++ v

/-- The four blocks: d_rom, d_steward, d_belfry, and the slot that runs. -/
def State.measBlocks (s : State) : List Bytes :=
  [measBlock 1 0x00 (s.keyhold.fw.getD 0 []), measBlock 2 0x01 (s.keyhold.fw.getD 1 []), measBlock 3 0x01 s.belfry.digest,
   measBlock 4 0x83 [BitVec.ofNat 8 s.dev.fwSlot, BitVec.ofNat 8 (b2n s.dev.fwFallback)]]

/-- GET_VERSION: begins anew. -/
def execGetVersion (msg : Bytes) (s : State) : Host.Outcome State Fault Refusal :=
  let resp : Bytes := [0x10, 0x04, 0, 0, 0, 1, 0x00, 0x12]
  s.done (s.spdm msg 0x84 4 0 fun s =>
    s.spdmReply (fun b => { b with spdm := 1, vca := msg ++ resp, chain := [], meas := [] }) resp)

/-- GET_CAPABILITIES: certificates, challenge, signed measurements. -/
def execGetCapabilities (msg : Bytes) (s : State) : Host.Outcome State Fault Refusal :=
  let resp : Bytes := [0x12, 0x61, 0, 0, 0, BitVec.ofNat 8 (Config.spdmLimit 0), 0, 0] ++ leBytes 4 0x16 ++
    leBytes 4 (Config.spdmLimit 1) ++ leBytes 4 (Config.spdmLimit 2)
  s.done (s.spdm msg 0xE1 20 1 fun s =>
    if s.belfry.spdm ≠ 1 then s.spdmReply id (spdmError 0x04 0 [])
    else s.spdmReply (fun b => { b with spdm := 2, vca := b.vca ++ msg ++ resp }) resp)

/-- NEGOTIATE_ALGORITHMS: ECDSA P-384 and SHA-384. -/
def execNegotiateAlgorithms (msg : Bytes) (s : State) : Host.Outcome State Fault Refusal :=
  let pick (off bit : Nat) : Nat := if bitOf (leAt msg off 4) bit then 2 ^ bit else 0
  let resp : Bytes := [0x12, 0x63, 0, 0] ++ leBytes 2 36 ++ [BitVec.ofNat 8 (byteAt msg 6 % 2), 0] ++ leBytes 4 4 ++ leBytes 4 (pick 8 7) ++
    leBytes 4 (pick 12 1) ++ List.replicate 12 0 ++ [0, 0, 0, 0]
  s.done (s.spdm msg 0xE3 32 2 fun s =>
    if s.belfry.spdm ≠ 2 then s.spdmReply id (spdmError 0x04 0 [])
    else s.spdmReply (fun b => { b with spdm := 3, vca := b.vca ++ msg ++ resp }) resp)

/-- GET_DIGESTS. -/
def execGetDigests (msg : Bytes) (s : State) : Host.Outcome State Fault Refusal :=
  let resp : Bytes := [0x12, 0x01, 0, 1] ++ Crypto.sha384 certChain
  s.done (s.spdm msg 0x81 4 3 fun s => s.spdmReply (fun b => { b with chain := msg ++ resp }) resp)

/-- GET_CERTIFICATE: slot 0. -/
def execGetCertificate (msg : Bytes) (s : State) : Host.Outcome State Fault Refusal :=
  let off := leAt msg 4 2
  let part := (certChain.drop off).take (leAt msg 6 2)
  let resp : Bytes := [0x12, 0x02, 0, 0] ++ leBytes 2 part.length ++ leBytes 2 (certChain.length - off - part.length) ++ part
  s.done (s.spdm msg 0x82 8 3 fun s =>
    if byteAt msg 2 % 16 ≠ 0 ∨ certChain.length ≤ off then s.spdmReply id (spdmError 0x01 0 [])
    else s.spdmReply (fun b => { b with chain := b.chain ++ msg ++ resp }) resp)

/-- CHALLENGE, signed with the Belfry TLS key. -/
def execChallenge (msg : Bytes) (s : State) : Host.Outcome State Fault Refusal :=
  s.done (s.spdm msg 0x83 36 3 fun s =>
    let kind := byteAt msg 3
    if byteAt msg 2 ≠ 0 ∨ !(kind = 0 ∨ kind = 1 ∨ kind = 0xFF) then s.spdmReply id (spdmError 0x01 0 [])
    else
      let blocks := if kind = 1 then s.measBlocks.take 1 else s.measBlocks
      let sum := if kind = 0 then [] else Crypto.sha384 (blocks.flatMap id)
      let resp : Bytes := [0x12, 0x03, 0, 1] ++ Crypto.sha384 certChain ++ slice msg 4 32 ++ sum ++ [0, 0]
      s.spdmSign "responder-challenge_auth signing" (s.belfry.vca ++ s.belfry.chain ++ msg) resp fun b =>
        { b with chain := [] })

/-- GET_MEASUREMENTS: one block, all, or their number; signed where the request asks for it. -/
def execGetMeasurements (msg : Bytes) (s : State) : Host.Outcome State Fault Refusal :=
  s.done (s.spdm msg 0xE0 4 3 fun s =>
    let signed := bitOf (byteAt msg 2) 0
    let op := byteAt msg 3
    if (signed ∧ (msg.length < 37 ∨ byteAt msg 36 % 16 ≠ 0)) ∨ (4 < op ∧ op ≠ 0xFF) then s.spdmReply id (spdmError 0x01 0 [])
    else
      let blocks := if op = 0xFF then s.measBlocks else if op = 0 then [] else (s.measBlocks.drop (op - 1)).take 1
      let rec_ := blocks.flatMap id
      let body (nonce : Bytes) : Bytes :=
        [0x12, 0x60, if op = 0 then 4 else 0, 0, BitVec.ofNat 8 blocks.length] ++ leBytes 3 rec_.length ++ rec_ ++ nonce ++ [0, 0]
      if signed then
        s.spdmSign "responder-measurements signing" (s.belfry.vca ++ s.belfry.meas ++ msg) (body (slice msg 4 32)) fun b =>
          { b with meas := [] }
      else
        match s.draw 0 32 with
        | none => s.spdmReply id (spdmError 0x42 0 Config.spdmNotReady)
        | some (n, s) => s.spdmReply (fun b => { b with meas := b.meas ++ msg ++ body n }) (body n))

/-! ### The management port (R618, R453) -/

/-- The port's addresses: the fuses' MAC, the installation record's IP addresses. -/
def State.mgmtNet (s : State) : NetAddr :=
  let i := s.belfry.install
  { mac := beBytes 6 (Config.mac 4), ip4 := beBytes 4 i.ipv4, ip6 := beBytes 16 i.ipv6, on4 := i.ipv4 != 0, on6 := i.ipv6 != 0 }

/-- The reset of a TCP segment (RFC 9293); none for a reset. -/
def tcpReset (a : ReplyAddr) (d : Bytes) : Option Bytes :=
  let fl := byteAt d 13
  if bitOf fl 2 || d.length < 20 then none
  else
    let len := d.length - byteAt d 12 / 16 * 4 + b2n (bitOf fl 1) + b2n (bitOf fl 0)
    let seq := if bitOf fl 4 then beAt d 8 4 else 0
    let ack := if bitOf fl 4 then 0 else (beAt d 4 4 + len) % 2 ^ 32
    let b (c : Nat) : Bytes := slice d 2 2 ++ slice d 0 2 ++ beBytes 4 seq ++ beBytes 4 ack ++
      [0x50, if bitOf fl 4 then 0x04 else 0x14, 0, 0] ++ beBytes 2 c ++ [0, 0]
    some (ipReply a 6 64 (b (inetCheck (pseudoSum a.dst a.src 6 20 + sum16 (b 0)))))

/-- The answer to a frame at the management port: ARP, Neighbour Solicitation, echo; the reset of a connection to any TCP
port but 7,411, and to that one while the TLS key does not exist (R621). -/
def State.mgmtAnswer (s : State) (f : Bytes) : Option Bytes :=
  let na := s.mgmtNet
  match ethParse f with
  | none => none
  | some e =>
    (((arpAnswer na e).or (ndAnswer na e)).or (echoAnswer na e)).or
      (match ipIn na e with
      | some (a, proto, d) =>
        if proto == 6 && (beAt d 2 2 != 7411 || !s.tlsUp) && inetCheck (pseudoSum a.src a.dst 6 d.length + sum16 d) == 0 then tcpReset a d
        else none
      | none => none)

/-- MANAGEMENT_PORT_FRAME (R618): a good frame to the port's own address, to a group that asks for it, or to all. -/
def execManagementPortFrame (frame : Bytes) (s : State) : Host.Outcome State Fault Refusal :=
  let m := s.mgmtNet.mac
  let fcs := leNat (frame.drop (frame.length - 4)) == crc32 (frame.take (frame.length - 4))
  let dst := frame.take 6
  let mine := dst == m || dst == List.replicate 6 0xFF || dst == [0x33, 0x33, 0xFF] ++ s.mgmtNet.ip6.drop 13
  s.done (if !s.belfry.running || s.dev.belfryPort != 2 || frame.length < 64 || !fcs || !mine then s
    else match s.mgmtAnswer frame with
      | some r => s.emit (.mgmt r)
      | none => s)

/-- BELFRY_PORT_LINK (R453): a change of state, with its event of kind 3. -/
def execBelfryPortLink (st : Fin 3) (s : State) : Host.Outcome State Fault Refusal :=
  s.done (if !s.belfry.running || s.dev.belfryPort == st.val then s
    else ({ s with dev := { s.dev with belfryPort := st } }).linkStateEvent 3 0 st)

end Sys2Proof.Machine
end

