-- ==== Sys2Proof/Machine/HarvestRows.lean ====
section
/-! DEFINITION. The rows of a harvest's course (HVS, LDG, INL) that may end a command or let one go on: items delivered, adds,
unmasking, settling, frames and what serves them. -/
namespace Sys2Proof.Machine

open Sys2Proof

/-! ### Items at shared ports (R199, R200, Table PAN-4) -/

/-- An earlier item in flight holds this one back: one of the same channel of the same source; of a shared port, one to the
same receive channel. -/
def itemBefore (l : List FabItem) (n : Nat) (it : FabItem) : Bool :=
  (l.take n).any fun e => e.src == it.src && e.srcChan == it.srcChan && (it.src != 0xFF || (e.dest == it.dest && e.dchan == it.dchan))

/-- An item at a shared port: Keyhold's step reports and Assay records, Carillon's services; a RECEIPT request of a program
is discarded and counted (R427); the items of the other services have no layout and no effect here (log entry 44). -/
def State.portTakes (s : State) (it : FabItem) : State :=
  let c := it.ctx.getD 0
  match it.kind with
  | 2 => s.bump .inlStray 0 31 0 1
  | 3 => s.serviceItem it.src it.dchan it.rchan it.data
  | 4 =>
    if it.dchan ≠ 2 ∨ it.ctx.isNone then s
    else if leAt it.data 0 4 = 0x100 then s.reportHere c it.src it.data
    else if leAt it.data 0 4 = 1 ∨ leAt it.data 0 4 = 2 then s.assayRecord c it.data
    else s
  | _ => s

/-- ITEM_DELIVER: the n-th item in flight arrives, unless an earlier one of its channel is still to come or its receive
channel has no room. -/
def State.deliver (s : State) (n : Nat) : State :=
  match s.fabric.inflight[n]? with
  | none => s
  | some it =>
    if itemBefore s.fabric.inflight n it then s
    else
      let took := { s with fabric := { s.fabric with inflight := s.fabric.inflight.eraseIdx n } }
      if it.kind = 0 then (took.deliverPan it).getD s else took.portTakes it

/-- ITEM_DELIVER (R199, R200, R205). -/
def execItemDeliver (n : Nat) (s : State) : Host.Outcome State Fault Refusal := s.done (s.deliver n).after

/-- ASSAY_RECORD (R265). -/
def execAssayRecord (c : Fin 4) (p : Fin 48) (rec_ : Bytes) (s : State) : Host.Outcome State Fault Refusal :=
  s.done (if (s.pansOf c).contains p then s.assayRecord c rec_ else s).after

/-- STEP_REPORT (R397). -/
def execStepReport (c : Fin 4) (p : Fin 48) (rec_ : Bytes) (s : State) : Host.Outcome State Fault Refusal :=
  s.done (s.reportHere c p rec_).after

/-! ### Adds, freeze, shares, unmasking, settling -/

/-- ADD_COMMIT (R287). -/
def execAddCommit (c : Fin 4) (slot : Nat) (tally : Option (Nat × Upset)) (s : State) : Host.Outcome State Fault Refusal :=
  s.done (s.addCommit c slot tally).after

/-- ADD_BACKOUT (R287). -/
def execAddBackout (c : Fin 4) (slot : Nat) (chunk : Nat) (readFails : Bool) (s : State) : Host.Outcome State Fault Refusal :=
  s.done (s.addBackout c slot chunk readFails).after

/-- FREEZE_ITEM_SERVE (R369). -/
def execFreezeItemServe (c : Fin 4) (slot : Nat) (tally : Option (Nat × Upset)) (s : State) : Host.Outcome State Fault Refusal :=
  s.done (s.freezeServe c slot tally).after

/-- SHARE_WINDOW_EXPIRE (R372, R354): the window's time runs while the context is TALLIED and not PAUSED, as the toll ticks
count it. -/
def execShareWindowExpire (c : Fin 4) (s : State) : Host.Outcome State Fault Refusal :=
  let x := s.ctx c
  s.done (if x.st == .tallied && x.windowOn && x.windowLeft == 0 && !paused x then s.endPhase c else s).after

/-- LEDGER_SEED_ISSUE (R310). -/
def execLedgerSeedIssue (c : Fin 4) (s : State) : Host.Outcome State Fault Refusal := s.done (s.issueSeed c).after

/-- MASK_ENTRY_DONE (R311). -/
def execMaskEntryDone (p : Fin 48) (ups : List (Nat × Upset)) (s : State) : Host.Outcome State Fault Refusal :=
  s.done (s.maskEntryDone p ups).after

/-- RECON_ATTEMPT_START (R319). -/
def execReconAttemptStart (c : Fin 4) (owner : Nat) (s : State) : Host.Outcome State Fault Refusal :=
  s.done (s.reconStart c owner).after

/-- RECON_ATTEMPT_DONE (R321). -/
def execReconAttemptDone (c : Fin 4) (owner : Nat) (tally : Option (Nat × Upset)) (s : State) : Host.Outcome State Fault Refusal :=
  s.done (s.reconDone c owner tally).after

/-- RESULT_SEAL (R401). -/
def execResultSeal (c : Fin 4) (tally : Option (Nat × Upset)) (s : State) : Host.Outcome State Fault Refusal :=
  s.done (s.resultSeal c tally).after

/-! ### Inlets -/

/-- FRAME_RECEIVE (R422): a Vezil frame, or one that nothing takes. `fec` is the number of codewords that RS-FEC corrected in it,
none where one could not be. -/
def execFrameReceive (port : Fin 4) (frame : Bytes) (fec : Option Nat) (s : State) : Host.Outcome State Fault Refusal :=
  s.done (s.rxFrame port frame fec fun k => k == RxKind.vezil || k == RxKind.other).after

/-- ARP_REQUEST (R414). -/
def execArpRequest (port : Fin 4) (frame : Bytes) (fec : Option Nat) (s : State) : Host.Outcome State Fault Refusal :=
  s.done (s.rxFrame port frame fec fun k => k == RxKind.arp).after

/-- NEIGHBOR_SOLICITATION (R414). -/
def execNeighborSolicitation (port : Fin 4) (frame : Bytes) (fec : Option Nat) (s : State) : Host.Outcome State Fault Refusal :=
  s.done (s.rxFrame port frame fec fun k => k == RxKind.nd).after

/-- ECHO_REQUEST (R414). -/
def execEchoRequest (port : Fin 4) (frame : Bytes) (fec : Option Nat) (s : State) : Host.Outcome State Fault Refusal :=
  s.done (s.rxFrame port frame fec fun k => k == RxKind.echo).after

/-- CHUNK_SERVE (R365, R426). -/
def execChunkServe (id : Nat) (tally : Option (Nat × Upset)) (s : State) : Host.Outcome State Fault Refusal :=
  s.done (match s.frameOf id with
    | some f => if f.share then s else s.chunkServe f tally
    | none => s).after

/-- SHARE_BATCH_SERVE (R371). -/
def execShareBatchServe (id : Nat) (tally : Option (Nat × Upset)) (s : State) : Host.Outcome State Fault Refusal :=
  s.done (match s.frameOf id with
    | some f => if f.share && s.frameTurn f then s.shareServe f tally else s
    | none => s).after

/-- SLOT_CONTEXT_SETUP (R425). -/
def execSlotContextSetup (id : Nat) (s : State) : Host.Outcome State Fault Refusal :=
  s.done (match s.frameOf id with
    | some f => if s.frameTurn f then s.frameSetup f else s
    | none => s).after

/-- INLET_LINK_STATE (R435). -/
def execInletLinkState (port : Fin 4) (st : Fin 3) (s : State) : Host.Outcome State Fault Refusal :=
  s.done (s.inletLink port st).after

/-- STATS_SECOND (R433). -/
def execStatsSecond (s : State) : Host.Outcome State Fault Refusal := s.done s.statsSecond.after

/-- ENQUEUE_WAIT_EXPIRE (R464): ports 0 to 3 are the Inlet ports, 4 + n the host path of function n. -/
def execEnqueueWaitExpire (port : Fin 8) (s : State) : Host.Outcome State Fault Refusal := s.done (s.waitExpire port).after

/-- RINGER_DONE (R463). -/
def execRingerDone (k : Fin 4) (handle : Nat) (s : State) : Host.Outcome State Fault Refusal :=
  s.done (if s.ringerOpen then s.rngDone k handle else s).after

end Sys2Proof.Machine
end

