-- ==== Sys2Proof/Machine/Mailbox.lean ====
section
/-! DEFINITION. The rows of the host interface (HST): the mailbox commands, each an entry presented whole with its doorbell,
the raw writes of ring and doorbell, resends, DMA completions, function resets and bus mastering. A command's own chapter
has its checks and its effect: see `State.serveCmd` and `State.runCmd`. -/
namespace Sys2Proof.Machine

open Sys2Proof

/-- IMAGE_LOAD (R171). -/
def execImageLoad (pf : Fin 4) (addr len : Nat) (dma : Dma) (s : State) : Host.Outcome State Fault Refusal :=
  s.done (s.present pf (.imageLoad addr len) dma).after

/-- IMAGE_PARTIAL (R175). -/
def execImagePartial (pf : Fin 4) (addr len ctx : Nat) (dma : Dma) (s : State) : Host.Outcome State Fault Refusal :=
  s.done (s.present pf (.imagePartial addr len ctx) dma).after

/-- ATTEST (R513). -/
def execAttest (pf : Fin 4) (outAddr outLen nonceLen nonceAddr : Nat) (dma : Dma) (s : State) :
    Host.Outcome State Fault Refusal := s.done (s.present pf (.attest outAddr outLen nonceLen nonceAddr) dma).after

/-- ENROLL_TENANT (R518). -/
def execEnrollTenant (pf : Fin 4) (addr len : Nat) (dma : Dma) (s : State) : Host.Outcome State Fault Refusal :=
  s.done (s.present pf (.enrollTenant addr len) dma).after

/-- WEIGHTS_LOAD (R522). -/
def execWeightsLoad (pf : Fin 4) (addr len : Nat) (dma : Dma) (s : State) : Host.Outcome State Fault Refusal :=
  s.done (s.present pf (.weightsLoad addr len) dma).after

/-- TENANT_LEAVE (R524). -/
def execTenantLeave (pf : Fin 4) (s : State) : Host.Outcome State Fault Refusal :=
  s.done (s.present pf .tenantLeave .pending).after

/-- HARVEST_OPEN (R356). -/
def execHarvestOpen (pf : Fin 4) (addr len : Nat) (dma : Dma) (s : State) : Host.Outcome State Fault Refusal :=
  s.done (s.present pf (.harvestOpen addr len) dma).after

/-- ROSTER_LOAD (R362). -/
def execRosterLoad (pf : Fin 4) (addr len : Nat) (dma : Dma) (s : State) : Host.Outcome State Fault Refusal :=
  s.done (s.present pf (.rosterLoad addr len) dma).after

/-- HOST_INGEST (R605). -/
def execHostIngest (pf : Fin 4) (addr len count replyAddr form : Nat) (dma : Dma) (s : State) :
    Host.Outcome State Fault Refusal := s.done (s.present pf (.hostIngest addr len count replyAddr form) dma).after

/-- TALLY_FREEZE (R369). -/
def execTallyFreeze (pf : Fin 4) (s : State) : Host.Outcome State Fault Refusal :=
  s.done (s.present pf .tallyFreeze .pending).after

/-- SHARES_SUBMIT (R371). -/
def execSharesSubmit (pf : Fin 4) (addr len count replyAddr : Nat) (dma : Dma) (s : State) :
    Host.Outcome State Fault Refusal := s.done (s.present pf (.sharesSubmit addr len count replyAddr) dma).after

/-- SETTLE (R375). -/
def execSettle (pf : Fin 4) (s : State) : Host.Outcome State Fault Refusal := s.done (s.present pf .settle .pending).after

/-- RELEASE_FETCH (R376, R609). -/
def execReleaseFetch (pf : Fin 4) (resAddr resLen certAddr certLen : Nat) (s : State) : Host.Outcome State Fault Refusal :=
  s.done (s.present pf (.releaseFetch resAddr resLen certAddr certLen) .pending).after

/-- HARVEST_VOID (R382). -/
def execHarvestVoid (pf : Fin 4) (s : State) : Host.Outcome State Fault Refusal :=
  s.done (s.present pf .harvestVoid .pending).after

/-- HARVEST_CLOSE (R377). -/
def execHarvestClose (pf : Fin 4) (s : State) : Host.Outcome State Fault Refusal :=
  s.done (s.present pf .harvestClose .pending).after

/-- QUAD_FORM (R567). -/
def execQuadForm (pf : Fin 4) (mask : Nat) (s : State) : Host.Outcome State Fault Refusal :=
  s.done (s.present pf (.quadForm mask) .pending).after

/-- QUAD_DISSOLVE (R570). -/
def execQuadDissolve (pf : Fin 4) (s : State) : Host.Outcome State Fault Refusal :=
  s.done (s.present pf .quadDissolve .pending).after

/-- MUFFLE (R146). -/
def execMuffle (pf : Fin 4) (s : State) : Host.Outcome State Fault Refusal := s.done (s.present pf .muffle .pending).after

/-- WAKE (R149). -/
def execWake (pf : Fin 4) (s : State) : Host.Outcome State Fault Refusal := s.done (s.present pf .wake .pending).after

/-- DEBUG_UNLOCK (R527). -/
def execDebugUnlock (pf : Fin 4) (addr len : Nat) (dma : Dma) (s : State) : Host.Outcome State Fault Refusal :=
  s.done (s.present pf (.debugUnlock addr len) dma).after

/-- MAILBOX_WRITE (R602). -/
def execMailboxWrite (pf : Fin 4) (off : Nat) (data : Bytes) (whole bad : Bool) (s : State) :
    Host.Outcome State Fault Refusal := s.done (s.mailboxWrite pf off data whole bad)

/-- MB_DOORBELL (R599, R602). -/
def execMbDoorbell (pf : Fin 4) (t : Nat) (single bad : Bool) (s : State) : Host.Outcome State Fault Refusal :=
  s.done (s.doorbell pf t single bad).after

/-- MB_RESEND (R601). -/
def execMbResend (pf : Fin 4) (seq : Nat) (s : State) : Host.Outcome State Fault Refusal := s.done (s.resend pf seq)

/-- DMA_COMPLETION (R595). -/
def execDmaCompletion (pf : Fin 4) (data : Option Bytes) (s : State) : Host.Outcome State Fault Refusal :=
  s.done (s.dmaCompletion pf data).after

/-- FUNCTION_LEVEL_RESET (R610). -/
def execFunctionLevelReset (pf : Fin 4) (s : State) : Host.Outcome State Fault Refusal := s.done (s.flr pf).after

/-- BUS_MASTER_CLEAR (R611). -/
def execBusMasterClear (pf : Fin 4) (d3hot : Bool) (s : State) : Host.Outcome State Fault Refusal :=
  s.done (s.masterClear pf d3hot).after

/-- BUS_MASTER_SET (R611). -/
def execBusMasterSet (pf : Fin 4) (d0 : Bool) (s : State) : Host.Outcome State Fault Refusal := s.done (s.masterSet pf d0).after

end Sys2Proof.Machine
end

