-- ==== Sys2Proof/Machine/PowerRows.lean ====
section
/-! DEFINITION. The rows of supply, boot and tamper response (PKG, BOO, KEY) that a command may wait for, and those of what
Keyhold's randomness, self-tests, scrubs and slices let go on. -/
namespace Sys2Proof.Machine

open Sys2Proof

/-- BOOT_STEP_COMPLETE (R138): at UNTENANTED the mailbox is serviced (R145). -/
def execBootStepComplete (step : Fin 11) (mask : Nat) (rows : List (Nat × Nat × RowFail)) (s : State) :
    Host.Outcome State Fault Refusal := s.done (s.bootStepDone step mask rows).after

/-- THERMTRIP (R112). -/
def execThermtrip (s : State) : Host.Outcome State Fault Refusal := s.done s.thermtrip.after

/-- VDDC_BROWNOUT (R121). -/
def execVddcBrownout (s : State) : Host.Outcome State Fault Refusal := s.done s.vddcBrownout.after

/-- VDDC_DISCHARGED (R111, R146). -/
def execVddcDischarged (s : State) : Host.Outcome State Fault Refusal := s.done s.vddcDischarged.after

/-- VDDC_HOLD_END (R111). -/
def execVddcHoldEnd (s : State) : Host.Outcome State Fault Refusal := s.done s.vddcHoldEnd.after

/-- VDDC_GOOD (R118). -/
def execVddcGood (s : State) : Host.Outcome State Fault Refusal := s.done s.vddcGood.after

/-- VDDC_START_TIMEOUT (R118). -/
def execVddcStartTimeout (s : State) : Host.Outcome State Fault Refusal := s.done s.vddcStartTimeout.after

/-- VDDC_DISCHARGE_FAIL (R129). -/
def execVddcDischargeFail (s : State) : Host.Outcome State Fault Refusal := s.done s.vddcDischargeFail.after

/-- WAKE_COMPLETE (R149). -/
def execWakeComplete (s : State) : Host.Outcome State Fault Refusal := s.done s.wakeComplete.after

/-- TAMPER_TRIP (R501 to R503). -/
def execTamperTrip (sensor : Nat) (s : State) : Host.Outcome State Fault Refusal := s.done (s.tamperTrip sensor).after

/-- TAMPER_COUNTER_BURN (R474). -/
def execTamperCounterBurn (s : State) : Host.Outcome State Fault Refusal := s.done s.tamperBurn.after

/-- KAT_TICK (R662). -/
def execKatTick (pass : Bool) (s : State) : Host.Outcome State Fault Refusal := s.done (s.katTick pass).after

/-- HEALTH_WINDOW (R493, R494): what waited for the DRBG goes on. -/
def execHealthWindow (raw : BitVec 1024) (s : State) : Host.Outcome State Fault Refusal :=
  s.done (s.noiseWindow raw).drbgBack.after

/-- DRBG_RESEED (R496). -/
def execDrbgReseed (s : State) : Host.Outcome State Fault Refusal := s.done s.reseedDue.drbgBack.after

/-- SCRUB_COMPLETE (R550). -/
def execScrubComplete (mismatch : List Nat) (s : State) : Host.Outcome State Fault Refusal :=
  s.done (s.scrubComplete mismatch).after

/-- PC_RETURN_DONE (R549). -/
def execPcReturnDone (pc : Fin 128) (pass : Bool) (s : State) : Host.Outcome State Fault Refusal :=
  s.done (s.pcReturnDone pc pass).after

/-- LOGIC_SELF_TEST_DONE (R659). -/
def execLogicSelfTestDone (p : Fin 48) (pass : Bool) (s : State) : Host.Outcome State Fault Refusal :=
  s.done (s.selfTestDone p pass).after

/-- What waited for the slice completes with the restored content, in its order (R209). -/
def State.runHeld (s : State) : State :=
  if s.sweep.slice.isSome then s
  else
    s.sweep.held.foldl (fun s h =>
      match h with
      | .debugRead p a ups => s.dbgWord p a ups
      | .readReq r ups => s.readReq r ups
      | .partialSum c src m => s.mergeSum c src m
      | .backout c src slot => s.backoutIn c src slot
      | .addBackout c slot chunk fails => s.addBackout c slot chunk fails) { s with sweep := { s.sweep with held := [] } }

/-- SWEEP_SLICE_END (R654): the last one of a Pan's return may end Belfry's order. -/
def execSweepSliceEnd (fails : List RowFail) (lost : List Nat) (corrected : Nat) (scratch : Bool) (s : State) :
    Host.Outcome State Fault Refusal := s.done (s.sliceEnds fails lost corrected scratch).runHeld.after

/-- IMAGE_STAGED (R172). -/
def execImageStaged (s : State) : Host.Outcome State Fault Refusal := s.done s.imageStaged.after

/-- IMAGE_APPLY (R173). -/
def execImageApply (s : State) : Host.Outcome State Fault Refusal := s.done s.imageApply.after

/-- PAN_QUIESCED (R194). -/
def execPanQuiesced (p : Fin 48) (s : State) : Host.Outcome State Fault Refusal := s.done (s.panQuiesced p).after

/-- QUIESCE_TIMEOUT (R182). -/
def execQuiesceTimeout (p : Fin 48) (s : State) : Host.Outcome State Fault Refusal := s.done (s.quiesceTimeout p).after

/-- ROUTE_SYNC_DRAINED (R204): the ports reopen; Pans that waited for it go on. -/
def execRouteSyncDrained (s : State) : Host.Outcome State Fault Refusal :=
  s.done ((List.range 48).foldl State.settleReturn s.syncDone.settlePans).after

/-- DBG_STEP (R528): a trap of the instruction may end a harvest. -/
def execDbgStep (s : State) : Host.Outcome State Fault Refusal := s.done (s.dbgCmd 3 0 []).after

end Sys2Proof.Machine
end

