-- ==== Sys2Proof/Machine/QuadRows.lean ====
section
/-! DEFINITION. The rows of Carillon's records (CAR, R556 to R590; HVS, R354 to R380; LDG, R405). A row whose effect may end
a command, or let one go on, ends with the mailbox going on. -/
namespace Sys2Proof.Machine

open Sys2Proof

/-! ### The rows -/

/-- What a row answers. -/
abbrev Ans := Host.Outcome State Fault Refusal

/-- CARILLON_LINK_STATE (R558, R560). A formation may go on with it. -/
def execCarillonLinkState (link : Fin 3) (st : Fin 3) (peer : Fin 4) (s : State) : Ans :=
  s.done (s.linkState link st peer).formAdvance

/-- FORM_LINK_TIMEOUT (R567): while a named link is not UP. -/
def execFormLinkTimeout (s : State) : Ans :=
  s.done (match s.car.forming with
    | some f => if f.linksUp then s else s.formFails .linkDown true
    | none => s)

/-- FORM (R567). -/
def execForm (rec_ : Bytes) (s : State) : Ans := s.done (s.formRecord rec_)

/-- MEMBERSHIP (R568). -/
def execMembership (rec_ : Bytes) (s : State) : Ans := s.done (s.membershipRecord rec_).after

/-- MEMBERSHIP_TIMEOUT (R568, R569). -/
def execMembershipTimeout (pos : Fin 4) (s : State) : Ans := s.done (s.membershipTimeout pos).after

/-- DISSOLVE (R570). -/
def execDissolve (rec_ : Bytes) (s : State) : Ans := s.done (s.dissolveRecord rec_).after

/-- CARILLON_SERVICE_ITEM (R575). -/
def execCarillonServiceItem (p : Fin 48) (service : Fin 3) (rchan : Fin 64) (item : Bytes) (s : State) : Ans :=
  s.done (s.serviceItem p service rchan item)

/-- POSTED_WRITE (R576). -/
def execPostedWrite (rec_ : Bytes) (s : State) : Ans := s.done (s.postedWrite rec_)

/-- WRITE_ACK (R575). -/
def execWriteAck (rec_ : Bytes) (s : State) : Ans := s.done (s.writeAck rec_)

/-- POSTED_NOTICE (R576). -/
def execPostedNotice (rec_ : Bytes) (s : State) : Ans := s.done (s.postedNotice rec_)

/-- READ_REQ (R577). -/
def execReadReq (rec_ : Bytes) (ups : List (Nat × Upset)) (s : State) : Ans := s.done (s.readReq rec_ ups)

/-- READ_DATA (R577). -/
def execReadData (rec_ : Bytes) (s : State) : Ans := s.done (s.readData rec_)

/-- CLEAR (R578). -/
def execClear (rec_ : Bytes) (s : State) : Ans := s.done (s.clearRecord rec_)

/-- EPOCH (R574). -/
def execEpoch (rec_ : Bytes) (s : State) : Ans := s.done (s.epochRecord rec_)

/-- EPOCH_ADVANCE (R573, R574). -/
def execEpochAdvance (s : State) : Ans := s.done s.advanceEpoch

/-- TRANSFER_TIMEOUT (R580). -/
def execTransferTimeout (kind : Fin 3) (tag : Nat) (s : State) : Ans := s.done (s.transferTimeout kind tag).after

/-- QUAD_PARAMS (R359). -/
def execQuadParams (rec_ : Bytes) (s : State) : Ans := s.done (s.takeCtl rec_ .params fun c src m s => s.paramsIn c src m).after

/-- QUAD_ROSTER (R362). -/
def execQuadRoster (rec_ : Bytes) (s : State) : Ans := s.done (s.takeCtl rec_ .roster fun c src m s => s.rosterIn c src m).after

/-- QUAD_STAGED (R378). -/
def execQuadStaged (rec_ : Bytes) (s : State) : Ans :=
  s.done (s.takeCtl rec_ .staged fun c src m s =>
    if s.isTreble && ctxLive (s.ctx c).st then s.partReported c (leAt m 0 4) src else s).after

/-- QUAD_GO (R378). -/
def execQuadGo (rec_ : Bytes) (s : State) : Ans :=
  s.done (s.takeCtl rec_ .go fun c src m s => if src = s.treble ∧ (s.ctx c).st == .gathering then s.goSlot c (leAt m 0 4) else s).after

/-- QUAD_FREEZE_LIST (R369). -/
def execQuadFreezeList (rec_ : Bytes) (s : State) : Ans :=
  s.done (s.takeCtl rec_ .freezeList fun c src m s => if src = s.treble then s.applyFreeze c m else s).after

/-- QUAD_SHARE_FORWARD (R379): kept at the Treble while its ledger has not been merged. -/
def execQuadShareForward (rec_ : Bytes) (s : State) : Ans :=
  s.done (s.takeCtl rec_ .shareForward fun c _ m s =>
    if s.isTreble && sharePhase (s.ctx c) then s.updCtx c fun x => holdShare x m else s).after

/-- QUAD_REVEAL (R379, R391). -/
def execQuadReveal (rec_ : Bytes) (tally : Option (Nat × Upset)) (s : State) : Ans :=
  s.done (s.takeCtl rec_ .reveal fun c _ m s => if sharePhase (s.ctx c) then (s.revealShare c m tally).2 else s).after

/-- QUAD_LEDGER_SEED (R324). -/
def execQuadLedgerSeed (rec_ : Bytes) (s : State) : Ans :=
  s.done (s.takeCtl rec_ .ledgerSeed fun c src m s =>
    if src = s.treble ∧ (s.ctx c).st == .unmasking then s.memberSeed c m else s).after

/-- QUAD_MASK_DONE (R311). -/
def execQuadMaskDone (rec_ : Bytes) (s : State) : Ans :=
  s.done (s.takeCtl rec_ .maskDone fun c src m s =>
    if s.isTreble && (s.ctx c).st == .unmasking then
      ((s.updCtx c fun x => maskDone x (leAt m 0 4) src 0xFF).maskRemoved c (leAt m 0 4)).checkUnmasked c
    else s).after

/-- QUAD_PARTIAL_SUM (R379). -/
def execQuadPartialSum (rec_ : Bytes) (s : State) : Ans := 
  s.done (s.takeCtl rec_ .partialSum fun c src m s => s.mergeSum c src m).after

/-- QUAD_LEDGER_BYTES (R390, R395). -/
def execQuadLedgerBytes (rec_ : Bytes) (s : State) : Ans :=
  s.done (s.takeCtl rec_ .ledgerBytes fun c src m s => if s.isTreble then s.mergeBytes c src m else s.bytesIn c src m).after

/-- QUAD_STEP_TOKEN (R397). -/
def execQuadStepToken (rec_ : Bytes) (s : State) : Ans := s.done (s.takeCtl rec_ .stepToken fun c src m s => s.stepTokenIn c src m).after

/-- QUAD_STEP_REPORT (R397). -/
def execQuadStepReport (rec_ : Bytes) (s : State) : Ans :=
  s.done (s.takeCtl rec_ .stepReport fun c src m s => if s.isTreble then s.stepReport c src (byteAt m 0) (byteAt m 1 == 1) (m.drop 2) else s).after

/-- QUAD_GATE_REPORT (R405). -/
def execQuadGateReport (rec_ : Bytes) (s : State) : Ans := s.done (s.takeCtl rec_ .gateReport fun c src m s => s.gateIn c src m).after

/-- QUAD_RELEASE_COPY (R405). -/
def execQuadReleaseCopy (rec_ : Bytes) (s : State) : Ans := s.done (s.takeCtl rec_ .releaseCopy fun c src m s => s.copyIn c src m).after

/-- EPOCH_DIRTY (R576). -/
def execEpochDirty (rec_ : Bytes) (s : State) : Ans :=
  s.done (s.takeCtl rec_ .epochDirty fun _ src m s =>
    if s.isTreble then s.markDirty (leAt m 0 4)
    else if src = s.treble then s.updJob fun j => if j.epoch == leAt m 0 4 then { j with dirty := true } else j
    else s).after

/-- JOB_KEY_EXCHANGE (R572). -/
def execJobKeyExchange (rec_ : Bytes) (s : State) : Ans := s.done (s.exchangeRecord rec_).after

/-- QUAD_OPEN_ANSWER (R359, R362). -/
def execQuadOpenAnswer (rec_ : Bytes) (s : State) : Ans :=
  s.done (s.takeCtl rec_ .openAnswer fun c src m s => s.answerIn c src m).after

/-- QUAD_DONE (R378). -/
def execQuadDone (rec_ : Bytes) (s : State) : Ans :=
  s.done (s.takeCtl rec_ .done fun c src m s =>
    if s.isTreble && (s.ctx c).st == .gathering then s.doneReported c (leAt m 0 4) src else s).after

/-- QUAD_ADDED (R378). -/
def execQuadAdded (rec_ : Bytes) (s : State) : Ans :=
  s.done (s.takeCtl rec_ .added fun c src m s =>
    if src = s.treble ∧ (s.ctx c).st == .gathering then s.commitAdd c (leAt m 0 4) else s).after

/-- QUAD_BACKOUT (R378). -/
def execQuadBackout (rec_ : Bytes) (s : State) : Ans :=
  s.done (s.takeCtl rec_ .backout fun c src m s => s.backoutIn c src (leAt m 0 4)).after

/-- QUAD_RELEASE_ACK (R405). -/
def execQuadReleaseAck (rec_ : Bytes) (s : State) : Ans :=
  s.done (s.takeCtl rec_ .releaseAck fun c src _ s =>
    let s := s.ctlAnswered src [.releaseCopy]
    if s.isTreble && (s.ctx c).st == .settling then
      (s.updCtx c fun x => { x with acks := if x.acks.contains src then x.acks else x.acks ++ [src] }).releaseIfAcked c
    else s).after

/-- QUAD_COMMIT (R405). -/
def execQuadCommit (rec_ : Bytes) (s : State) : Ans := s.done (s.takeCtl rec_ .commit fun c src _ s => s.commitIn c src).after

/-- QUAD_VOID (R380). -/
def execQuadVoid (rec_ : Bytes) (s : State) : Ans := s.done (s.takeCtl rec_ .void fun c src m s => s.voidIn c src m).after

/-- QUAD_PAUSED_FLAG (R354, R581). -/
def execQuadPausedFlag (rec_ : Bytes) (s : State) : Ans :=
  s.done (s.takeCtl rec_ .pausedFlag fun c src m s => s.pausedIn c src m).after

end Sys2Proof.Machine
end

