-- ==== Sys2Proof/Machine/Dispatch.lean ====
section
/-! DEFINITION. The meaning of each command, one arm per constructor. -/
namespace Sys2Proof.Machine

def exec (i : Instr) (s : State) : Host.Outcome State Fault Refusal :=
  match i with
  | .registerWrite who sp off width v poisoned => Sys2Proof.Machine.execRegisterWrite who sp off width v poisoned s
  | .readClear who sp off width => Sys2Proof.Machine.execReadClear who sp off width s
  | .lowHalfRead who sp off => Sys2Proof.Machine.execLowHalfRead who sp off s
  | .govVlimitWrite who v => Sys2Proof.Machine.execGovVlimitWrite who v s
  | .tollTick => Sys2Proof.Machine.execTollTick s
  | .governorRun power tj => Sys2Proof.Machine.execGovernorRun power tj s
  | .thermalCapRepeat => Sys2Proof.Machine.execThermalCapRepeat s
  | .avsTransactionDone ok mv => Sys2Proof.Machine.execAvsTransactionDone ok mv s
  | .readingUpdate power tj kettle => Sys2Proof.Machine.execReadingUpdate power tj kettle s
  | .powerOnReset => Sys2Proof.Machine.execPowerOnReset s
  | .auxPowerLoss => Sys2Proof.Machine.execAuxPowerLoss s
  | .belfryResetRelease => Sys2Proof.Machine.execBelfryResetRelease s
  | .sysRstAssert => Sys2Proof.Machine.execSysRstAssert s
  | .sysRstRelease pos bootSrc smb cool => Sys2Proof.Machine.execSysRstRelease pos bootSrc smb cool s
  | .thermalWaitEnd => Sys2Proof.Machine.execThermalWaitEnd s
  | .bootStepComplete step mask rows => Sys2Proof.Machine.execBootStepComplete step mask rows s
  | .perstAssert => Sys2Proof.Machine.execPerstAssert s
  | .pcieLinkUp => Sys2Proof.Machine.execPcieLinkUp s
  | .thermtrip => Sys2Proof.Machine.execThermtrip s
  | .vddkLoss => Sys2Proof.Machine.execVddkLoss s
  | .vddcBrownout => Sys2Proof.Machine.execVddcBrownout s
  | .vddcDischarged => Sys2Proof.Machine.execVddcDischarged s
  | .vddcHoldEnd => Sys2Proof.Machine.execVddcHoldEnd s
  | .vddcRestart => Sys2Proof.Machine.execVddcRestart s
  | .vddcGood => Sys2Proof.Machine.execVddcGood s
  | .vddcStartTimeout => Sys2Proof.Machine.execVddcStartTimeout s
  | .vddcDischargeFail => Sys2Proof.Machine.execVddcDischargeFail s
  | .muffle pf => Sys2Proof.Machine.execMuffle pf s
  | .wake pf => Sys2Proof.Machine.execWake pf s
  | .wakeComplete => Sys2Proof.Machine.execWakeComplete s
  | .imageLoad pf addr len dma => Sys2Proof.Machine.execImageLoad pf addr len dma s
  | .imagePartial pf addr len ctx dma => Sys2Proof.Machine.execImagePartial pf addr len ctx dma s
  | .imageStaged => Sys2Proof.Machine.execImageStaged s
  | .imageApply => Sys2Proof.Machine.execImageApply s
  | .panQuiesced p => Sys2Proof.Machine.execPanQuiesced p s
  | .quiesceTimeout p => Sys2Proof.Machine.execQuiesceTimeout p s
  | .routeSyncDrained => Sys2Proof.Machine.execRouteSyncDrained s
  | .itemDeliver n => Sys2Proof.Machine.execItemDeliver n s
  | .strayEventFlush p => Sys2Proof.Machine.execStrayEventFlush p s
  | .routePickup p chan => Sys2Proof.Machine.execRoutePickup p chan s
  | .nop p w => Sys2Proof.Machine.execNop p w s
  | .add p w => Sys2Proof.Machine.execAdd p w s
  | .sub p w => Sys2Proof.Machine.execSub p w s
  | .and p w => Sys2Proof.Machine.execAnd p w s
  | .or p w => Sys2Proof.Machine.execOr p w s
  | .xor p w => Sys2Proof.Machine.execXor p w s
  | .shl p w => Sys2Proof.Machine.execShl p w s
  | .shr p w => Sys2Proof.Machine.execShr p w s
  | .mul p w => Sys2Proof.Machine.execMul p w s
  | .addi p w => Sys2Proof.Machine.execAddi p w s
  | .ldi p w => Sys2Proof.Machine.execLdi p w s
  | .cmp p w => Sys2Proof.Machine.execCmp p w s
  | .ld p w ups => Sys2Proof.Machine.execLd p w ups s
  | .st p w => Sys2Proof.Machine.execSt p w s
  | .jmp p w => Sys2Proof.Machine.execJmp p w s
  | .br p w => Sys2Proof.Machine.execBr p w s
  | .jr p w => Sys2Proof.Machine.execJr p w s
  | .loop p w => Sys2Proof.Machine.execLoop p w s
  | .halt p w => Sys2Proof.Machine.execHalt p w s
  | .haltComplete p => Sys2Proof.Machine.execHaltComplete p s
  | .rdst p w => Sys2Proof.Machine.execRdst p w s
  | .clst p w => Sys2Proof.Machine.execClst p w s
  | .agset p w => Sys2Proof.Machine.execAgset p w s
  | .agscl p w => Sys2Proof.Machine.execAgscl p w s
  | .agadv p w => Sys2Proof.Machine.execAgadv p w s
  | .agrd p w => Sys2Proof.Machine.execAgrd p w s
  | .send p w => Sys2Proof.Machine.execSend p w s
  | .recv p w => Sys2Proof.Machine.execRecv p w s
  | .recvComplete p => Sys2Proof.Machine.execRecvComplete p s
  | .waitt p w => Sys2Proof.Machine.execWaitt p w s
  | .waittComplete p => Sys2Proof.Machine.execWaittComplete p s
  | .sigt p w => Sys2Proof.Machine.execSigt p w s
  | .kcfg p w => Sys2Proof.Machine.execKcfg p w s
  | .kcfgApply p => Sys2Proof.Machine.execKcfgApply p s
  | .kout p w => Sys2Proof.Machine.execKout p w s
  | .kload p w => Sys2Proof.Machine.execKload p w s
  | .shiftInDone p ups => Sys2Proof.Machine.execShiftInDone p ups s
  | .krun p w => Sys2Proof.Machine.execKrun p w s
  | .kpass p w => Sys2Proof.Machine.execKpass p w s
  | .kdrain p w => Sys2Proof.Machine.execKdrain p w s
  | .kdrainComplete p => Sys2Proof.Machine.execKdrainComplete p s
  | .gseed p w => Sys2Proof.Machine.execGseed p w s
  | .gexp p w => Sys2Proof.Machine.execGexp p w s
  | .gstream p w => Sys2Proof.Machine.execGstream p w s
  | .cadd p w => Sys2Proof.Machine.execCadd p w s
  | .csub p w => Sys2Proof.Machine.execCsub p w s
  | .cfield p w => Sys2Proof.Machine.execCfield p w s
  | .cnoise p w => Sys2Proof.Machine.execCnoise p w s
  | .cnoiseComplete p => Sys2Proof.Machine.execCnoiseComplete p s
  | .cdeq p w => Sys2Proof.Machine.execCdeq p w s
  | .cfuse p w => Sys2Proof.Machine.execCfuse p w s
  | .fence p w => Sys2Proof.Machine.execFence p w s
  | .fenceComplete p => Sys2Proof.Machine.execFenceComplete p s
  | .fencec p w => Sys2Proof.Machine.execFencec p w s
  | .fencecComplete p => Sys2Proof.Machine.execFencecComplete p s
  | .synci p w => Sys2Proof.Machine.execSynci p w s
  | .sti p w => Sys2Proof.Machine.execSti p w s
  | .undefinedOpcode p word => Sys2Proof.Machine.execUndefinedOpcode p word s
  | .engineTrap p e kind word => Sys2Proof.Machine.execEngineTrap p e kind word s
  | .assayRecord c p rec => Sys2Proof.Machine.execAssayRecord c p rec s
  | .addCommit c slot tally => Sys2Proof.Machine.execAddCommit c slot tally s
  | .addBackout c slot chunk readFails => Sys2Proof.Machine.execAddBackout c slot chunk readFails s
  | .storeWriteAck p => Sys2Proof.Machine.execStoreWriteAck p s
  | .storeAccess addr data len err => Sys2Proof.Machine.execStoreAccess addr data len err s
  | .ledgerSeedIssue c => Sys2Proof.Machine.execLedgerSeedIssue c s
  | .maskEntryDone p ups => Sys2Proof.Machine.execMaskEntryDone p ups s
  | .reconAttemptStart c owner => Sys2Proof.Machine.execReconAttemptStart c owner s
  | .reconAttemptDone c owner tally => Sys2Proof.Machine.execReconAttemptDone c owner tally s
  | .curveRequest r => Sys2Proof.Machine.execCurveRequest r s
  | .curveOpComplete unit => Sys2Proof.Machine.execCurveOpComplete unit s
  | .harvestOpen pf addr len dma => Sys2Proof.Machine.execHarvestOpen pf addr len dma s
  | .rosterLoad pf addr len dma => Sys2Proof.Machine.execRosterLoad pf addr len dma s
  | .hostIngest pf addr len count replyAddr form dma => Sys2Proof.Machine.execHostIngest pf addr len count replyAddr form dma s
  | .tallyFreeze pf => Sys2Proof.Machine.execTallyFreeze pf s
  | .freezeItemServe c slot tally => Sys2Proof.Machine.execFreezeItemServe c slot tally s
  | .sharesSubmit pf addr len count replyAddr dma => Sys2Proof.Machine.execSharesSubmit pf addr len count replyAddr dma s
  | .shareWindowExpire c => Sys2Proof.Machine.execShareWindowExpire c s
  | .settle pf => Sys2Proof.Machine.execSettle pf s
  | .releaseFetch pf resAddr resLen certAddr certLen => Sys2Proof.Machine.execReleaseFetch pf resAddr resLen certAddr certLen s
  | .harvestVoid pf => Sys2Proof.Machine.execHarvestVoid pf s
  | .harvestClose pf => Sys2Proof.Machine.execHarvestClose pf s
  | .stepReport c p rec => Sys2Proof.Machine.execStepReport c p rec s
  | .resultSeal c tally => Sys2Proof.Machine.execResultSeal c tally s
  | .frameReceive port frame fec => Sys2Proof.Machine.execFrameReceive port frame fec s
  | .chunkServe id tally => Sys2Proof.Machine.execChunkServe id tally s
  | .shareBatchServe id tally => Sys2Proof.Machine.execShareBatchServe id tally s
  | .slotContextSetup id => Sys2Proof.Machine.execSlotContextSetup id s
  | .arpRequest port frame fec => Sys2Proof.Machine.execArpRequest port frame fec s
  | .neighborSolicitation port frame fec => Sys2Proof.Machine.execNeighborSolicitation port frame fec s
  | .echoRequest port frame fec => Sys2Proof.Machine.execEchoRequest port frame fec s
  | .inletLinkState port st => Sys2Proof.Machine.execInletLinkState port st s
  | .statsSecond => Sys2Proof.Machine.execStatsSecond s
  | .enqueueWaitExpire port => Sys2Proof.Machine.execEnqueueWaitExpire port s
  | .queueItemProduce q item badParity upset lag fLag => Sys2Proof.Machine.execQueueItemProduce q item badParity upset lag fLag s
  | .queueItemRead who q lag upset => Sys2Proof.Machine.execQueueItemRead who q lag upset s
  | .queueMark who q upset => Sys2Proof.Machine.execQueueMark who q upset s
  | .queueRewind who q lag upset => Sys2Proof.Machine.execQueueRewind who q lag upset s
  | .queueRelease who q upset => Sys2Proof.Machine.execQueueRelease who q upset s
  | .queueReset who q lag upset => Sys2Proof.Machine.execQueueReset who q lag upset s
  | .qCtlWrite who q v lag => Sys2Proof.Machine.execQCtlWrite who q v lag s
  | .telemetryTick => Sys2Proof.Machine.execTelemetryTick s
  | .ringerReady k t deadline => Sys2Proof.Machine.execRingerReady k t deadline s
  | .ringerDelay k t wake => Sys2Proof.Machine.execRingerDelay k t wake s
  | .ringerSleep k t => Sys2Proof.Machine.execRingerSleep k t s
  | .ringerDispatch k => Sys2Proof.Machine.execRingerDispatch k s
  | .ringerWait k t mask => Sys2Proof.Machine.execRingerWait k t mask s
  | .ringerGet k mask => Sys2Proof.Machine.execRingerGet k mask s
  | .ringerDone k handle => Sys2Proof.Machine.execRingerDone k handle s
  | .ringerEnqueue k item => Sys2Proof.Machine.execRingerEnqueue k item s
  | .threadWake t => Sys2Proof.Machine.execThreadWake t s
  | .keyregLoad holder src attr => Sys2Proof.Machine.execKeyregLoad holder src attr s
  | .keyregDeliver holder engine index => Sys2Proof.Machine.execKeyregDeliver holder engine index s
  | .keyregAttrChange holder attr => Sys2Proof.Machine.execKeyregAttrChange holder attr s
  | .keyregRelease holder => Sys2Proof.Machine.execKeyregRelease holder s
  | .remaskTick => Sys2Proof.Machine.execRemaskTick s
  | .healthWindow raw => Sys2Proof.Machine.execHealthWindow raw s
  | .drbgGenerate stream n => Sys2Proof.Machine.execDrbgGenerate stream n s
  | .drbgReseed => Sys2Proof.Machine.execDrbgReseed s
  | .rngWaitTimeout stream => Sys2Proof.Machine.execRngWaitTimeout stream s
  | .tamperTrip sensor => Sys2Proof.Machine.execTamperTrip sensor s
  | .tamperCounterBurn => Sys2Proof.Machine.execTamperCounterBurn s
  | .tocsinArm mesh tamper0 tamper1 => Sys2Proof.Machine.execTocsinArm mesh tamper0 tamper1 s
  | .katTick pass => Sys2Proof.Machine.execKatTick pass s
  | .attest pf outAddr outLen nonceLen nonceAddr dma => Sys2Proof.Machine.execAttest pf outAddr outLen nonceLen nonceAddr dma s
  | .enrollTenant pf addr len dma => Sys2Proof.Machine.execEnrollTenant pf addr len dma s
  | .weightsLoad pf addr len dma => Sys2Proof.Machine.execWeightsLoad pf addr len dma s
  | .tenantLeave pf => Sys2Proof.Machine.execTenantLeave pf s
  | .debugUnlock pf addr len dma => Sys2Proof.Machine.execDebugUnlock pf addr len dma s
  | .counterSnapshot => Sys2Proof.Machine.execCounterSnapshot s
  | .dbgRead ups => Sys2Proof.Machine.execDbgRead ups s
  | .dbgHalt => Sys2Proof.Machine.execDbgHalt s
  | .dbgStep => Sys2Proof.Machine.execDbgStep s
  | .dbgResume => Sys2Proof.Machine.execDbgResume s
  | .dbgRouteWrite entry => Sys2Proof.Machine.execDbgRouteWrite entry s
  | .scrubComplete mismatch => Sys2Proof.Machine.execScrubComplete mismatch s
  | .pcReturnDone pc pass => Sys2Proof.Machine.execPcReturnDone pc pass s
  | .carillonLinkState link st peer => Sys2Proof.Machine.execCarillonLinkState link st peer s
  | .flitReceive link flit => Sys2Proof.Machine.execFlitReceive link flit s
  | .replayTimeout link => Sys2Proof.Machine.execReplayTimeout link s
  | .replayExhausted link => Sys2Proof.Machine.execReplayExhausted link s
  | .tollSend => Sys2Proof.Machine.execTollSend s
  | .tollTimeout link => Sys2Proof.Machine.execTollTimeout link s
  | .alignLoss link => Sys2Proof.Machine.execAlignLoss link s
  | .batchTimer link => Sys2Proof.Machine.execBatchTimer link s
  | .quadForm pf mask => Sys2Proof.Machine.execQuadForm pf mask s
  | .formLinkTimeout => Sys2Proof.Machine.execFormLinkTimeout s
  | .form rec => Sys2Proof.Machine.execForm rec s
  | .membership rec => Sys2Proof.Machine.execMembership rec s
  | .membershipTimeout pos => Sys2Proof.Machine.execMembershipTimeout pos s
  | .quadDissolve pf => Sys2Proof.Machine.execQuadDissolve pf s
  | .dissolve rec => Sys2Proof.Machine.execDissolve rec s
  | .jobKeyExchange rec => Sys2Proof.Machine.execJobKeyExchange rec s
  | .carillonServiceItem p service rchan item => Sys2Proof.Machine.execCarillonServiceItem p service rchan item s
  | .postedWrite rec => Sys2Proof.Machine.execPostedWrite rec s
  | .writeAck rec => Sys2Proof.Machine.execWriteAck rec s
  | .postedNotice rec => Sys2Proof.Machine.execPostedNotice rec s
  | .readReq rec ups => Sys2Proof.Machine.execReadReq rec ups s
  | .readData rec => Sys2Proof.Machine.execReadData rec s
  | .clear rec => Sys2Proof.Machine.execClear rec s
  | .epoch rec => Sys2Proof.Machine.execEpoch rec s
  | .epochAdvance => Sys2Proof.Machine.execEpochAdvance s
  | .transferTimeout kind tag => Sys2Proof.Machine.execTransferTimeout kind tag s
  | .quadParams rec => Sys2Proof.Machine.execQuadParams rec s
  | .quadRoster rec => Sys2Proof.Machine.execQuadRoster rec s
  | .quadStaged rec => Sys2Proof.Machine.execQuadStaged rec s
  | .quadGo rec => Sys2Proof.Machine.execQuadGo rec s
  | .quadDone rec => Sys2Proof.Machine.execQuadDone rec s
  | .quadAdded rec => Sys2Proof.Machine.execQuadAdded rec s
  | .quadBackout rec => Sys2Proof.Machine.execQuadBackout rec s
  | .quadFreezeList rec => Sys2Proof.Machine.execQuadFreezeList rec s
  | .quadShareForward rec => Sys2Proof.Machine.execQuadShareForward rec s
  | .quadLedgerSeed rec => Sys2Proof.Machine.execQuadLedgerSeed rec s
  | .quadPartialSum rec => Sys2Proof.Machine.execQuadPartialSum rec s
  | .quadStepReport rec => Sys2Proof.Machine.execQuadStepReport rec s
  | .quadGateReport rec => Sys2Proof.Machine.execQuadGateReport rec s
  | .quadReleaseCopy rec => Sys2Proof.Machine.execQuadReleaseCopy rec s
  | .quadReleaseAck rec => Sys2Proof.Machine.execQuadReleaseAck rec s
  | .quadCommit rec => Sys2Proof.Machine.execQuadCommit rec s
  | .quadVoid rec => Sys2Proof.Machine.execQuadVoid rec s
  | .mailboxWrite pf off data whole bad => Sys2Proof.Machine.execMailboxWrite pf off data whole bad s
  | .mbDoorbell pf t single bad => Sys2Proof.Machine.execMbDoorbell pf t single bad s
  | .mbResend pf seq => Sys2Proof.Machine.execMbResend pf seq s
  | .dmaCompletion pf data => Sys2Proof.Machine.execDmaCompletion pf data s
  | .functionLevelReset pf => Sys2Proof.Machine.execFunctionLevelReset pf s
  | .busMasterClear pf d3hot => Sys2Proof.Machine.execBusMasterClear pf d3hot s
  | .busMasterSet pf d0 => Sys2Proof.Machine.execBusMasterSet pf d0 s
  | .tlsHandshake session anchor leafP384 chainOk version13 => Sys2Proof.Machine.execTlsHandshake session anchor leafP384 chainOk version13 s
  | .health session request => Sys2Proof.Machine.execHealth session request s
  | .telemetry session request n => Sys2Proof.Machine.execTelemetry session request n s
  | .powerCap session request cap => Sys2Proof.Machine.execPowerCap session request cap s
  | .governor session request ctl vlimit vfixed => Sys2Proof.Machine.execGovernor session request ctl vlimit vfixed s
  | .shutdown session request => Sys2Proof.Machine.execShutdown session request s
  | .evict session request => Sys2Proof.Machine.execEvict session request s
  | .contextStop session request c => Sys2Proof.Machine.execContextStop session request c s
  | .reset session request => Sys2Proof.Machine.execReset session request s
  | .wakeOrder session request => Sys2Proof.Machine.execWakeOrder session request s
  | .fwStage session request off flags data => Sys2Proof.Machine.execFwStage session request off flags data s
  | .fwApply session request => Sys2Proof.Machine.execFwApply session request s
  | .calWrite session request rec => Sys2Proof.Machine.execCalWrite session request rec s
  | .repairWrite session request rec => Sys2Proof.Machine.execRepairWrite session request rec s
  | .recordRead session request which => Sys2Proof.Machine.execRecordRead session request which s
  | .unitReturn session request kind index => Sys2Proof.Machine.execUnitReturn session request kind index s
  | .addressSet session request writes => Sys2Proof.Machine.execAddressSet session request writes s
  | .installSet session request rec => Sys2Proof.Machine.execInstallSet session request rec s
  | .install rec => Sys2Proof.Machine.execInstall rec s
  | .localHealth => Sys2Proof.Machine.execLocalHealth s
  | .powerDown => Sys2Proof.Machine.execPowerDown s
  | .mctpControl msg => Sys2Proof.Machine.execMctpControl msg s
  | .smbusAlertResponse => Sys2Proof.Machine.execSmbusAlertResponse s
  | .getVersion msg => Sys2Proof.Machine.execGetVersion msg s
  | .getCapabilities msg => Sys2Proof.Machine.execGetCapabilities msg s
  | .negotiateAlgorithms msg => Sys2Proof.Machine.execNegotiateAlgorithms msg s
  | .getDigests msg => Sys2Proof.Machine.execGetDigests msg s
  | .getCertificate msg => Sys2Proof.Machine.execGetCertificate msg s
  | .challenge msg => Sys2Proof.Machine.execChallenge msg s
  | .getMeasurements msg => Sys2Proof.Machine.execGetMeasurements msg s
  | .repairAppend => Sys2Proof.Machine.execRepairAppend s
  | .sweepSliceStart => Sys2Proof.Machine.execSweepSliceStart s
  | .sweepSliceEnd fails lost corrected scratch => Sys2Proof.Machine.execSweepSliceEnd fails lost corrected scratch s
  | .logicSelfTestDone p pass => Sys2Proof.Machine.execLogicSelfTestDone p pass s
  | .perstRelease => Sys2Proof.Machine.execPerstRelease s
  | .pcieLinkDown => Sys2Proof.Machine.execPcieLinkDown s
  | .belfryPortLink st => Sys2Proof.Machine.execBelfryPortLink st s
  | .boundaryScanInstruction ins cells => Sys2Proof.Machine.execBoundaryScanInstruction ins cells s
  | .managementPortFrame frame => Sys2Proof.Machine.execManagementPortFrame frame s
  | .unlistedOrder session header => Sys2Proof.Machine.execUnlistedOrder session header s
  | .engineInstructionComplete p e rows ups => Sys2Proof.Machine.execEngineInstructionComplete p e rows ups s
  | .vbatLoss replaced => Sys2Proof.Machine.execVbatLoss replaced s
  | .quadOpenAnswer rec => Sys2Proof.Machine.execQuadOpenAnswer rec s
  | .quadPausedFlag rec => Sys2Proof.Machine.execQuadPausedFlag rec s
  | .epochDirty rec => Sys2Proof.Machine.execEpochDirty rec s
  | .quadStepToken rec => Sys2Proof.Machine.execQuadStepToken rec s
  | .quadMaskDone rec => Sys2Proof.Machine.execQuadMaskDone rec s
  | .quadLedgerBytes rec => Sys2Proof.Machine.execQuadLedgerBytes rec s
  | .quadReveal rec tally => Sys2Proof.Machine.execQuadReveal rec tally s

end Sys2Proof.Machine
end

