-- ==== Sys2Proof/WellFormed.lean ====
section
/-! DEFINITION. Well-formed commands: operands that a sender can place on the wires and fields they stand for. A command
that is not well-formed spells no access, entry, frame or order of the spec; its meaning is the one its fields give. -/
namespace Sys2Proof

/-- The number fits in a field of `w` bits. -/
def fits (w n : Nat) : Bool := decide (n < 2 ^ w)

/-- An access that R593 defines: 4 or 8 bytes at a multiple of its width. -/
def accessWf (off width : Nat) : Bool := fits 32 off && (width == 4 || width == 8) && off % width == 0

/-- An attribute word of KEYREG (Table KEY-3). -/
def attrWf (a : KeyAttr) : Bool := fits 8 a.dest && fits 2 a.lifetime && fits 2 a.ctx

/-- A row of a subarray that March C− found failing (R654): one of 520 rows, a word of the row, a bit of the word. -/
def rowWf (r : RowFail) : Bool := decide (r.row < 520) && fits 8 r.word && fits 8 r.bit

/-- Words of a Pan's memory of 6 MiB (R187), and an upset in one of them. -/
def panWords : Nat := 786432
def upsetWf (u : Nat × Upset) : Bool := decide (u.1 < panWords)

/-- A word of Tally, eight slots of a context's region of 2^22 bytes (R389), named by one of them, and an upset in it. -/
def tallyWf (t : Option (Nat × Upset)) : Bool := t.all fun e => decide (e.1 < 2 ^ 22)

/-- The fields of an installation record (R622). -/
def installWf (r : Install) : Bool :=
  fits 32 r.ipv4 && fits 32 r.mask4 && fits 32 r.gw4 && fits 128 r.ipv6 && fits 8 r.plen6 && fits 128 r.gw6

/-- A well-formed command. -/
def Instr.wf (i : Instr) : Bool :=
  match i with
  | .registerWrite _ _ off width v _ => accessWf off width && fits (8 * width) v
  | .readClear _ _ off width => accessWf off width
  | .lowHalfRead _ _ off => fits 32 off && off % 8 == 0
  | .govVlimitWrite _ v => fits 32 v
  | .tollTick => true
  | .governorRun power _ => fits 32 power
  | .thermalCapRepeat => true
  | .avsTransactionDone _ mv => fits 16 mv
  | .readingUpdate power _ kettle => fits 32 power && fits 32 kettle
  | .powerOnReset => true
  | .auxPowerLoss => true
  | .belfryResetRelease => true
  | .sysRstAssert => true
  | .sysRstRelease _ _ _ _ => true
  | .thermalWaitEnd => true
  | .bootStepComplete _ mask rows => fits 128 mask && rows.all fun r => decide (r.1 < 48) && decide (r.2.1 < 384) && rowWf r.2.2
  | .perstAssert => true
  | .pcieLinkUp => true
  | .thermtrip => true
  | .vddkLoss => true
  | .vddcBrownout => true
  | .vddcDischarged => true
  | .vddcHoldEnd => true
  | .vddcRestart => true
  | .vddcGood => true
  | .vddcStartTimeout => true
  | .vddcDischargeFail => true
  | .muffle _ => true
  | .wake _ => true
  | .wakeComplete => true
  | .imageLoad _ addr len _ => fits 64 addr && fits 32 len
  | .imagePartial _ addr len ctx _ => fits 64 addr && fits 32 len && fits 8 ctx
  | .imageStaged => true
  | .imageApply => true
  | .panQuiesced _ => true
  | .quiesceTimeout _ => true
  | .routeSyncDrained => true
  | .itemDeliver _ => true
  | .strayEventFlush _ => true
  | .routePickup _ _ => true
  | .nop _ _ => true
  | .add _ _ => true
  | .sub _ _ => true
  | .and _ _ => true
  | .or _ _ => true
  | .xor _ _ => true
  | .shl _ _ => true
  | .shr _ _ => true
  | .mul _ _ => true
  | .addi _ _ => true
  | .ldi _ _ => true
  | .cmp _ _ => true
  | .ld _ _ ups => ups.all upsetWf
  | .st _ _ => true
  | .jmp _ _ => true
  | .br _ _ => true
  | .jr _ _ => true
  | .loop _ _ => true
  | .halt _ _ => true
  | .haltComplete _ => true
  | .rdst _ _ => true
  | .clst _ _ => true
  | .agset _ _ => true
  | .agscl _ _ => true
  | .agadv _ _ => true
  | .agrd _ _ => true
  | .send _ _ => true
  | .recv _ _ => true
  | .recvComplete _ => true
  | .waitt _ _ => true
  | .waittComplete _ => true
  | .sigt _ _ => true
  | .kcfg _ _ => true
  | .kcfgApply _ => true
  | .kout _ _ => true
  | .kload _ _ => true
  | .shiftInDone _ ups => ups.all upsetWf
  | .krun _ _ => true
  | .kpass _ _ => true
  | .kdrain _ _ => true
  | .kdrainComplete _ => true
  | .gseed _ _ => true
  | .gexp _ _ => true
  | .gstream _ _ => true
  | .cadd _ _ => true
  | .csub _ _ => true
  | .cfield _ _ => true
  | .cnoise _ _ => true
  | .cnoiseComplete _ => true
  | .cdeq _ _ => true
  | .cfuse _ _ => true
  | .fence _ _ => true
  | .fenceComplete _ => true
  | .fencec _ _ => true
  | .fencecComplete _ => true
  | .synci _ _ => true
  | .sti _ _ => true
  | .undefinedOpcode _ _ => true
  | .engineTrap _ _ _ word => decide (word < panWords)
  | .assayRecord _ _ _ => true
  | .addCommit _ slot tally => fits 32 slot && tallyWf tally
  | .addBackout _ slot chunk _ => fits 32 slot && fits 32 chunk
  | .storeWriteAck _ => true
  | .storeAccess addr data len _ => fits 64 addr && (match data with | some b => b.length == len | none => true)
  | .ledgerSeedIssue _ => true
  | .maskEntryDone _ ups => ups.all upsetWf
  | .reconAttemptStart _ owner => fits 32 owner
  | .reconAttemptDone _ owner tally => fits 32 owner && tallyWf tally
  | .curveRequest r => fits 64 r.tag
  | .curveOpComplete _ => true
  | .harvestOpen _ addr len _ => fits 64 addr && fits 32 len
  | .rosterLoad _ addr len _ => fits 64 addr && fits 32 len
  | .hostIngest _ addr len count replyAddr frm _ => fits 64 addr && fits 32 len && fits 32 count && fits 64 replyAddr && fits 8 frm
  | .tallyFreeze _ => true
  | .freezeItemServe _ slot tally => fits 32 slot && tallyWf tally
  | .sharesSubmit _ addr len count replyAddr _ => fits 64 addr && fits 32 len && fits 32 count && fits 64 replyAddr
  | .shareWindowExpire _ => true
  | .settle _ => true
  | .releaseFetch _ resAddr resLen certAddr certLen => fits 64 resAddr && fits 64 resLen && fits 64 certAddr && fits 32 certLen
  | .harvestVoid _ => true
  | .harvestClose _ => true
  | .stepReport _ _ _ => true
  | .resultSeal _ tally => tallyWf tally
  | .frameReceive _ frame _ => decide (frame.length ≤ 65535)
  | .chunkServe _ tally => tallyWf tally
  | .shareBatchServe _ tally => tallyWf tally
  | .slotContextSetup _ => true
  | .arpRequest _ frame _ => decide (frame.length ≤ 65535)
  | .neighborSolicitation _ frame _ => decide (frame.length ≤ 65535)
  | .echoRequest _ frame _ => decide (frame.length ≤ 65535)
  | .inletLinkState _ _ => true
  | .statsSecond => true
  | .enqueueWaitExpire _ => true
  | .queueItemProduce _ item _ _ _ _ => item.length == 64
  | .queueItemRead _ _ _ _ => true
  | .queueMark _ _ _ => true
  | .queueRewind _ _ _ _ => true
  | .queueRelease _ _ _ => true
  | .queueReset _ _ _ _ => true
  | .qCtlWrite _ _ v _ => fits 32 v
  | .telemetryTick => true
  | .ringerReady _ _ deadline => fits 64 deadline
  | .ringerDelay _ _ w => fits 64 w
  | .ringerSleep _ _ => true
  | .ringerDispatch _ => true
  | .ringerWait _ _ mask => fits 3 mask
  | .ringerGet _ mask => fits 3 mask
  | .ringerDone _ handle => fits 32 handle
  | .ringerEnqueue _ item => item.length == 32
  | .threadWake _ => true
  | .keyregLoad holder _ attr => decide (holder < 256) && attrWf attr
  | .keyregDeliver holder _ _ => decide (holder < 256)
  | .keyregAttrChange holder attr => decide (holder < 256) && attrWf attr
  | .keyregRelease holder => decide (holder < 256)
  | .remaskTick => true
  | .healthWindow _ => true
  | .drbgGenerate _ n => fits 32 n
  | .drbgReseed => true
  | .rngWaitTimeout _ => true
  | .tamperTrip sensor => decide (1 ≤ sensor) && decide (sensor ≤ 9)
  | .tamperCounterBurn => true
  | .tocsinArm _ _ _ => true
  | .katTick _ => true
  | .attest _ outAddr outLen nonceLen nonceAddr _ => fits 64 outAddr && fits 32 outLen && fits 32 nonceLen && fits 64 nonceAddr
  | .enrollTenant _ addr len _ => fits 64 addr && fits 32 len
  | .weightsLoad _ addr len _ => fits 64 addr && fits 32 len
  | .tenantLeave _ => true
  | .debugUnlock _ addr len _ => fits 64 addr && fits 32 len
  | .counterSnapshot => true
  | .dbgRead ups => ups.all upsetWf
  | .dbgHalt => true
  | .dbgStep => true
  | .dbgResume => true
  | .dbgRouteWrite _ => true
  | .scrubComplete mismatch => mismatch.all fun k => decide (k < 128)
  | .pcReturnDone _ _ => true
  | .carillonLinkState _ _ _ => true
  | .flitReceive _ _ => true
  | .replayTimeout _ => true
  | .replayExhausted _ => true
  | .tollSend => true
  | .tollTimeout _ => true
  | .alignLoss _ => true
  | .batchTimer _ => true
  | .quadForm _ mask => fits 8 mask
  | .formLinkTimeout => true
  | .form _ => true
  | .membership _ => true
  | .membershipTimeout _ => true
  | .quadDissolve _ => true
  | .dissolve _ => true
  | .jobKeyExchange _ => true
  | .carillonServiceItem _ _ _ item => item.length % 16 == 0
  | .postedWrite _ => true
  | .writeAck _ => true
  | .postedNotice _ => true
  | .readReq _ ups => ups.all upsetWf
  | .readData _ => true
  | .clear _ => true
  | .epoch _ => true
  | .epochAdvance => true
  | .transferTimeout _ tag => fits 64 tag
  | .quadParams _ => true
  | .quadRoster _ => true
  | .quadStaged _ => true
  | .quadGo _ => true
  | .quadDone _ => true
  | .quadAdded _ => true
  | .quadBackout _ => true
  | .quadFreezeList _ => true
  | .quadShareForward _ => true
  | .quadLedgerSeed _ => true
  | .quadPartialSum _ => true
  | .quadStepReport _ => true
  | .quadGateReport _ => true
  | .quadReleaseCopy _ => true
  | .quadReleaseAck _ => true
  | .quadCommit _ => true
  | .quadVoid _ => true
  | .mailboxWrite _ off data _ _ => fits 24 off && !data.isEmpty && decide (data.length ≤ 4096)
  | .mbDoorbell _ t _ _ => fits 32 t
  | .mbResend _ seq => fits 32 seq
  | .dmaCompletion _ _ => true
  | .functionLevelReset _ => true
  | .busMasterClear _ _ => true
  | .busMasterSet _ _ => true
  | .tlsHandshake _ _ _ _ _ => true
  | .health _ request => fits 32 request
  | .telemetry _ request n => fits 32 request && fits 32 n
  | .powerCap _ request cap => fits 32 request && fits 32 cap
  | .governor _ request ctl vlimit vfixed => fits 32 request && fits 32 ctl && fits 32 vlimit && fits 32 vfixed
  | .shutdown _ request => fits 32 request
  | .evict _ request => fits 32 request
  | .contextStop _ request c => fits 32 request && fits 8 c
  | .reset _ request => fits 32 request
  | .wakeOrder _ request => fits 32 request
  | .fwStage _ request off flags data => fits 32 request && fits 32 off && fits 32 flags && decide (data.length ≤ 65536)
  | .fwApply _ request => fits 32 request
  | .calWrite _ request rec_ => fits 32 request && decide (rec_.length ≤ 65536)
  | .repairWrite _ request rec_ => fits 32 request && decide (rec_.length ≤ 65536)
  | .recordRead _ request which => fits 32 request && fits 8 which
  | .unitReturn _ request kind index => fits 32 request && fits 8 kind && fits 16 index
  | .addressSet _ request writes => fits 32 request && writes.all fun w => fits 32 w.1 && fits 32 w.2
  | .installSet _ request rec_ => fits 32 request && installWf rec_
  | .install rec_ => installWf rec_
  | .localHealth => true
  | .powerDown => true
  | .mctpControl _ => true
  | .smbusAlertResponse => true
  | .getVersion _ => true
  | .getCapabilities _ => true
  | .negotiateAlgorithms _ => true
  | .getDigests _ => true
  | .getCertificate _ => true
  | .challenge _ => true
  | .getMeasurements _ => true
  | .repairAppend => true
  | .sweepSliceStart => true
  | .sweepSliceEnd fails _ _ _ => fails.all rowWf
  | .logicSelfTestDone _ _ => true
  | .perstRelease => true
  | .pcieLinkDown => true
  | .belfryPortLink _ => true
  | .boundaryScanInstruction _ _ => true
  | .managementPortFrame frame => decide (frame.length ≤ 65535)
  | .unlistedOrder _ header => header.length == 16
  | .engineInstructionComplete _ _ _ ups => ups.all upsetWf
  | .vbatLoss _ => true
  | .quadOpenAnswer _ => true
  | .quadPausedFlag _ => true
  | .epochDirty _ => true
  | .quadStepToken _ => true
  | .quadMaskDone _ => true
  | .quadLedgerBytes _ => true
  | .quadReveal _ tally => tallyWf tally

end Sys2Proof
end

