-- ==== Sys2Proof/Safety.lean ====
section
/-! DEFINITION. What a safe run is, in the terms that the statements use. -/
namespace Sys2Proof.Machine

open Sys2Proof

/-- Every command that waits is well-formed. -/
def State.queueWf (s : State) : Bool := s.pending.all Instr.wf

/-- Every Pan memory and every mailbox ring is in canonical form. -/
def State.memWf (s : State) : Bool := (s.pans.all fun q => Memory.wf q.mem) && s.fns.all fun f => Memory.wf f.ring

/-- A step neither faults nor is refused. -/
def State.goesOn (s : State) : Prop := ∃ t, step s = .next t

/-! ### Pan sequencer -/

/-- Pan `p` issues now: it runs, nothing blocks it, the word at its pc is that of opcode `op` and operands `w`, and the
word's predicate holds. -/
def State.ready (s : State) (p op : Nat) (w : BitVec 25) : Bool :=
  canIssue (s.pan p) false && (fetched (s.pan p)).head? == some (wordOfOp op w) &&
    (pReg (s.pan p) (bitsOf (wordOfOp op w) 24 22) != bitOf (wordOfOp op w) 21)

/-- No check of Table SEQ-7 fails for a plan, and it waits for nothing: no held generator, no full queue, no slice. -/
def State.clear (s : State) (p : Nat) (k : Plan) : Bool :=
  !k.rsv && !k.bad && k.cause.isNone && !k.wait && !(k.gens.any (heldGen (s.pan p))) &&
    !(k.engines.any fun e => decide (4 ≤ (engQ (s.pan p) e).length))

/-- A Pan `x` whose sequencer has moved on by one word from `q`, with the instruction counted. -/
def stepped (q x : Pan) : Pan :=
  { x with pc := (q.pc + 1) % 16384, prefetch := (fetched q).drop 1, pcnt := updAt q.pcnt 3 (· + 1) }

/-- A Pan `x` whose sequencer has jumped from `q`'s word: the prefetch buffer is empty. -/
def jumped (q x : Pan) (target : Nat) : Pan :=
  { x with pc := target % 16384, prefetch := [], pcnt := updAt q.pcnt 3 (· + 1) }

/-- A Pan whose sequencer waits at its word. -/
def blockedBy (q : Pan) (b : Blocked) : Pan :=
  { q with blocked := some b, prefetch := fetched q, pcnt := updAt q.pcnt 3 (· + 1) }

/-- Nothing but Pan `p`, and what a trace item touches, has changed. -/
def onlyPan (s t : State) (p : Nat) : Prop :=
  (∀ p', p' ≠ p → t.pan p' = s.pan p') ∧ t.ctxs = s.ctxs ∧ t.fabric = s.fabric ∧ t.cad = s.cad ∧ t.dev = s.dev ∧
    t.keyhold = s.keyhold ∧ t.stores = s.stores ∧ t.car = s.car ∧ t.inlets = s.inlets ∧ t.sweep = s.sweep ∧
    t.ringer = s.ringer ∧ t.img = s.img ∧ t.toc = s.toc ∧ (∀ r i, r ≠ .qEvt → t.reg r i = s.reg r i)

/-! ### Brine queues -/

/-- F, R and W of a queue are in order, it holds the items from F to W − 1, no more than it has places, and a mark does not
lie beyond W. -/
def queueOk (cap : Nat) (b : BQueue) : Prop :=
  b.f ≤ b.r ∧ b.r ≤ b.w ∧ b.items.length = b.w - b.f ∧ b.items.length ≤ cap ∧ ∀ k, b.m = some k → k ≤ b.w

/-- A queue `x` that differs from `b` in whether its level is armed alone. -/
def sameButArmed (x b : BQueue) : Prop := x = { b with armed := x.armed }

/-! ### The mailbox -/

/-- A command that function `pf` gives now is served at once and runs: the endpoint answers, the function is idle, neither the
device's state nor an argument refuses it, its host ranges are in order under Bus Master Enable, and the first checks of its
own chapter pass. -/
def State.serves (s : State) (pf : Nat) (c : HostCmd) : Bool :=
  let t := s.taken pf c
  s.hostReaches pf && s.fnIdle pf && (t.stateRefusal (cmdCode c)).isNone && (argsFail pf c).isNone &&
    ((rangesOf c).isEmpty || (t.fn pf).bme) && !((rangesOf c).any fun r => rangeWraps r.1 r.2) && (t.ownGate pf c).isNone

/-! ### Belfry -/

/-- Belfry serves an order on a session now: the session is open, the request is new to it, fewer than 16 are outstanding, its turn
is now, and the device's state allows the order. -/
def State.takesOrder (s : State) (sess req code : Nat) : Bool :=
  s.belfry.running && s.orderTurn code && !s.orderRefused code &&
    match s.belfry.sessions.find? fun x => x.id == sess with
    | some x => (x.cache.find? fun e => e.1 == req).isNone && !x.outstanding.contains req && decide (x.outstanding.length < 16)
    | none => false

/-- The request is outstanding on its session. -/
def State.ordered (s : State) (sess req : Nat) : State := s.updSession sess fun x => { x with outstanding := x.outstanding ++ [req] }

/-- An SPDM message is a request of a code that Belfry answers in its present negotiation. -/
def State.spdmTakes (s : State) (msg : Bytes) (code version len need : Nat) : Bool :=
  s.belfry.running && byteAt msg 1 == code && byteAt msg 0 == version && decide (len ≤ msg.length) && decide (need ≤ s.belfry.spdm)

end Sys2Proof.Machine
end

