-- ==== Sys2Proof/Certificates/Slice0/Obligations.lean ====
section
/-! DEFINITION. The statements. A meaning ends in `.next { X with pending := s.pending }`: X is what the command makes of
the device, and the queue of waiting commands stands. `State.after` is what a command may have let go on: Belfry's orders
that waited, Carillon credits, the mailbox. -/
section

open Sys2Proof Sys2Proof.Machine

/-! ### The block -/

/-- A step takes the command at the front of the queue and runs it on the state with the queue's rest.
Choices of the model: log entry 1. -/
def Obligations.StepRunsTheFrontCommand : Prop :=
  ∀ (c : Instr) (rest : List Instr) (s : State),
    step { s with pending := c :: rest } = exec c { s with pending := rest }

/-- The queue is first in, first out, and no command of the table touches it: after any step that answers a next state the
queue is the old one without its front, and waiting commands that were well-formed still are.
Choices of the model: log entry 1. -/
def Obligations.EveryStepKeepsTheQueue : Prop :=
  ∀ s t : State, s.queueWf = true → step s = .next t → t.pending = s.pending.tail ∧ t.queueWf = true

/-- The queue at reset is empty, so it is well-formed. Choices of the model: log entry 2. -/
def Obligations.ResetQueueIsWellFormed : Prop := State.reset.pending = [] ∧ State.reset.queueWf = true

/-! ### Registers -/

/-- REGISTER_WRITE runs: an access of 4 bytes that R593 defines, not poisoned, to a register, is the checked write of that
register by its access codes; then whatever it let go on goes on. Choices of the model: log entry 41. -/
def Obligations.RegisterWriteRuns : Prop :=
  ∀ (who : Requester) (sp : Space) (off v b i : Nat) (r : Reg) (s : State),
    s.accessOk who sp off 4 = true → s.areaWrite who sp off (leBytes 4 (v % 2 ^ 32)) = none →
    findReg who sp off = some (r, i, b) →
    exec (.registerWrite who sp off 4 v false) s =
      .next { (s.writeReg who r i b 4 (v % 2 ^ 32)).goOn with pending := s.pending }

/-- The access codes of a write (R15): an RW field takes the written bits, W1C clears the bits written as one, W1S sets
them, and a field of any other code stays; here for a register of one field over bits [hi:lo]. -/
def Obligations.WriteFollowsTheAccessCode : Prop :=
  ∀ (hi lo old v : Nat) (f : RegField), f.hi = hi → f.lo = lo → lo ≤ hi →
    (f.acc = .rw → bitsOf (applyFields [f] old v) hi lo = bitsOf v hi lo) ∧
    (f.acc = .w1c → ∀ k, lo ≤ k → k ≤ hi → bitOf (applyFields [f] old v) k = (bitOf old k && !bitOf v k)) ∧
    (f.acc = .w1s → ∀ k, lo ≤ k → k ≤ hi → bitOf (applyFields [f] old v) k = (bitOf old k || bitOf v k)) ∧
    (f.acc = .ro → applyFields [f] old v = old) ∧
    (∀ k, k < lo ∨ hi < k → bitOf (applyFields [f] old v) k = bitOf old k)

/-- READ_CLEAR: a read of a whole register that the requester may read returns its value and clears what R15 clears.
Choices of the model: log entry 41. -/
def Obligations.ReadReturnsAndClears : Prop :=
  ∀ (who : Requester) (sp : Space) (off width i b : Nat) (r : Reg) (s : State),
    s.accessOk who sp off width = true → s.areaRead who sp off width = none → findReg who sp off = some (r, i, b) →
    mayRead who r = true → width * 8 = (regPlace r).width → b = 0 →
    exec (.readClear who sp off width) s =
      .next { (s.clearRc who r i).emit (.read (whoNum who) width (s.regNow who r i)) with pending := s.pending }

/-- Reads of the halves of a 64-bit register that is read-only or read-to-clear (R23): the low half is returned, the high half
latched for the requester, and an RC register cleared as a whole, as at a read of its 64 bits; the next read of the high half by the
same requester returns the latched half, and one with no latch the live half, which clears nothing. -/
def Obligations.LowHalfReadLatches : Prop :=
  ∀ (who : Requester) (sp : Space) (off i b : Nat) (r : Reg) (s : State),
    s.accessOk who sp off 4 = true → s.areaRead who sp off 4 = none → findReg who sp off = some (r, i, b) →
    mayRead who r = true → latches r = true →
    let kept := dropLatch s.latched r i (whoNum who)
    let low : State := { s with latched := kept ++ [(r, i, whoNum who, s.regNow who r i / 2 ^ 32)] }
    (b = 0 → exec (.lowHalfRead who sp off) s =
      .next { (low.clearRc who r i).emit (.read (whoNum who) 4 (s.regNow who r i % 2 ^ 32)) with pending := s.pending }) ∧
    (low.clearRc who r i).latchOf r i (whoNum who) = some (s.regNow who r i / 2 ^ 32) ∧
    (∀ v, b = 4 → s.latchOf r i (whoNum who) = some v →
      exec (.readClear who sp off 4) s = .next (({ s with latched := kept } : State).emit (.read (whoNum who) 4 v))) ∧
    (b = 4 → s.latchOf r i (whoNum who) = none →
      exec (.readClear who sp off 4) s = .next (s.emit (.read (whoNum who) 4 (s.regNow who r i / 2 ^ 32)))) ∧
    (b = 0 → s.accessOk who sp off 8 = true → s.areaRead who sp off 8 = none →
      exec (.readClear who sp off 8) s =
        .next { (s.clearRc who r i).emit (.read (whoNum who) 8 (s.regNow who r i)) with pending := s.pending }) ∧
    ((regFields r).any (fun f => f.acc == .rc) = true → (s.clearRc who r i).regNow who r i = 0)

/-- GOV_VLIMIT_WRITE: Belfry's write with VMIN no greater than VMAX is stored; one with VMIN above VMAX is discarded whole and
sets LIMIT_ORDER, bit 2 of CAD_ERR; one with a value that is not listed is discarded and sets bit 1 of it, and reserved bits
written as ones set bit 0 of it beside whatever else the write does. -/
def Obligations.GovVlimitWriteIsOrdered : Prop :=
  ∀ (v : Nat) (s : State), s.belfry.running = true → v < 2 ^ 32 →
    (unlisted .govVlimit v = false → bitsOf v 7 0 ≤ bitsOf v 15 8 → ∃ t, exec (.govVlimitWrite .belfry v) s = .next t ∧
      bitsOf (t.reg .govVlimit 0) 7 0 = bitsOf v 7 0 ∧ bitsOf (t.reg .govVlimit 0) 15 8 = bitsOf v 15 8 ∧
      (bitsOf v 31 16 = 0 → t.reg .cadErr 0 = s.reg .cadErr 0)) ∧
    (unlisted .govVlimit v = false → bitsOf v 15 8 < bitsOf v 7 0 → ∃ t, exec (.govVlimitWrite .belfry v) s = .next t ∧
      t.reg .govVlimit 0 = s.reg .govVlimit 0 ∧ bitOf (t.reg .cadErr 0) 2 = true) ∧
    (unlisted .govVlimit v = true → ∃ t, exec (.govVlimitWrite .belfry v) s = .next t ∧
      t.reg .govVlimit 0 = s.reg .govVlimit 0 ∧ bitOf (t.reg .cadErr 0) 1 = true) ∧
    (bitsOf v 31 16 ≠ 0 → ∃ t, exec (.govVlimitWrite .belfry v) s = .next t ∧ bitOf (t.reg .cadErr 0) 0 = true)

/-! ### Cadence -/

/-- TOLL_TICK (R79): while the block is out of reset, in Muffled too, the toll counter rises by one and wraps at 2^64; the
share windows of unpaused TALLIED contexts count with it (R372); nothing else changes. A reset that reaches the block zeroes it. -/
def Obligations.TollTickCounts : Prop :=
  ∀ s : State,
    (s.cadRuns = true →
      exec .tollTick s = .next { s with cad := { s.cad with toll := (s.cad.toll + 1) % 2 ^ 64 }, ctxs := s.ctxs.map windowTick }) ∧
    (s.dev.st = .muffled → s.cadRuns = true) ∧ (∀ cause pin, (s.systemReset cause pin).cad.toll = 0) ∧ State.reset.cad.toll = 0

/-- READING_UPDATE (R37, R80): power rounded down to 5 W and Tj to a whole degree; THERMAL_CAP_REPEAT (R92): THERMAL with
reason 2 while the cap is not met; COUNTER_SNAPSHOT (R532): at a multiple of 1,000 ticks.
Choices of the model: log entries 1 and 49. -/
def Obligations.CadenceRowsRun : Prop :=
  (∀ (power : Nat) (tj : Int) (kettle : Nat) (s : State), s.cadRuns = true →
    exec (.readingUpdate power tj kettle) s =
      .next { s with cad := { s.cad with readPower := power / 5000 * 5, readTj := tj / 1000, readKettle := kettle } }) ∧
  (∀ s : State, s.cad.running = true → s.cad.capUnmet = true →
    exec .thermalCapRepeat s = .next { s.thermalEvent 2 s.cad.lastPower s.cad.lastTj with pending := s.pending }) ∧
  (∀ s : State, s.cad.toll % 1000 = 0 → exec .counterSnapshot s = .next { s with perfSnap := s.perf })

/-- GOVERNOR_RUN on a 1,000th toll tick, outside AVS fault: setpoint and brake follow the first branch that applies, from the setpoint taken at the
run's start; with EN = 1 and VMIN no greater than VMAX the new setpoint lies between them; toll, registers other than
CAD_EVT, and every Pan stand. Choices of the model: log entry 49. -/
def Obligations.GovernorFollowsItsBranches : Prop :=
  ∀ (power : Nat) (tj : Int) (s : State), s.cad.running = true → s.cad.toll % 1000 = 0 → s.cad.avsFault = false →
    ∃ t, exec (.governorRun power tj) s = .next t ∧
      (t.cad.vset, t.cad.brake) =
        govAct (govBranch s.govEn s.govCap power tj) (govStep s.govCap power tj) s.govVmin s.govVmax s.govFixed
          (if !s.govEn then s.cad.vset
           else if s.govFixed then clampV s.govVmin s.govVmax s.govVfixed else clampV s.govVmin s.govVmax s.cad.vset)
          s.cad.brake ∧
      (s.govEn = true → s.govVmin ≤ s.govVmax → s.govVmin ≤ t.cad.vset ∧ t.cad.vset ≤ s.govVmax) ∧
      t.cad.toll = s.cad.toll ∧ t.pans = s.pans ∧ (∀ r i, r ≠ .cadEvt → r ≠ .qEvt → t.reg r i = s.reg r i)

/-- The emergency branch (R81): at 95 °C or more the setpoint goes to VMIN and the brake to at least 2, with EN or without.
Choices of the model: log entry 49. -/
def Obligations.EmergencyBranch : Prop :=
  ∀ (power : Nat) (tj : Int) (s : State), s.cad.running = true → s.cad.toll % 1000 = 0 → s.cad.avsFault = false → 95000 ≤ tj →
    ∃ t, exec (.governorRun power tj) s = .next t ∧ t.cad.vset = s.govVmin ∧ t.cad.brake = max s.cad.brake 2

/-- AVS_TRANSACTION_DONE (R84, R85, R118): a good end sends the next transaction, and the first Status read of a start starts the
governor; a transaction without a good answer goes out once more; a readback that misses its window sends its write once more, and
itself; a second failure outside AVS fault enters it: VDDC is taken to stand at VMAX, and CAD_EVT bit 2 and a LASTING fault are
recorded. Choices of the model: log entry 49. -/
def Obligations.AvsTransactionEnds : Prop :=
  ∀ (mv : Nat) (x : AvsTx) (rest : List AvsTx) (s : State), s.cad.avs = x :: rest →
    (x.retried = false → x.kind ≠ 2 ∨ (mv ≤ 5 * x.value + 15 ∧ 5 * x.value ≤ mv + 15) →
      exec (.avsTransactionDone true mv) s =
        .next { (if x.first = true then ({ s with cad := { s.cad with running := true } } : State).avsNext x rest else s.avsNext x rest)
          with pending := s.pending }) ∧
    (x.retried = false → x.kind ≠ 1 → ∃ t, exec (.avsTransactionDone false mv) s = .next t ∧
      t.cad.avs = { x with retried := true } :: rest ∧ t.cad.avsFault = s.cad.avsFault) ∧
    (∀ y rest', x.retried = false → x.kind = 1 → rest = y :: rest' → ∃ t, exec (.avsTransactionDone false mv) s = .next t ∧
      t.cad.avs = { x with retried := true } :: { y with rewritten := true } :: rest' ∧ t.cad.avsFault = s.cad.avsFault) ∧
    (x.kind = 2 → x.rewritten = false → 5 * x.value + 15 < mv ∨ mv + 15 < 5 * x.value →
      ∃ t, exec (.avsTransactionDone true mv) s = .next t ∧ t.cad.avsFault = s.cad.avsFault ∧
        t.cad.avs = { kind := 1, value := x.value, retried := true, rewritten := true } ::
          { x with retried := true, rewritten := true } :: rest) ∧
    (x.retried = true → s.cad.avsFault = false →
      ∃ t, exec (.avsTransactionDone false mv) s = .next t ∧ t.cad.avsFault = true ∧ t.cad.vset = s.govVmax ∧ t.cad.avs = [] ∧
        bitOf (t.reg .cadEvt 0) 2 = true ∧ t.sweep.written = (s.sweep.written + 1) % 2 ^ 32)

/-! ### Resets and supplies -/

/-- A system reset (R135, R136, Table BOO-2): the device is HELD with every Pan, context, queue, function and key of the
blocks it reaches at reset but the link of Belfry's port, DEV_RESET_CAUSE holds its cause alone (beside THERMTRIP's), VDDC is to go; Belfry's flash
records, the always-on domain's latch and count, and the queue of commands stand. Choices of the model: log entries 2 and 28. -/
def Obligations.SystemResetClears : Prop :=
  ∀ (cause : Nat) (pin : Bool) (s : State), cause < 4 → s.power.thermtripN = true →
    (s.systemReset cause pin).dev = { belfryPort := s.dev.belfryPort } ∧ (s.systemReset cause pin).pans = State.reset.pans ∧
    (s.systemReset cause pin).ctxs = State.reset.ctxs ∧ (s.systemReset cause pin).queues = State.reset.queues ∧
    (s.systemReset cause pin).fns = State.reset.fns ∧ (s.systemReset cause pin).keyhold = {} ∧
    (s.systemReset cause pin).cad = {} ∧ (s.systemReset cause pin).reg .devResetCause 0 = 2 ^ cause ∧
    (s.systemReset cause pin).power.vddcEn = false ∧
    (s.systemReset cause pin).belfry.cal = s.belfry.cal ∧ (s.systemReset cause pin).belfry.repair = s.belfry.repair ∧
    (s.systemReset cause pin).belfry.install = s.belfry.install ∧
    (s.systemReset cause pin).toc.lockedLatch = s.toc.lockedLatch ∧ (s.systemReset cause pin).toc.count = s.toc.count ∧
    (s.systemReset cause pin).belfry.sessions = [] ∧ (s.systemReset cause pin).pending = s.pending

/-- The reset rows (R133, R135, R112, R121, R127, R138): from COLD the aux group rising leads to HELD; its fall leads to
COLD; SYS_RST_N asserted in a running device is a system reset with cause 1, and VDDK's loss one with cause 2; released,
with no latch and every sensor cool, the boot begins; a thermal wait ends into the boot; VBAT's loss outside VDDK's window
loses what the always-on domain recorded, and within it nothing, whether or not a cell is fitted again; Belfry leaves reset from
the slot that verifies.
Choices of the model: log entries 15 and 28. -/
def Obligations.ResetRowsRun : Prop :=
  (∀ s : State, s.dev.st = .cold → ∃ t, exec .powerOnReset s = .next t ∧ t.dev.st = .held ∧ t.power.auxOk = true ∧
    t.power.sysRstN = false ∧ t.reg .devResetCause 0 % 2 = 1) ∧
  (∀ s : State, s.dev.st ≠ .cold → ∃ t, exec .auxPowerLoss s = .next t ∧ t.dev.st = .cold ∧ t.power.auxOk = false ∧
    t.belfry.running = false ∧ t.toc.lockedLatch = false) ∧
  (∀ s : State, s.dev.st = .running → s.toc.burning = false →
    exec .sysRstAssert s =
      .next { ({ s with power := { s.power with sysRstN := false } } : State).systemReset 1 true with pending := s.pending }) ∧
  (∀ s : State, s.dev.st = .running → s.toc.burning = false → s.power.vddkOk = true → s.power.vbatOk = true →
    s.power.sysRstN = true → ∃ t, exec .vddkLoss s = .next t ∧ t.dev.st = .held ∧ t.power.vddkOk = false ∧
      t.toc.cleanFlag = false ∧ t.reg .devResetCause 0 % 8 = 4) ∧
  (∀ (pos smb : Fin 4) (boot : Bool) (s : State), s.dev.st = .held → s.dev.thermWait = false → s.toc.lockedLatch = false →
    s.power.sysRstN = false → ∃ t, exec (.sysRstRelease pos boot smb true) s = .next t ∧ t.dev.st = .booting ∧
      t.power.pos = pos ∧ t.power.smbAddr = smb ∧ t.power.sysRstN = true ∧ t.dev.bootStart = s.cad.toll) ∧
  (∀ s : State, s.dev.st = .held → s.dev.thermWait = true → s.power.thermtripN = true → ∃ t, exec .thermalWaitEnd s = .next t ∧ t.dev.st = .booting ∧
    t.dev.thermWait = false ∧ t.dev.waited = s.cad.toll - s.dev.waitStart) ∧
  (∀ (cell : Bool) (s : State), exec (.vbatLoss cell) s =
    .next { s with power := { s.power with vbatOk := cell }, toc := if s.onVddk = true then s.toc else tocLost s.toc }) ∧
  (∀ s : State, s.power.auxOk = true → s.belfry.running = false →
    exec .belfryResetRelease s = .next (match s.fwPick with
      | some n => { s with belfry := { s.belfry with running := true, slot := n, digest := s.fwDigestOf n 1 } }
      | none => s))

/-- SYS_RST_N released with the LOCKED latch set leads to LOCKED, whatever the sensors read (R138). -/
def Obligations.LatchLeadsToLocked : Prop :=
  ∀ (pos smb : Fin 4) (boot cool : Bool) (s : State), s.dev.st = .held → s.dev.thermWait = false →
    s.toc.lockedLatch = true → ∃ t, exec (.sysRstRelease pos boot smb cool) s = .next t ∧ t.dev.st = .locked

/-- The core's supply (R111, R118, R129, R121): discharge, hold, restart, good with the first Status read, time-outs, failures.
Choices of the model: log entry 27. -/
def Obligations.SupplyRowsRun : Prop :=
  (∀ s : State, s.power.vddc = .discharging → s.dev.muffling = none →
    exec .vddcDischarged s =
      .next { ({ s with power := { s.power with vddc := .hold } } : State).after with pending := s.pending }) ∧
  (∀ s : State, s.power.vddc = .hold → s.power.why ≠ .shutdown →
    exec .vddcHoldEnd s =
      .next { ({ s with power := { s.power with vddc := .off, vddcDsch := false, restartDue := s.coreWanted } } : State).after with
        pending := s.pending }) ∧
  (∀ s : State, s.power.restartDue = true → s.power.vddc = .off → ∃ t, exec .vddcRestart s = .next t ∧
    t.power.vddcEn = true ∧ t.power.vddc = .starting ∧ t.power.vddcDsch = false ∧ t.cad.vset = 140) ∧
  (∀ s : State, s.power.vddc = .starting → s.dev.switch = none → s.dev.wake = none →
    exec .vddcGood s =
      .next { (({ s with power := { s.power with vddc := .good, tries := 0, why := .none } } : State).avsQueue
        [{ kind := 0, value := 0, first := true }]).after with pending := s.pending }) ∧
  (∀ s : State, s.power.vddc = .starting → s.power.tries = 0 →
    exec .vddcStartTimeout s =
      .next { ({ s.removeVddc .startRetry with
          power := { (s.removeVddc .startRetry).power with tries := 1 }
          dev := { (s.removeVddc .startRetry).dev with vddcRetry := true } } : State).after with pending := s.pending }) ∧
  (∀ s : State, s.power.vddc = .discharging → s.dev.st = .running →
    exec .vddcDischargeFail s =
      .next { (({ s with toc := { s.toc with dischargeFail := true } } : State).fatalLocked 0 s.power.why).after with
        pending := s.pending }) ∧
  (∀ s : State, s.power.vddc = .good →
    let t := (s.fault 3 0 0 (statusCode .lastingFault) none 0 0).voidAll .lastingFault
    exec .vddcBrownout s =
      .next { ((({ t with dev := { t.dev with switch := t.dev.switch.map switchRestart } } : State).setBit .devResetCause 0 7).removeVddc
        .brownout).after with pending := s.pending })

/-- Removing VDDC (R111): the enable falls, a supply that was up discharges, and what the core held is lost: no Pan keeps
memory, program, route or context, the Change fabric is empty, and no context keeps its Tally (R114). Choices of the model: log entry 27. -/
def Obligations.RemovingVddcLosesTheCore : Prop :=
  ∀ (why : VddcWhy) (p : Nat) (s : State), s.power.vddc = .good →
    (s.removeVddc why).power.vddcEn = false ∧ (s.removeVddc why).power.vddc = .discharging ∧
    (s.removeVddc why).power.vddcDsch = true ∧ (s.removeVddc why).fabric = {} ∧
    ((s.removeVddc why).ctxs.all fun c => c.ledger == []) = true ∧
    ((s.removeVddc why).pan p).mem = [] ∧ ((s.removeVddc why).pan p).imem = [] ∧ ((s.removeVddc why).pan p).routes = [] ∧
    ((s.removeVddc why).pan p).ctx = none ∧ (s.removeVddc why).img.loaded = none ∧ (s.removeVddc why).dbg.scope = 0

/-- BOOT_STEP_COMPLETE (R138, Table BOO-3): in a boot that neither halted nor burns, steps are taken in their order.
Choices of the model: log entry 1. -/
def Obligations.BootStepsInOrder : Prop :=
  (∀ (mask : Nat) (rows : List (Nat × Nat × RowFail)) (s : State), s.dev.st = .booting → s.dev.halted = false →
    s.toc.burning = false → s.power.thermtripN = true → s.dev.bootStep = 4 →
    exec (.bootStepComplete 5 mask rows) s = .next { s.bootStep5.after with pending := s.pending } ∧ s.bootStep5.dev.bootStep = 5) ∧
  (∀ (mask : Nat) (rows : List (Nat × Nat × RowFail)) (s : State), s.dev.st = .booting → s.dev.halted = false →
    s.toc.burning = false → s.power.thermtripN = true → s.dev.bootStep = 3 →
    exec (.bootStepComplete 4 mask rows) s = .next { s.bootStep4.after with pending := s.pending } ∧ s.bootStep4.dev.bootStep = 4) ∧
  (∀ (n : Fin 11) (mask : Nat) (rows : List (Nat × Nat × RowFail)) (s : State), n.val ≠ 8 → n.val ≠ s.dev.bootStep + 1 →
    exec (.bootStepComplete n mask rows) s = .next { s.after with pending := s.pending })

/-- The endpoint (R135, R144, R154, R453): PERST_N rising begins training once step 1 has ended; the link comes up and
answers; it goes down with an event of kind 2; PERST_N asserted in a running device resets every function and the link. -/
def Obligations.EndpointRowsRun : Prop :=
  (∀ s : State, s.dev.st = .untenanted → s.dev.pcie = 0 →
    exec .perstRelease s = .next { ({ s with power := { s.power with perstN := true } } : State).setPcie 1 with pending := s.pending }) ∧
  (∀ s : State, s.dev.pcie = 1 → ∃ t, exec .pcieLinkUp s = .next t ∧ t.dev.pcie = 2 ∧ t.pcieAnswers = true) ∧
  (∀ s : State, s.dev.pcie = 2 →
    exec .pcieLinkDown s = .next { (s.setPcie 0).pcieTrain with pending := s.pending }) ∧
  (∀ s : State, s.dev.st = .running →
    exec .perstAssert s =
      .next { (((List.range 4).foldl State.resetFn ({ s with power := { s.power with perstN := false } } : State)).setBit
        .devResetCause 0 5).setPcie 0 with pending := s.pending })

/-- Boundary scan (R106): BYPASS, IDCODE, SAMPLE/PRELOAD, EXTEST and HIGHZ, of which the last two act only while SYS_RST_N is
asserted and are BYPASS at any other time; IDCODE gives the device's code, SAMPLE/PRELOAD and EXTEST the levels of the pins, and the
cells that they shift in are what EXTEST drives; nothing else of the device is reached. Choices of the model: log entry 64. -/
def Obligations.BoundaryScan : Prop :=
  ∀ (ins : Fin 5) (cells : Fin 16) (s : State),
    let j := if 3 ≤ ins.val ∧ s.power.sysRstN = true then 0 else ins.val
    let p := { s.power with jtag := ins.val, chain := if j = 2 ∨ j = 3 then cells.val else s.power.chain }
    exec (.boundaryScanInstruction ins cells) s =
      .next (({ s with power := p } : State).emit
        (.jtag j (if j = 1 then 0x04100C9D else if j = 2 ∨ j = 3 then pinLevels s.power else 0))) ∧
    pinsDriven p = if j = 4 then none else if j = 3 then some cells.val else some (pinLevels p / 128)

/-! ### Tamper response -/

/-- Tocsin (R499 to R504, R474, R112, R662): a trip while VDDK is in its window latches the sensor, zeroises and removes
VDDC; on VBAT it is latched for the next arming; the burn raises the counter by one, sets the LOCKED latch and locks;
arming that finds nothing arms; THERMTRIP drops the line, zeroises and removes VDDC; the known-answer tests pass, fail
once, and lock at the second failure. Choices of the model: log entries 28 and 58. -/
def Obligations.TocsinRowsRun : Prop :=
  (∀ (sensor : Nat) (s : State), s.sensorWatched sensor = true → s.onVddk = true → s.dev.st ≠ .held → s.toc.burning = false →
    exec (.tamperTrip sensor) s =
      .next { (({ s with toc := tocSense sensor s.toc } : State).tamperRespond sensor).after with pending := s.pending } ∧
    (({ s with toc := tocSense sensor s.toc } : State).tamperRespond sensor).power.vddcEn = false) ∧
  (∀ (sensor : Nat) (s : State), s.sensorWatched sensor = true → s.onVddk = false → s.toc.latch = none →
    exec (.tamperTrip sensor) s =
      .next { ({ s with toc := { tocSense sensor s.toc with
        latch := some sensor, cause := sensor, causeState := 0xF, cleanFlag := false } } : State).after with pending := s.pending }) ∧
  (∀ s : State, s.toc.burning = true → s.dev.st ≠ .muffled →
    exec .tamperCounterBurn s =
      .next { ((({ s with toc := { s.toc with count := min 4096 (s.toc.count + 1), burning := false } } : State).enterLocked).tamperEvent
        s.toc.cause).after with pending := s.pending }) ∧
  (∀ s : State, s.dev.st = .booting → s.dev.bootStep = 0 → s.toc.armed = false → s.toc.burning = false → s.toc.latch = none →
    s.toc.count < 4096 → ∃ t, exec (.tocsinArm false false false) s = .next t ∧ t.toc.armed = true ∧
      t.toc.continuity = !s.toc.unbroken ∧ t.dev = s.dev) ∧
  (∀ s : State, s.dev.st = .running → s.power.sysRstN = true →
    exec .thermtrip s = .next { s.thermtrip.after with pending := s.pending } ∧ s.thermtrip.power.thermtripN = false ∧
      s.thermtrip.power.vddcEn = false ∧ s.thermtrip.toc.therm = true) ∧
  (∀ s : State, s.dev.st = .running →
    exec (.katTick true) s =
      .next { ({ s with keyhold := { s.keyhold with katFailed := false } } : State).after with pending := s.pending } ∧
    (s.keyhold.katFailed = true →
      exec (.katTick false) s = .next { (s.fatalLocked 5 .fatal).after with pending := s.pending }))

/-- LOCKED (R134, R111): entering it sets the latch, ends every transition in progress, stops the Stores' scrub, and lets no start
of the core stand; where the core is off already it leaves Keyhold and the counter as they are. -/
def Obligations.LockedIsEntered : Prop :=
  ∀ s : State, s.enterLocked.dev.st = .locked ∧ s.enterLocked.toc.lockedLatch = true ∧ s.enterLocked.dev.switch = none ∧
    s.enterLocked.dev.wake = none ∧ s.enterLocked.dev.muffling = none ∧ s.enterLocked.stores.scrub = 0 ∧
    s.enterLocked.power.restartDue = false ∧
    (s.power.vddc ≠ .good → s.power.vddc ≠ .starting →
      s.enterLocked.keyhold = s.keyhold ∧ s.enterLocked.toc.count = s.toc.count ∧ s.enterLocked.power.vddc = s.power.vddc)

/-! ### Memory and registers of a Pan -/

/-- A byte written is the byte read back, every other address reads as before, and a string written from an address on
reads back byte by byte with every byte outside it as before. Choices of the model: log entry 11. -/
def Obligations.MemoryReadsWhatWasWritten : Prop :=
  ∀ (m : List (Nat × Byte)) (k j : Nat) (v : Byte) (bs : Bytes),
    Memory.read (Memory.write m k v) k = v ∧ (j ≠ k → Memory.read (Memory.write m k v) j = Memory.read m j) ∧
    (k ≤ j → j < k + bs.length → Memory.read (Memory.writeN m k bs) j = bs.getD (j - k) 0) ∧
    (j < k ∨ k + bs.length ≤ j → Memory.read (Memory.writeN m k bs) j = Memory.read m j)

/-- Clearing a range makes it read zero and leaves every other address as it was. Choices of the model: log entry 11. -/
def Obligations.ClearedMemoryReadsZero : Prop :=
  ∀ (m : List (Nat × Byte)) (lo hi j : Nat),
    (lo ≤ j → j < hi → Memory.read (Memory.clear m lo hi) j = 0) ∧
    (j < lo ∨ hi ≤ j → Memory.read (Memory.clear m lo hi) j = Memory.read m j)

/-- The register file (Table SEQ-1): g0 reads zero and p0 reads one whatever is written; another register reads what was
last written to it, modulo 2^64; a write to one register leaves the others. -/
def Obligations.RegisterFile : Prop :=
  ∀ (q : Pan) (d r v : Nat) (b : Bool), d < 32 → r < 32 →
    gReg (setG q d v) r = (if r = 0 then 0 else if r = d then v % 2 ^ 64 else gReg q r) ∧
    (d < 8 → r < 8 → pReg (setP q d b) r = (r == 0 || if r = d then b else pReg q r)) ∧
    (setG q d v).mem = q.mem ∧ (setG q d v).p = q.p ∧ (setP q d b).g = q.g ∧ setG q 0 v = q ∧ setP q 0 b = q

/-! ### Instructions of the Pan sequencer -/

/-- The instructions of three registers (R336): gD becomes the operation on gA and gB modulo 2^64, shifts by gB modulo 64;
the sequencer moves on, and nothing else changes. -/
def Obligations.AluInstructions : Prop :=
  ∀ (p : Fin 48) (w : BitVec 25) (s : State), fld w 5 0 = 0 →
    ∀ x ∈ ([(Instr.add, 0x02, fun a b => a + b), (Instr.sub, 0x03, fun a b => a + 2 ^ 64 - b), (Instr.and, 0x04, fun a b => a &&& b),
        (Instr.or, 0x05, fun a b => a ||| b), (Instr.xor, 0x06, fun a b => a ^^^ b), (Instr.shl, 0x07, fun a b => a * 2 ^ (b % 64)),
        (Instr.shr, 0x08, fun a b => a / 2 ^ (b % 64)), (Instr.mul, 0x09, fun a b => a * b)] :
        List ((Fin 48 → BitVec 25 → Instr) × Nat × (Nat → Nat → Nat))), s.ready p x.2.1 w = true →
      ∃ t, exec (x.1 p w) s = .next t ∧ onlyPan s t p ∧
        t.pan p = stepped (s.pan p) (setG (s.pan p) (fld w 20 16)
          (x.2.2 (gReg (s.pan p) (fld w 15 11)) (gReg (s.pan p) (fld w 10 6)) % 2 ^ 64))

/-- The other instructions that write one register (R336, R337, R348): NOP none, ADDI the sum with the sign-extended
immediate, LDI the shifted register with the immediate, RDST an item of Table SEQ-6, AGRD a generator's current row
address. -/
def Obligations.RegisterWritingInstructions : Prop :=
  ∀ (p : Fin 48) (w : BitVec 25) (s : State),
    (s.ready p 0x01 w = true → fld w 20 0 = 0 → ∃ t, exec (.nop p w) s = .next t ∧ onlyPan s t p ∧
      t.pan p = stepped (s.pan p) (s.pan p)) ∧
    (s.ready p 0x0A w = true → ∃ t, exec (.addi p w) s = .next t ∧ onlyPan s t p ∧
      t.pan p = stepped (s.pan p) (setG (s.pan p) (fld w 20 16)
        (((gReg (s.pan p) (fld w 20 16) : Int) + signed 16 (fld w 15 0)) % 2 ^ 64).toNat)) ∧
    (s.ready p 0x0B w = true → ∃ t, exec (.ldi p w) s = .next t ∧ onlyPan s t p ∧
      t.pan p = stepped (s.pan p) (setG (s.pan p) (fld w 20 16) (gReg (s.pan p) (fld w 20 16) * 2 ^ 16 + fld w 15 0))) ∧
    (s.ready p 0x15 w = true → fld w 15 5 = 0 → fld w 4 0 < 6 → ∃ t, exec (.rdst p w) s = .next t ∧ onlyPan s t p ∧
      t.pan p = stepped (s.pan p) (setG (s.pan p) (fld w 20 16) (rdstItem s p (fld w 4 0)))) ∧
    (s.ready p 0x1B w = true → s.clear p (planAgrd p w s) = true → ∃ t, exec (.agrd p w) s = .next t ∧ onlyPan s t p ∧
      t.pan p = stepped (s.pan p) (setG (s.pan p) (fld w 20 16) (unsigned 64
        (((agOf (s.pan p) (fld w 1 0)).base : Int) + (agOf (s.pan p) (fld w 1 0)).pos * (agOf (s.pan p) (fld w 1 0)).stride))))

/-- CMP sets a predicate by an unsigned or signed comparison, and CLST clears flags (R336, R229): no register, no memory. -/
def Obligations.PredicateAndFlagInstructions : Prop :=
  ∀ (p : Fin 48) (w : BitVec 25) (s : State),
    (s.ready p 0x0C w = true → fld w 20 19 = 0 → fld w 5 3 = 0 → fld w 2 0 < 6 →
      ∃ t, exec (.cmp p w) s = .next t ∧ onlyPan s t p ∧
        t.pan p = stepped (s.pan p) (setP (s.pan p) (fld w 18 16)
          (let a := gReg (s.pan p) (fld w 15 11)
           let b := gReg (s.pan p) (fld w 10 6)
           match fld w 2 0 with
           | 0 => a == b | 1 => a != b | 2 => decide (a < b) | 3 => decide (b ≤ a)
           | 4 => decide (signed 64 a < signed 64 b) | _ => decide (signed 64 b ≤ signed 64 a)))) ∧
    (s.ready p 0x16 w = true → fld w 20 17 = 0 → fld w 16 16 = 0 → fld w 15 7 = 0 →
      ∃ t, exec (.clst p w) s = .next t ∧ onlyPan s t p ∧ (∀ k, bitOf (t.pan p).nstat k = (bitOf (s.pan p).nstat k && !bitOf (fld w 15 0) k)) ∧
        (t.pan p).cstat = (s.pan p).cstat ∧ (t.pan p).g = (s.pan p).g ∧ (t.pan p).mem = (s.pan p).mem) ∧
    (s.ready p 0x16 w = true → fld w 20 17 = 0 → fld w 16 16 = 1 → fld w 15 3 = 0 →
      ∃ t, exec (.clst p w) s = .next t ∧ onlyPan s t p ∧ (∀ k, bitOf (t.pan p).cstat k = (bitOf (s.pan p).cstat k && !bitOf (fld w 15 0) k)) ∧
        (t.pan p).nstat = (s.pan p).nstat ∧ (t.pan p).g = (s.pan p).g ∧ (t.pan p).mem = (s.pan p).mem)

/-- LD and ST (R333, R210): a load takes 8 bytes little-endian into gD and leaves memory, with the upsets corrected or retried that
its command lets it meet; one of a word that fails twice traps MEMORY with UNCORRECTABLE; a store writes 8 bytes of gD at the address
that `lsAddr` gives and leaves every register, every flag and every other byte of memory. Choices of the model: log entry 69. -/
def Obligations.LoadAndStore : Prop :=
  ∀ (p : Fin 48) (w : BitVec 25) (s : State), inRange (s.pan p) (lsAddr (s.pan p) w) 8 = true → lsAddr (s.pan p) w % 8 = 0 →
    s.held p (lsAddr (s.pan p) w) 8 = false →
    (∀ ups, s.ready p 0x0D w = true → failingIn (s.pan p) ups (lsAddr (s.pan p) w) 8 = [] →
      ∃ t, exec (.ld p w ups) s = .next t ∧ (∀ p', p' ≠ p.val → t.pan p' = s.pan p') ∧ t.ctxs = s.ctxs ∧
        t.pan p = stepped (s.pan p) (setG (s.pan p) (fld w 20 16) (leNat (Memory.readN (s.pan p).mem (lsAddr (s.pan p) w) 8))) ∧
        (upsetsIn ups (lsAddr (s.pan p) w) 8 = [] → onlyPan s t p)) ∧
    (∀ ups, s.ready p 0x0D w = true → failingIn (s.pan p) ups (lsAddr (s.pan p) w) 8 ≠ [] →
      ∃ t, exec (.ld p w ups) s = .next t ∧ (t.pan p).st = .trapped ∧ (t.pan p).trapPc = (s.pan p).pc ∧
        (t.pan p).trapCode = statusCode .uncorrectable) ∧
    (s.ready p 0x0E w = true → ∃ t, exec (.st p w) s = .next t ∧ onlyPan s t p ∧
      (∀ k, k < 8 → Memory.read (t.pan p).mem (lsAddr (s.pan p) w + k) = BitVec.ofNat 8 (gReg (s.pan p) (fld w 20 16) / 256 ^ k)) ∧
      (∀ a, a < lsAddr (s.pan p) w ∨ lsAddr (s.pan p) w + 8 ≤ a → Memory.read (t.pan p).mem a = Memory.read (s.pan p).mem a) ∧
      (t.pan p).g = (s.pan p).g ∧ (t.pan p).p = (s.pan p).p ∧ (t.pan p).nstat = (s.pan p).nstat ∧ (t.pan p).cstat = (s.pan p).cstat)

/-- LD and ST trap (R333, Table SEQ-7): out of range ADDRESS, else unaligned ALIGN; the Pan is TRAPPED at its word
with REFUSED. -/
def Obligations.LoadAndStoreTrap : Prop :=
  ∀ (p : Fin 48) (w : BitVec 25) (ups : List (Nat × Upset)) (s : State),
    ∀ x ∈ ([(Instr.ld p w ups, 0x0D), (.st p w, 0x0E)] : List (Instr × Nat)), s.ready p x.2 w = true →
      inRange (s.pan p) (lsAddr (s.pan p) w) 8 = false ∨ lsAddr (s.pan p) w % 8 ≠ 0 →
      ∃ t, exec x.1 s = .next t ∧ (t.pan p).st = .trapped ∧ (t.pan p).trapPc = (s.pan p).pc ∧
        (t.pan p).trapCode = statusCode .refused

/-- Control flow (R336, R342): JMP to an absolute word, BR relative to pc, JR to a register below 16,384, LOOP unless its
counter, less one modulo 2^64, is zero (on g0, which reads zero, always), SYNCI to the next word; every one empties the prefetch
buffer, but a LOOP that ends; JR to a word beyond 16,383 traps. -/
def Obligations.ControlFlowInstructions : Prop :=
  ∀ (p : Fin 48) (w : BitVec 25) (s : State),
    (s.ready p 0x10 w = true → fld w 20 14 = 0 → ∃ t, exec (.jmp p w) s = .next t ∧ onlyPan s t p ∧
      t.pan p = jumped (s.pan p) (s.pan p) (fld w 13 0)) ∧
    (s.ready p 0x11 w = true → fld w 20 16 = 0 → ∃ t, exec (.br p w) s = .next t ∧ onlyPan s t p ∧
      t.pan p = jumped (s.pan p) (s.pan p) ((((s.pan p).pc : Int) + signed 16 (fld w 15 0)) % 16384).toNat) ∧
    (s.ready p 0x12 w = true → fld w 20 16 = 0 → fld w 10 0 = 0 → gReg (s.pan p) (fld w 15 11) < 16384 →
      ∃ t, exec (.jr p w) s = .next t ∧ onlyPan s t p ∧ t.pan p = jumped (s.pan p) (s.pan p) (gReg (s.pan p) (fld w 15 11))) ∧
    (s.ready p 0x13 w = true → fld w 20 16 = 0 ∨ gReg (s.pan p) (fld w 20 16) ≠ 1 → gReg (s.pan p) (fld w 20 16) < 2 ^ 64 →
      ∃ t, exec (.loop p w) s = .next t ∧ onlyPan s t p ∧
        t.pan p = jumped (s.pan p) (setG (s.pan p) (fld w 20 16) (gReg (s.pan p) (fld w 20 16) + (2 ^ 64 - 1)))
          ((((s.pan p).pc : Int) + signed 16 (fld w 15 0)) % 16384).toNat) ∧
    (s.ready p 0x13 w = true → gReg (s.pan p) (fld w 20 16) = 1 → ∃ t, exec (.loop p w) s = .next t ∧
      onlyPan s t p ∧ t.pan p = stepped (s.pan p) (setG (s.pan p) (fld w 20 16) 0)) ∧
    (s.ready p 0x52 w = true → fld w 20 0 = 0 → ∃ t, exec (.synci p w) s = .next t ∧ onlyPan s t p ∧
      t.pan p = jumped (s.pan p) (s.pan p) ((s.pan p).pc + 1)) ∧
    (s.ready p 0x12 w = true → fld w 20 16 = 0 → fld w 10 0 = 0 → 16384 ≤ gReg (s.pan p) (fld w 15 11) →
      ∃ t, exec (.jr p w) s = .next t ∧ (t.pan p).st = .trapped)

/-- STI (R342): an instruction word is written; the words already prefetched stand. -/
def Obligations.StoreInstructionWord : Prop :=
  ∀ (p : Fin 48) (w : BitVec 25) (s : State), s.ready p 0x53 w = true → fld w 20 16 = 0 → fld w 5 0 = 0 →
    gReg (s.pan p) (fld w 15 11) < 16384 →
    ∃ t, exec (.sti p w) s = .next t ∧ onlyPan s t p ∧
      imemWord (t.pan p) (gReg (s.pan p) (fld w 15 11)) = gReg (s.pan p) (fld w 10 6) % 2 ^ 32 ∧
      (∀ i, i < 16384 → i ≠ gReg (s.pan p) (fld w 15 11) → imemWord (t.pan p) i = imemWord (s.pan p) i) ∧
      (t.pan p).prefetch = (fetched (s.pan p)).drop 1 ∧ (t.pan p).g = (s.pan p).g ∧ (t.pan p).mem = (s.pan p).mem

/-- The blocking instructions (R332, R336): HALT, KDRAIN, FENCE, RECV, WAITT, and FENCEC in a live Quad-wide harvest stop the
sequencer at their word, KDRAIN, RECV and WAITT once their engine's queue has a place; FENCEC elsewhere writes OK and moves on.
Choices of the model: log entry 61. -/
def Obligations.BlockingInstructions : Prop :=
  ∀ (p : Fin 48) (w : BitVec 25) (s : State),
    (∀ x ∈ ([(Instr.halt, 0x14, .halt), (Instr.fence, 0x50, .fence)] :
        List ((Fin 48 → BitVec 25 → Instr) × Nat × Blocked)), s.ready p x.2.1 w = true → fld w 20 0 = 0 →
      ∃ t, exec (x.1 p w) s = .next t ∧ onlyPan s t p ∧ t.pan p = blockedBy (s.pan p) x.2.2) ∧
    (s.ready p 0x35 w = true → fld w 20 0 = 0 → (s.pan p).kq.length < 4 → ∃ t, exec (.kdrain p w) s = .next t ∧ onlyPan s t p ∧
      t.pan p = blockedBy (s.pan p) .kdrain) ∧
    (s.ready p 0x21 w = true → s.clear p (planRecv p w s) = true → ∃ t, exec (.recv p w) s = .next t ∧ onlyPan s t p ∧
      t.pan p = blockedBy (s.pan p) (.recv (fld w 20 15) (fld w 14 13) (fld w 12 8))) ∧
    (s.ready p 0x22 w = true → s.clear p (planWaitt p w s) = true → ∃ t, exec (.waitt p w) s = .next t ∧ onlyPan s t p ∧
      t.pan p = blockedBy (s.pan p) (.waitt (fld w 20 15) (fld w 14 10))) ∧
    (s.ready p 0x51 w = true → fld w 15 0 = 0 → s.quadLive p = true → ∃ t, exec (.fencec p w) s = .next t ∧ onlyPan s t p ∧
      t.pan p = blockedBy (s.pan p) (.fencec (fld w 20 16))) ∧
    (s.ready p 0x51 w = true → fld w 15 0 = 0 → s.quadLive p = false → ∃ t, exec (.fencec p w) s = .next t ∧ onlyPan s t p ∧
      t.pan p = stepped (s.pan p) (setG (s.pan p) (fld w 20 16) 0))

/-- How blocking instructions end (R336, R246, R349): each at its own condition, with the sequencer on the next word; FENCEC
answers POSTED_FAIL where the epoch of a Quad-wide harvest is dirty, and OK elsewhere; RECV and WAITT act in their turn on the
port. -/
def Obligations.BlockingInstructionsEnd : Prop :=
  ∀ (p : Fin 48) (s : State), (s.pan p).st = .running →
    ((s.pan p).blocked = some .halt → enginesIdle (s.pan p) = true →
      exec (.haltComplete p) s = .next { s.updPan p fun q => { unblock q with st := .halted } with pending := s.pending }) ∧
    ((s.pan p).blocked = some .kdrain → (s.pan p).kq = [] →
      exec (.kdrainComplete p) s = .next { s.updPan p unblock with pending := s.pending }) ∧
    ((s.pan p).blocked = some .fence → enginesIdle (s.pan p) = true → s.portIdle p = true →
      exec (.fenceComplete p) s = .next { s.updPan p unblock with pending := s.pending }) ∧
    (∀ d, (s.pan p).blocked = some (.fencec d) → s.writesOpen p = false →
      exec (.fencecComplete p) s = .next { s.updPan p fun q => unblock (setG q d (statusCode
        (if s.car.job.any (·.dirty) && s.quadLive p then .postedFail else .ok))) with pending := s.pending }) ∧
    (∀ c d it rest, (s.pan p).blocked = some (.waitt c d) → (s.pan p).pq = [] → rxOf (s.pan p) c = it :: rest → it.token = true →
      exec (.waittComplete p) s =
        .next { s.updPan p fun q => unblock (setG (setRx q c rest) d (leAt it.data 0 4)) with pending := s.pending }) ∧
    (∀ c g d it rest, (s.pan p).blocked = some (.recv c g d) → (s.pan p).pq = [] → rxOf (s.pan p) c = it :: rest →
      it.token = false →
      s.held p (rowAddr (agOf (s.pan p) g) 0).toNat (padTo (128 * flitsOf it.data) it.data).length = false →
      exec (.recvComplete p) s =
        .next { s.updPan p fun q => unblock (setG (setAg (setRx (panWrite q (rowAddr (agOf (s.pan p) g) 0).toNat
          (padTo (128 * flitsOf it.data) it.data)) c rest) g (advAg (agOf q g) 1)) d (flitsOf it.data)) with pending := s.pending })

/-- Address generators (R334): AGSET writes base, stride and count and zeroes the position; AGSCL the scale base and stride
alone; AGADV moves the position modulo the count. -/
def Obligations.GeneratorInstructions : Prop :=
  ∀ (p : Fin 48) (w : BitVec 25) (s : State),
    (s.ready p 0x18 w = true → s.clear p (planAgset p w s) = true → ∃ t, exec (.agset p w) s = .next t ∧ onlyPan s t p ∧
      t.pan p = stepped (s.pan p) (setAg (s.pan p) (fld w 17 16) { agOf (s.pan p) (fld w 17 16) with
        base := bitsOf (gReg (s.pan p) (fld w 15 11)) 22 0, stride := signed 24 (bitsOf (gReg (s.pan p) (fld w 10 6)) 23 0),
        count := bitsOf (gReg (s.pan p) (fld w 10 6)) 48 32, pos := 0 })) ∧
    (s.ready p 0x19 w = true → s.clear p (planAgscl p w s) = true → ∃ t, exec (.agscl p w) s = .next t ∧ onlyPan s t p ∧
      t.pan p = stepped (s.pan p) (setAg (s.pan p) (fld w 17 16) { agOf (s.pan p) (fld w 17 16) with
        sbase := bitsOf (gReg (s.pan p) (fld w 15 11)) 22 0, sstride := signed 24 (bitsOf (gReg (s.pan p) (fld w 10 6)) 23 0) })) ∧
    (s.ready p 0x1A w = true → s.clear p (planAgadv p w s) = true → ∃ t, exec (.agadv p w) s = .next t ∧ onlyPan s t p ∧
      t.pan p = stepped (s.pan p) (setAg (s.pan p) (fld w 17 16) { agOf (s.pan p) (fld w 17 16) with
        pos := ((((agOf (s.pan p) (fld w 17 16)).pos : Int) + signed 16 (fld w 15 0)) % (agOf (s.pan p) (fld w 17 16)).count).toNat }))

/-- Port, Grainer and Crystalliser instructions join their engine's queue with the generators as they stand (R332, R203,
R309, R273, R275, R278, R288, R293). Choices of the model: log entry 61. -/
def Obligations.EngineInstructionsQueue : Prop :=
  ∀ (p : Fin 48) (w : BitVec 25) (s : State),
    (s.ready p 0x20 w = true → s.clear p (planSend p w s) = true → ∃ t, exec (.send p w) s = .next t ∧ onlyPan s t p ∧
      t.pan p = stepped (s.pan p) (enqueueEng (s.pan p) .port (.send (fld w 20 15) (fld w 14 13) (fld w 12 9 + 1)))) ∧
    (s.ready p 0x23 w = true → s.clear p (planSigt p w s) = true → ∃ t, exec (.sigt p w) s = .next t ∧ onlyPan s t p ∧
      t.pan p = stepped (s.pan p) (enqueueEng (s.pan p) .port (.sigt (fld w 20 15) (gReg (s.pan p) (fld w 14 10) % 2 ^ 32)))) ∧
    (s.ready p 0x40 w = true → s.clear p (planGseed p w s) = true → ∃ t, exec (.gseed p w) s = .next t ∧ onlyPan s t p ∧
      t.pan p = stepped (s.pan p) (enqueueEng (s.pan p) .grainer (.gseed (gReg (s.pan p) (fld w 15 11))))) ∧
    (s.ready p 0x41 w = true → s.clear p (planGexp p w s) = true → gReg (s.pan p) (fld w 15 11) ≠ 0 →
      ∃ t, exec (.gexp p w) s = .next t ∧ onlyPan s t p ∧
        (t.pan p).gq.map (·.op) = (s.pan p).gq.map (·.op) ++ [.gexp (gReg (s.pan p) (fld w 15 11))] ∧
        (t.pan p).cq.map (·.op) = (s.pan p).cq.map (·.op) ++ [.gexpLane] ∧ (t.pan p).mem = (s.pan p).mem) ∧
    (s.ready p 0x42 w = true → s.clear p (planGstream p w s) = true → ∃ t, exec (.gstream p w) s = .next t ∧ onlyPan s t p ∧
      t.pan p = stepped (s.pan p) (enqueueEng (s.pan p) .grainer (.gstream (fld w 20 19 == 1)
        (if fld w 18 18 = 1 then none else some (fld w 17 16)) (fld w 15 10) (gReg (s.pan p) (fld w 9 5))
        (bitsOf (gReg (s.pan p) (fld w 4 0)) 63 32) (bitsOf (gReg (s.pan p) (fld w 4 0)) 31 0)))) ∧
    (s.ready p 0x43 w = true → s.clear p (planRing false p w s) = true → ∃ t, exec (.cadd p w) s = .next t ∧ onlyPan s t p ∧
      t.pan p = stepped (s.pan p) (enqueueEng (s.pan p) .crystalliser (if fld w 18 17 = 2 then .caddItem
        else .cring false (16 * 2 ^ fld w 20 19) (if fld w 18 17 = 1 then some (fld w 16 11) else none) (gReg (s.pan p) (fld w 10 6))))) ∧
    (s.ready p 0x44 w = true → s.clear p (planRing true p w s) = true → ∃ t, exec (.csub p w) s = .next t ∧ onlyPan s t p ∧
      t.pan p = stepped (s.pan p) (enqueueEng (s.pan p) .crystalliser
        (.cring true (16 * 2 ^ fld w 20 19) (if fld w 18 17 = 1 then some (fld w 16 11) else none) (gReg (s.pan p) (fld w 10 6))))) ∧
    (s.ready p 0x45 w = true → s.clear p (planCfield p w s) = true → ∃ t, exec (.cfield p w) s = .next t ∧ onlyPan s t p ∧
      t.pan p = stepped (s.pan p) (enqueueEng (s.pan p) .crystalliser (.cfield (fld w 20 18) (gReg (s.pan p) (fld w 17 13))))) ∧
    (s.ready p 0x46 w = true → s.clear p (planCnoise p w s) = true → ∃ t, exec (.cnoise p w) s = .next t ∧ onlyPan s t p ∧
      t.pan p = stepped (s.pan p) { enqueueEng (s.pan p) .crystalliser .cnoise with noiseIssued := true, noiseStart := s.cad.toll }) ∧
    (s.ready p 0x47 w = true → s.clear p (planCdeq p w s) = true → ∃ t, exec (.cdeq p w) s = .next t ∧ onlyPan s t p ∧
      t.pan p = stepped (s.pan p) (enqueueEng (s.pan p) .crystalliser (.cdeq (nmodeOf (fld w 7 0))))) ∧
    (s.ready p 0x48 w = true → s.clear p (planCfuse p w s) = true → ∃ t, exec (.cfuse p w) s = .next t ∧ onlyPan s t p ∧
      t.pan p = stepped (s.pan p) (enqueueEng (s.pan p) .crystalliser
        (.cfuse (fld w 20 17) (fld w 16 16 == 1) (gReg (s.pan p) (fld w 15 11)) (nmodeOf (fld w 7 0)))))

/-- The Kettle's instructions join its queue (R243 to R247, R259, R261, R332). Choices of the model: log entry 61. -/
def Obligations.KettleInstructionsQueue : Prop :=
  ∀ (p : Fin 48) (w : BitVec 25) (s : State),
    (s.ready p 0x30 w = true → s.clear p (planKcfg p w s) = true → ∃ t c, exec (.kcfg p w) s = .next t ∧ onlyPan s t p ∧
      (t.pan p).kq.map (·.op) = (s.pan p).kq.map (·.op) ++ [.kcfg c] ∧ (t.pan p).kcfgIssue = c ∧
      fmtOf (fld w 20 17) = some c.stat ∧ fmtOf (fld w 16 13) = some c.str ∧ (t.pan p).kcfg = (s.pan p).kcfg) ∧
    (s.ready p 0x31 w = true → s.clear p (planKout p w s) = true → ∃ t o, exec (.kout p w) s = .next t ∧ onlyPan s t p ∧
      (t.pan p).kq.map (·.op) = (s.pan p).kq.map (·.op) ++ [.kout o] ∧ (t.pan p).koutIssue = o ∧
      fmtOf (fld w 20 17) = some o.fmt ∧ o.stats = fld w 10 9) ∧
    (s.ready p 0x32 w = true → s.clear p (planKload p w s) = true → ∃ t, exec (.kload p w) s = .next t ∧ onlyPan s t p ∧
      (t.pan p).kq.map (·.op) = (s.pan p).kq.map (·.op) ++
        [.kload (fld w 20 20) (fld w 18 17) (if fld w 16 16 = 1 then some (fld w 15 10) else none)] ∧ (t.pan p).mem = (s.pan p).mem) ∧
    (s.ready p 0x33 w = true → s.clear p (planKrun p w s) = true → ∃ t src fu, exec (.krun p w) s = .next t ∧ onlyPan s t p ∧
      (t.pan p).kq.map (·.op) = (s.pan p).kq.map (·.op) ++
        [.krun (fld w 20 20) (fld w 19 19 == 1) (fld w 18 17) (gReg (s.pan p) (fld w 16 12)) src fu (s.pan p).kcfgIssue
          (outOf (s.pan p).kcfgIssue (s.pan p).koutIssue)] ∧
      src = (if fld w 11 11 = 1 then some (fld w 9 4) else none)) ∧
    (s.ready p 0x34 w = true → s.clear p (planKpass p w s) = true → ∃ t fu, exec (.kpass p w) s = .next t ∧ onlyPan s t p ∧
      (t.pan p).kq.map (·.op) = (s.pan p).kq.map (·.op) ++
        [.kpass (fld w 15 15 == 1) (gReg (s.pan p) (fld w 20 16)) fu (s.pan p).koutIssue] ∧ (t.pan p).mem = (s.pan p).mem)

/-- How any word issues (R335, R338, R347). Each instruction issues its word by its own plan, which reads the reserved bits and the
listed values off the word. Whatever its predicate says, a word with a reserved bit set traps RESERVED and one with an unlisted value
ENUM; without its predicate a well-formed word does nothing but the sequencer's step; an undefined opcode traps OPCODE. -/
def Obligations.SkippedAndUndefinedWords : Prop :=
  (∀ (p : Fin 48) (w : BitVec 25) (ups : List (Nat × Upset)) (s : State) (i : Instr) (op : Nat) (plan : State → Plan), (i, op, plan) ∈
      [(Instr.nop p w, 0x01, planNop w), (.add p w, 0x02, planAlu opAdd p w), (.sub p w, 0x03, planAlu opSub p w),
        (.and p w, 0x04, planAlu opAnd p w), (.or p w, 0x05, planAlu opOr p w), (.xor p w, 0x06, planAlu opXor p w),
        (.shl p w, 0x07, planAlu opShl p w), (.shr p w, 0x08, planAlu opShr p w), (.mul p w, 0x09, planAlu opMul p w),
        (.addi p w, 0x0A, planAddi p w), (.ldi p w, 0x0B, planLdi p w), (.cmp p w, 0x0C, planCmp p w), (.ld p w ups, 0x0D, planLd p w ups),
        (.st p w, 0x0E, planSt p w), (.jmp p w, 0x10, planJmp w), (.br p w, 0x11, planBr p w), (.jr p w, 0x12, planJr p w),
        (.loop p w, 0x13, planLoop p w), (.halt p w, 0x14, planHalt w), (.rdst p w, 0x15, planRdst p w),
        (.clst p w, 0x16, planClst p w), (.agset p w, 0x18, planAgset p w), (.agscl p w, 0x19, planAgscl p w),
        (.agadv p w, 0x1A, planAgadv p w), (.agrd p w, 0x1B, planAgrd p w), (.send p w, 0x20, planSend p w),
        (.recv p w, 0x21, planRecv p w), (.waitt p w, 0x22, planWaitt p w), (.sigt p w, 0x23, planSigt p w),
        (.kcfg p w, 0x30, planKcfg p w), (.kout p w, 0x31, planKout p w), (.kload p w, 0x32, planKload p w),
        (.krun p w, 0x33, planKrun p w), (.kpass p w, 0x34, planKpass p w), (.kdrain p w, 0x35, planKdrain w),
        (.gseed p w, 0x40, planGseed p w), (.gexp p w, 0x41, planGexp p w), (.gstream p w, 0x42, planGstream p w),
        (.cadd p w, 0x43, planRing false p w), (.csub p w, 0x44, planRing true p w), (.cfield p w, 0x45, planCfield p w),
        (.cnoise p w, 0x46, planCnoise p w), (.cdeq p w, 0x47, planCdeq p w), (.cfuse p w, 0x48, planCfuse p w),
        (.fence p w, 0x50, planFence w), (.fencec p w, 0x51, planFencec p w), (.synci p w, 0x52, planSynci w),
        (.sti p w, 0x53, planSti p w)] →
    exec i s = .next { s.issueWord p (wordOfOp op w) false plan with pending := s.pending }) ∧
  (∀ (p : Fin 48) (word : Nat) (s : State) (plan : State → Plan), canIssue (s.pan p) false = true →
    (fetched (s.pan p)).head? = some word → pReg (s.pan p) (bitsOf word 24 22) = bitOf word 21 →
    let t := s.issueWord p word false plan
    ((plan s).rsv = true → (t.pan p).st = .trapped ∧ (t.pan p).trapPc = (s.pan p).pc ∧
      (t.pan p).trapCode = statusCode .reservedNonzero) ∧
    ((plan s).rsv = false → (plan s).bad = true → (t.pan p).st = .trapped ∧ (t.pan p).trapPc = (s.pan p).pc ∧
      (t.pan p).trapCode = statusCode .badEnum) ∧
    ((plan s).rsv = false → (plan s).bad = false → onlyPan s t p ∧ t.pan p = stepped (s.pan p) (s.pan p))) ∧
  (∀ (p : Fin 48) (w : BitVec 25) (s : State), s.ready p 0x02 w = true → fld w 5 0 ≠ 0 →
    ∃ t, exec (.add p w) s = .next t ∧ (t.pan p).st = .trapped ∧ (t.pan p).trapCode = statusCode .reservedNonzero) ∧
  (∀ (p : Fin 48) (word : BitVec 32) (s : State), canIssue (s.pan p) false = true → (fetched (s.pan p)).head? = some word.toNat →
    listedOps.contains (word.toNat / 2 ^ 25) = false →
    ∃ t, exec (.undefinedOpcode p word) s = .next t ∧ (t.pan p).st = .trapped ∧ (t.pan p).trapPc = (s.pan p).pc ∧
      (t.pan p).trapCode = statusCode .illegalOpcode)

/-! ### The image, the fabric, the engines -/

/-- The image's rows (R172, R173, R178, R182, R194): a staged file's first failing check ends the load with its status,
detail and section, and one that passes asks its Pans to quiesce; once they have, the apply writes; once the ports are
synchronised and the self-tests over, it is published; a Pan that quiesces is QUIESCED, or RETIRED where a retirement asked it; one
that takes too long goes back to its previous state, but for one that is QUIESCED already.
Choices of the model: log entries 26 and 56. -/
def Obligations.ImageRowsRun : Prop :=
  (∀ (ld : ImgLoad) (s : State), s.img.load = some ld → ld.phase = 1 →
    exec .imageStaged s =
      .next { (match s.imageFail ld with
        | some e => s.endLoad ld.pf e.status e.detail e.sec ld.orphan
        | none =>
          let t := (s.applyPans ld.partialCtx).foldl (fun (s : State) p => s.updPan p (quiescePan false)) s
          { t with img := { t.img with load := some { ld with phase := 2 } } }).after with pending := s.pending }) ∧
  (∀ (pf : Nat) (st : Status) (d sec : Nat) (orphan : Bool) (s : State), (s.endLoad pf st d sec orphan).img.load = none ∧
    (s.endLoad pf st d sec orphan).img.status = statusCode st ∧ (s.endLoad pf st d sec orphan).img.detail = d ∧
    (s.endLoad pf st d sec orphan).img.loaded = s.img.loaded ∧ (s.endLoad pf st d sec orphan).pans = s.pans) ∧
  (∀ (ld : ImgLoad) (s : State), s.img.load = some ld → ld.phase = 2 →
    ((s.applyPans ld.partialCtx).all fun p => (s.pan p).st == .quiesced ||
      ((s.pan p).st == .unassigned && !s.sweep.slice.any fun l => l.pan == p)) = true →
    exec .imageApply s =
      .next { (let t := match ld.partialCtx with | none => s.writeFull ld.file | some c => s.writePartial c ld.file
        ({ t with img := { t.img with load := some { ld with phase := 3 } } } : State)).after with pending := s.pending }) ∧
  (∀ (ld : ImgLoad) (s : State), s.img.load = some ld → ld.phase = 3 → s.fabric.sync = none → s.sweep.testing = [] →
    exec .imageApply s = .next { (s.publish ld).after with pending := s.pending }) ∧
  (∀ (p : Fin 48) (s : State), (s.pan p).prior.isSome = true → (s.pan p).st = .quiescing → (s.pan p).ret = false →
    s.portIdle p = true → s.sweep.slice = none →
    exec (.panQuiesced p) s =
      .next { (let t := s.updPan p fun q => { q with st := .quiesced }
        if (s.pan p).retiring then t.retireNow p else t).after with pending := s.pending }) ∧
  (∀ (p : Fin 48) (s : State), (s.pan p).prior.isSome = true → (s.pan p).st ≠ .quiesced → s.loadOwns p = false →
    exec (.quiesceTimeout p) s =
      .next { (s.updPan p fun q => { unquiescePan q with ret := false }).after with pending := s.pending })

/-- The fabric's rows (R199, R200, R202, R204, R205, R207): ROUTE_SYNC ends with nothing of its Pans in flight and is
counted; an item in its turn joins its receive channel where there is room, waits where there is none, and is a stray where
the Pan does not accept it; an item at a shared port is taken there; a millisecond of strays is reported; a port takes up a
written route. Choices of the model: log entry 44. -/
def Obligations.FabricRowsRun : Prop :=
  (∀ (y : RouteSync) (s : State), s.fabric.sync = some y → (s.fabric.inflight.any fun i => y.pans.contains i.src) = false →
    exec .routeSyncDrained s =
      .next { ((List.range 48).foldl State.settleReturn s.syncDone.settlePans).after with pending := s.pending } ∧
    s.syncDone.fabric = { s.fabric with sync := none, syncCount := (s.fabric.syncCount + 1) % 2 ^ 32 }) ∧
  (∀ (n : Nat) (it : FabItem) (s : State), s.fabric.inflight[n]? = some it → itemBefore s.fabric.inflight n it = false →
    let took : State := { s with fabric := { s.fabric with inflight := s.fabric.inflight.eraseIdx n } }
    (it.kind = 0 → s.strayReason it = none → roomFor (s.pan it.dest) it = true →
      exec (.itemDeliver n) s =
        .next { (took.updPan it.dest fun q => pull (setRx q it.dchan (rxOf q it.dchan ++ [it]))).after with pending := s.pending }) ∧
    (it.kind = 0 → s.strayReason it = none → roomFor (s.pan it.dest) it = false →
      exec (.itemDeliver n) s = .next { s.after with pending := s.pending }) ∧
    (∀ r, it.kind = 0 → s.strayReason it = some r →
      exec (.itemDeliver n) s = .next { (took.strayAt it.dest it r).after with pending := s.pending }) ∧
    (it.kind ≠ 0 → exec (.itemDeliver n) s = .next { (took.portTakes it).after with pending := s.pending })) ∧
  (∀ (p : Fin 48) (t : Nat) (s : State), (s.strayOf p).last = some t → (s.strayOf p).count ≠ 0 → t + 1000 ≤ s.cad.toll →
    exec (.strayEventFlush p) s =
      .next { (s.strayEvent p (s.strayOf p).reason (s.strayOf p).src (s.strayOf p).schan (s.strayOf p).dchan
        (s.strayOf p).count).updStray p fun x => { x with last := some s.cad.toll, count := 0 } with pending := s.pending }) ∧
  (∀ (p : Fin 48) (n : Fin 64) (s : State), (s.pan p).routePending.contains n.val = true →
    ∃ t, exec (.routePickup p n) s = .next t ∧ onlyPan s t p ∧
      (t.pan p).routePending = (s.pan p).routePending.filter (· != n.val) ∧ (t.pan p).routes = (s.pan p).routes ∧
      (t.pan p).routeCache = (if (lookupN (s.pan p).routes n).getD 0 = 0 then eraseN (s.pan p).routeCache n
        else insertN (s.pan p).routeCache n ((lookupN (s.pan p).routes n).getD 0)))

/-- What the engines do (R268, R242, R243, R332, R341, R288 to R291, R283, R286, R314). A KCFG behind nothing but shift-ins takes
effect, and a change makes both banks INVALID and abandons them. A shift-in that has its 128 rows, from Pan memory of which no word
fails twice or from channel data, fills its bank. The instruction at the head of a queue does as many rows of its work as its command
gives it and leaves the queue with the last one; KOUT takes effect, GSEED takes its 32 bytes, SIGT sends its token, CNOISE adds a
sample to its word. A token among data traps KIND, and a read of a word that fails twice MEMORY. Noise ends at its time. The tile of
a Store-resident accumulator is written, and NEXT passes it. Choices of the model: log entries 3, 21, 24, 25 and 61. -/
def Obligations.EngineRowsRun : Prop :=
  ∀ (p : Fin 48) (s : State),
    let t := s.updPan p pull
    let q := t.pan p
    (∀ before e rest c, (s.pan p).kq = before ++ e :: rest → (∀ x ∈ before, ∃ b g ch, x.op = .kload b g ch) → e.op = .kcfg c →
      engineRuns (s.pan p) = true →
      exec (.kcfgApply p) s =
        .next { s.updPan p fun x => startKload (if kcfgDiffers (s.pan p).kcfg c
          then { x with kcfg := c, banks := List.replicate 2 {}, kq := rest } else { x with kcfg := c, kq := before ++ rest }) with
          pending := s.pending }) ∧
    (∀ e b g ch ups, q.kq.find? (·.started) = some e → e.op = .kload b g ch → fed q e = true → engineRuns q = true →
      s.sweep.slice = none →
      let n := operandRowBytes q.kcfg q.kcfg.stat
      let sc := scaleRowBytes q.kcfg q.kcfg.stat
      let row (k : Nat) : Nat := (rowAddr (entAg e g) k).toNat
      let scale (k : Nat) : Nat := (scaleAddr (entAg e g) k).toNat
      (ch = none → ∀ k, k < 128 → failingIn q ups (row k) n = [] ∧ failingIn q ups (scale k) sc = []) →
      let bank := fillBank q.kcfg ((List.range 128).map fun k =>
        if ch = none then (Memory.readN q.mem (row k) n, if sc = 0 then [] else Memory.readN q.mem (scale k) sc)
        else (slice e.got (k * (n + sc)) n, slice e.got (k * (n + sc) + n) sc))
      ∃ x : State, x.pans = t.pans ∧ x.ctxs = s.ctxs ∧ (ups = [] → x = t) ∧
        exec (.shiftInDone p ups) s =
          .next { x.updPan p fun y => startKload (countWork (advGens (orNstat { y with
            banks := updAt y.banks b fun _ => bank.1, kq := y.kq.filter fun f => f.order != e.order } bank.2) e) 0 128) with
            pending := s.pending }) ∧
    (∀ eng e rest n ups, engQ q eng = e :: rest → engineRuns q = true →
      let u : Probe := { pan := p, pc := e.pc, ups := ups }
      (∀ j k x t', e.op ≠ .caddItem → t.workOf u e = some j → runRows j.row e.row (min n (j.total - e.row)) t = (k, x, t') →
        (∀ l, e.op ≠ .gexp l) → e.op ≠ .cnoise → (∀ b g ch, e.op ≠ .kload b g ch) →
        exec (.engineInstructionComplete p eng n ups) s =
          .next { (match x with
            | none => t'.updPan p fun y => if j.total ≤ k then popHead (j.fin y) eng else setRows y eng k
            | some x => (t'.updPan p fun y => setRows y eng k).stopped p e x) with pending := s.pending }) ∧
      (∀ o, e.op = .kout o → e.row = 0 →
        exec (.engineInstructionComplete p eng n ups) s =
          .next { t.updPan p fun y => popHead { y with kout := o } eng with pending := s.pending }) ∧
      (∀ a, e.op = .gseed a → e.row = 0 → 0 < n → s.sweep.slice = none → ups = [] → failingIn q [] a 32 = [] →
        exec (.engineInstructionComplete p eng n ups) s =
          .next { t.updPan p fun y => popHead (countWork { y with progSeed := Memory.readN q.mem a 32 } 1 16) eng with
            pending := s.pending }) ∧
      (∀ c v, e.op = .sigt c v → e.row = 0 → 0 < n → s.fabric.sync = none →
        s.mayLeave (t.itemOf p c true (leBytes 4 v)) = true →
        exec (.engineInstructionComplete p eng n ups) s =
          .next { (t.sendItem p c true (leBytes 4 v)).updPan p fun y => popHead y eng with pending := s.pending }) ∧
      (∀ c, e.op = .cnoise → t.liveCtx p = some c → (s.ctx c).st = .settling → (s.ctx c).onChip = true → n = 1 → ups = [] →
        q.noiseNext < (t.sliceOf c p).2 → q.sampler.stage = .done → s.sweep.slice = none →
        failingIn q [] (q.noiseNext * (ringW (s.ctx c) / 8)) (ringW (s.ctx c) / 8) = [] →
        let w := ringW (s.ctx c)
        let a := q.noiseNext * (w / 8)
        exec (.engineInstructionComplete p eng n ups) s =
          .next { t.updPan p fun y => { panWrite y a (leBytes (w / 8)
              (unsigned w ((leNat (Memory.readN q.mem a (1 * (w / 8))) : Int) + q.sampler.y))) with
              noiseNext := q.noiseNext + 1, sampler := {} } with pending := s.pending }) ∧
      (∀ c slot, e.op = .caddItem → t.addReady p = some (c, slot) →
        exec (.engineInstructionComplete p eng n ups) s =
          .next { (match t.serveAdd u c slot n with
            | (none, t') => t'
            | (some x, t') => t'.stopped p e x) with pending := s.pending })) ∧
    (∀ eng e word, (inService q eng).find? (meetsToken q) = some e → engineRuns q = true →
      exec (.engineTrap p eng true word) s = .next { t.engineTrap p e 9 with pending := s.pending } ∧
      ∃ t', exec (.engineTrap p eng true word) s = .next t' ∧ (t'.pan p).st = .trapped ∧ (t'.pan p).trapPc = e.pc) ∧
    (∀ eng e rest a word, engQ q eng = e :: rest → e.op = .gseed a → e.row = 0 → engineRuns q = true → s.sweep.slice = none →
      a < 8 * word + 8 → 8 * word < a + 32 →
      ∃ t', exec (.engineTrap p eng false word) s = .next t' ∧ (t'.pan p).st = .trapped ∧ (t'.pan p).trapPc = e.pc ∧
        (t'.pan p).trapCode = statusCode .uncorrectable) ∧
    (∀ c e rest j, s.liveCtx p = some c → (s.pan p).cq = e :: rest → e.op = .cnoise → engineRuns (s.pan p) = true →
      (s.ctx c).st = .settling → (s.sliceOf c p).2 ≤ (s.pan p).noiseNext → j < 44 →
      (s.pan p).noiseStart + noiseTime (s.ctx c).words j = s.cad.toll →
      exec (.cnoiseComplete p) s =
        .next { s.updPan p fun x => countWork { popHead x .crystalliser with noiseDone := true, noiseBuf := [] } 2 (s.sliceRows c p) with
          pending := s.pending }) ∧
    (∀ c, s.liveCtx p = some c → (s.pan p).commit.tile = true →
      let k := (s.pan p).commit.next + (s.pan p).commit.buf.length / (ringW (s.ctx c) / 8)
      exec (.storeWriteAck p) s =
        .next { (s.accWrite c p (s.pan p).commit.next (s.pan p).commit.buf).updPan p fun x =>
          if (s.sliceOf c p).2 ≤ k ∧ x.commit.st = .adding then addDone x x.commit.slot k
          else { x with commit := { x.commit with next := k, tile := false, buf := [] } } with pending := s.pending }) ∧
    (∀ c, s.liveCtx p = some c → (s.pan p).commit.tile = false → (s.pan p).expandTile = true →
      exec (.storeWriteAck p) s =
        .next { (s.accWrite c p (s.pan p).expandNext (s.pan p).expandBuf).updPan p fun x =>
          { x with expandNext := x.expandNext + (s.pan p).expandBuf.length / (ringW (s.ctx c) / 8), expandTile := false,
                   expandBuf := [] } with pending := s.pending })

/-! ### The Stores -/

/-- A store request (R543 to R546): with keys in force and no scrub, a write of whole data units is written; a read is counted
and answers the bytes, and its uncorrectable data answers UNCORRECTABLE and condemns the unit; during a scrub the answer is BUSY and
without keys REFUSED, and nothing changes; what is written reads back byte by byte and leaves every other byte, and an address
beyond the capacity is a fault. Choices of the model: log entries 12, 13 and 39. -/
def Obligations.StoreRequests : Prop :=
  (∀ (addr : Nat) (bs : Bytes) (len : Nat) (err : Fin 4) (s : State), s.stores.key ≠ .none → s.stores.scrub ≠ 1 →
    addr + len ≤ s.storeBytes → 0 < len → addr % 64 = 0 → len % 64 = 0 →
    exec (.storeAccess addr (some bs) len err) s =
      .next { (s.storeWrite addr (padTo len bs)).emit (.store (statusCode .ok) []) with pending := s.pending }) ∧
  (∀ (addr len : Nat) (s : State), s.stores.key ≠ .none → s.stores.scrub ≠ 1 → addr + len ≤ s.storeBytes → 0 < len →
    (storesCondemned s.stores (addr / 64 * 64) ((addr + len + 63) / 64 * 64 - addr / 64 * 64) = false →
      exec (.storeAccess addr none len 0) s =
        .next { (s.count .stoRdbytes 0 len).emit (.store (statusCode .ok) (storesReadN s.stores addr len)) with
          pending := s.pending }) ∧
    (storesCondemned s.stores (addr / 64 * 64) ((addr + len + 63) / 64 * 64 - addr / 64 * 64) = true →
      exec (.storeAccess addr none len 0) s =
        .next { s.emit (.store (statusCode .uncorrectable) []) with pending := s.pending }) ∧
    exec (.storeAccess addr none len 3) s =
      .next { (s.condemn addr none).emit (.store (statusCode .uncorrectable) []) with pending := s.pending }) ∧
  (∀ (addr : Nat) (data : Option Bytes) (len : Nat) (err : Fin 4) (s : State), 0 < len →
    (s.stores.scrub = 1 → exec (.storeAccess addr data len err) s =
      .next { s.emit (.store (statusCode .busy) []) with pending := s.pending }) ∧
    (s.stores.scrub ≠ 1 → s.stores.key = .none → exec (.storeAccess addr data len err) s =
      .next { s.emit (.store (statusCode .refused) []) with pending := s.pending })) ∧
  (∀ (addr : Nat) (data : Option Bytes) (len : Nat) (err : Fin 4) (s : State), s.stores.key ≠ .none → s.stores.scrub ≠ 1 →
    0 < len → s.storeBytes < addr + len → exec (.storeAccess addr data len err) s = .fault (.storeAddress addr)) ∧
  (∀ (t : Stores) (a j : Nat) (bs : Bytes),
    (a ≤ j → j < a + bs.length → storesByte (storesPutN t a bs) j = bs.getD (j - a) 0) ∧
    (j < a ∨ a + bs.length ≤ j → storesByte (storesPutN t a bs) j = storesByte t j))

/-! ### Brine queues and the Ringer -/

/-- The queue rows (R443 to R452, R455): an item produced joins its queue under the next SEQ with the toll it was stored at;
the reader takes the item at R, or the idle item; MARK, REWIND, RELEASE and RESET move the pointers of their own queue, whose
level may be armed or signalled by it; a write of Q_CTL sets EN, MODE and LEVEL; telemetry puts one item on TELQ.
Choices of the model: log entry 1. -/
def Obligations.QueueRowsRun : Prop :=
  ∀ (q : Fin 7) (s : State), q.val < s.queues.length → s.queuesOpen = true →
    (∀ item lag,
      ∃ t it, exec (.queueItemProduce q item false false lag 0) s = .next t ∧
        sameButArmed (t.queue q) (queuePush (s.queue q) (queueCap q) it) ∧ it.typ = byteAt item 0 ∧
        it.source = byteAt item 2 ∧ it.seq = (s.queue q).nextSeq ∧ it.toll = s.itemToll q ∧ it.payload = slice item 20 44) ∧
    (∀ who lag it, queueReader q who = true → (s.queue q).en = true → (s.queue q).r < (s.queue q).w - lag →
      (s.queue q).items[(s.queue q).r - (s.queue q).f]? = some it → it.badParity = false →
      ∃ t, exec (.queueItemRead who q lag false) s = .next t ∧
        sameButArmed (t.queue q) { s.queue q with window := itemBytes 0 it, r := (s.queue q).r + 1, lastSeq := it.seq }) ∧
    (∀ who lag upset, queueReader q who = true → (s.queue q).w - lag ≤ (s.queue q).r →
      ∃ t, exec (.queueItemRead who q lag upset) s = .next t ∧
        t.queue q = { s.queue q with window := idleItem (s.queue q).lastSeq }) ∧
    (∀ who lag, queueReader q who = true →
      (∃ t, exec (.queueMark who q false) s = .next t ∧ sameButArmed (t.queue q) (queueMark (s.queue q))) ∧
      (∃ t, exec (.queueRewind who q lag false) s = .next t ∧ sameButArmed (t.queue q) (queueRewind (s.queue q))) ∧
      (∃ t, exec (.queueRelease who q false) s = .next t ∧ sameButArmed (t.queue q) (queueRelease (s.queue q))) ∧
      (∃ t, exec (.queueReset who q lag false) s = .next t ∧ sameButArmed (t.queue q) (queueReset lag (s.queue q)))) ∧
    (∀ who v lag, queueReader q who = true → bitsOf v 30 17 = 0 → v < 2 ^ 32 → bitsOf v 15 0 ≤ queueCap q →
      (q.val = 6 → s.traceOpen = true) →
      ∃ t, exec (.qCtlWrite who q v lag) s = .next t ∧ (t.queue q).en = bitOf v 31 ∧ (t.queue q).mode = bitsOf v 16 16 ∧
        (t.queue q).level = bitsOf v 15 0 ∧ (t.queue q).items = (s.queue q).items) ∧
    (5 < s.queues.length →
      ∃ t it, exec .telemetryTick s = .next t ∧ sameButArmed (t.queue 5) (queuePush (s.queue 5) 512 it) ∧ it.typ = 0x80 ∧
        leAt it.payload 0 2 = s.cad.readPower % 65536)

/-- The queues stay in order (R443, R445, R448): F ≤ R ≤ W, and the items held are those from F to W − 1, whatever is produced
and whatever the reader asks for. An item is stored at W; a queue that is full gives its oldest item for it and counts that lost, R
moves on from it and a mark there loses its valid bit; a disabled queue keeps nothing and counts; only RELEASE and RESET free places. -/
def Obligations.QueuesStayInOrder : Prop :=
  ∀ (cap : Nat) (it : QItem) (lag : Nat) (b : BQueue), 0 < cap → queueOk cap b →
    queueOk cap (queuePush b cap it) ∧ queueOk cap (queueMark b) ∧ queueOk cap (queueRewind b) ∧
    queueOk cap (queueRelease b) ∧ queueOk cap (queueReset lag b) ∧
    (b.en = true → (queuePush b cap it).w = b.w + 1) ∧
    (b.en = true → b.items.length < cap → (queuePush b cap it).items = b.items ++ [it] ∧ (queuePush b cap it).lost = b.lost ∧
      (queuePush b cap it).f = b.f ∧ (queuePush b cap it).r = b.r ∧ (queuePush b cap it).m = b.m) ∧
    (b.en = true → b.items.length = cap → (queuePush b cap it).items = b.items.tail ++ [it] ∧
      (queuePush b cap it).f = b.f + 1 ∧ (queuePush b cap it).lost = min (b.lost + 1) (2 ^ 32 - 1) ∧
      (queuePush b cap it).r = (if b.r = b.f then b.f + 1 else b.r) ∧
      (queuePush b cap it).m = (if b.m = some b.f then none else b.m)) ∧
    (b.en = false → (queuePush b cap it).items = b.items ∧ (queuePush b cap it).lost = min (b.lost + 1) (2 ^ 32 - 1)) ∧
    (queuePush b cap it).nextSeq = (b.nextSeq + 1) % 2 ^ 32 ∧
    ((queueMark b).items = b.items ∧ (queueMark b).f = b.f ∧ (queueRewind b).items = b.items ∧ (queueRewind b).f = b.f) ∧
    (queueRelease b).items = b.items.drop (b.r - b.f) ∧ (queueMark b).m = some b.r ∧
    (∀ k, b.m = some k → b.f ≤ k → (queueRewind b).r = k)

/-- The Ringer's rows (R457 to R464): READY, DELAY, SLEEP and WAIT move a thread; DISPATCH gives the Steward the ready thread
of the earliest deadline; GET hands out an item under a new handle; DONE takes it away, and an unknown handle is refused;
ENQUEUE takes an item where there is a place and refuses it where there is none; a delayed thread wakes at its time.
Choices of the model: log entries 1 and 16. -/
def Obligations.RingerRowsRun : Prop :=
  ∀ (k : Fin 4) (t : Fin 256) (s : State), s.ringerOpen = true →
    (∀ d, (s.thread t).st ≠ .running →
      exec (.ringerReady k t d) s = .next { (s.makeReady t d).rngRes k .ok t with pending := s.pending } ∧
      (t.val < s.ringer.threads.length → ((s.makeReady t d).thread t).st = .ready ∧
        ((s.makeReady t d).thread t).deadline = d % 2 ^ 64)) ∧
    (∀ w, runningOn s k t = true → w ≤ s.cad.toll →
      exec (.ringerDelay k t w) s =
        .next { ((s.clearCur t).makeReady t (s.thread t).deadline).rngRes k .ok t with pending := s.pending }) ∧
    (∀ w, runningOn s k t = true → s.cad.toll < w →
      exec (.ringerDelay k t w) s =
        .next { ((s.clearCur t).updThread t fun h => { h with st := .delayed, wake := w % 2 ^ 64 }).rngRes k .ok t with
          pending := s.pending }) ∧
    (runningOn s k t = true →
      exec (.ringerSleep k t) s =
        .next { ((s.clearCur t).updThread t fun h => { h with st := .dormant }).rngRes k .ok t with pending := s.pending }) ∧
    (∀ mask, runningOn s k t = true →
      exec (.ringerWait k t mask) s =
        .next { (((s.clearCur t).updThread t fun h => { h with st := .waiting, mask := mask % 8 }).rngRes k .ok t).wakeWaiters with
          pending := s.pending }) ∧
    (∀ u, (s.stew k).cur = none → readyHead s k = some u → k.val < s.ringer.stewards.length →
      (∀ v, v ∈ readyOf s k → (s.thread u).deadline ≤ (s.thread v).deadline) ∧
      ∃ x, exec (.ringerDispatch k) s = .next x ∧ (x.thread u).st = .running ∧ (x.stew k).cur = some u ∧
        (x.stew k).resValue = u ∧ (x.stew k).irq = false) ∧
    (∀ mask it, nextItem s.ringer.items (mask % 8) = some it → k.val < s.ringer.stewards.length →
      ∃ x, exec (.ringerGet k mask) s = .next x ∧ (x.stew k).got = workBytes it ∧ (x.stew k).resValue = s.ringer.nextHandle ∧
        x.ringer.nextHandle = (s.ringer.nextHandle + 1) % 2 ^ 32) ∧
    (∀ h it, (s.ringer.items.find? fun i => i.handle == some h) = some it → it.cls ≠ 1 →
      exec (.ringerDone k h) s =
        .next { ((((({ s with ringer := { s.ringer with items := s.ringer.items.filter fun o => o.order != it.order } } : State).releaseAll).rngRes k
          .ok h).wakeWaiters).after) with pending := s.pending }) ∧
    (∀ h, (s.ringer.items.find? fun i => i.handle == some h) = none →
      exec (.ringerDone k h) s = .next { (s.rngRes k .refused 0).after with pending := s.pending }) ∧
    (∀ item, bitsOf (leAt item 0 4) 21 20 ≠ 3 →
      let u := s.updStew k fun w => { w with item := padTo 32 item }
      (noPlace s.ringer.items (bitsOf (leAt item 0 4) 21 20) (bitsOf (leAt item 0 4) 19 0) = false →
        exec (.ringerEnqueue k item) s =
          .next { (u.putItem (bitsOf (leAt item 0 4) 21 20) (bitsOf (leAt item 0 4) 19 0) (bitsOf (leAt item 0 4) 23 22)
            (bitsOf (leAt item 0 4) 31 24) (slice item 8 24)).rngRes k .ok 0 with pending := s.pending }) ∧
      (noPlace s.ringer.items (bitsOf (leAt item 0 4) 21 20) (bitsOf (leAt item 0 4) 19 0) = true →
        exec (.ringerEnqueue k item) s = .next { (u.count .rgrRefuse 0 1).rngRes k .busy 0 with pending := s.pending })) ∧
    ((s.thread t).st = .delayed → (s.thread t).wake ≤ s.cad.toll →
      exec (.threadWake t) s = .next { s.makeReady t (s.thread t).deadline with pending := s.pending })

/-! ### Keyhold -/

/-- Keyhold's own rows (R478 to R480, R484, R486, R487, R493 to R497): KEYREG takes a key from its source for its holder, and a
load that finds it held waits; a delivery that its
attributes allow puts the key into the slot and lets go of the destination, another is refused and counted; attributes only
narrow; the holder releases it to a load that waits; re-masking changes masks and no key; a curve request starts in a free unit or waits, and
ends with its result; a noise window is absorbed and counted; a stream reseeds; a request is served or waits; a wait of
10 s is reported. Choices of the model: log entries 16, 19, 50 and 51. -/
def Obligations.KeyholdRowsRun : Prop :=
  ∀ s : State, s.keyRuns = true →
    (∀ h src attr, s.keyregFor h = true →
      exec (.keyregLoad h src attr) s =
        .next { (match s.keySource src with
          | none =>
            if src = KeySource.drbg then
              ((({ s with keyhold := { s.keyhold with keyreg := { s.keyhold.keyreg with holder := some h } } } : State).grantKey
                h).keyQueue (h, src, attr)).noteWait 0
            else s
          | some (k, t) => ({ t with keyhold := { t.keyhold with
              keyreg := { t.keyhold.keyreg with key := k, attr := attr, holder := some h } } } : State).grantKey h) with
          pending := s.pending }) ∧
    (∀ h src attr, s.keyregFor h = false →
      exec (.keyregLoad h src attr) s =
        .next { s with keyhold := { s.keyhold with keyWait := s.keyhold.keyWait ++ [(h, src, attr)] } }) ∧
    (∀ h (e : Fin 8) i, s.keyhold.keyreg.holder = some h → i < slotCount e →
      (mayDeliver s.keyhold.keyreg.attr e = false →
        exec (.keyregDeliver h e i) s =
          .next { s.keyregReject.errorEvent none (statusCode .policyForbids) 5 1 0 0 0 with pending := s.pending }) ∧
      (mayDeliver s.keyhold.keyreg.attr e = true → ∃ t, exec (.keyregDeliver h e i) s = .next t ∧
        t.slotKey e i = some s.keyhold.keyreg.key ∧ (t.keyhold.keyreg.holder = some h) ∧
        bitOf t.keyhold.keyreg.attr.dest e = false ∧
        (s.keyhold.keyreg.attr.lifetime = 0 → t.keyhold.keyreg.key = List.replicate 32 0))) ∧
    (∀ h a, s.keyhold.keyreg.holder = some h →
      (narrows s.keyhold.keyreg.attr a = false →
        exec (.keyregAttrChange h a) s = .next { s.keyregReject with pending := s.pending }) ∧
      (narrows s.keyhold.keyreg.attr a = true →
        exec (.keyregAttrChange h a) s = .next { s with keyhold := { s.keyhold with
          keyreg := if a.dest = 0 then wipe { s.keyhold.keyreg with attr := a } else { s.keyhold.keyreg with attr := a } } }) ∧
      exec (.keyregRelease h) s =
        .next { ({ s with keyhold := { s.keyhold with keyreg := {} } } : State).keyGo s.keyhold.keyWait.length with
          pending := s.pending }) ∧
    (∃ t, exec .remaskTick s = .next t ∧ t.keyhold.keyreg.key = s.keyhold.keyreg.key ∧
      t.keyhold.slots.map KeySlot.key = s.keyhold.slots.map KeySlot.key ∧ t.pans.length = s.pans.length ∧
      t.pans.map Pan.mem = s.pans.map Pan.mem) ∧
    (∀ r u, s.freeUnit r.op = some u →
      exec (.curveRequest r) s =
        .next { s with keyhold := { s.keyhold with curveUnits := updAt s.keyhold.curveUnits u fun _ => some r }
                       arb := { s.arb with curve := updAt s.arb.curve u fun l => granted l r.who } }) ∧
    (∀ r, s.freeUnit r.op = none →
      exec (.curveRequest r) s = .next { s with keyhold := { s.keyhold with curveWait := s.keyhold.curveWait ++ [r] } }) ∧
    (∀ (u : Fin 9) r, s.keyhold.curveUnits.getD u none = some r →
      exec (.curveOpComplete u) s =
        .next { (match s.curveRun r with
          | none => s.noteWait 0
          | some (e, t) =>
            let t : State := { t with keyhold := { t.keyhold with
              curveUnits := updAt t.keyhold.curveUnits u fun _ => none
              curveDone := t.keyhold.curveDone ++
                [{ tag := r.tag, status := e.status, out := e.out, noncanonical := e.noncanonical, time := e.time }] } }
            let t := t.count .khdCurve (if u.val = 8 then 1 else 0) 1
            (if e.rejected then t.bump .khdReject 0 31 16 1 else t).curveNext u : State) with pending := s.pending }) ∧
    (∀ raw : BitVec 1024,
      exec (.healthWindow raw) s = .next { (s.noiseWindow raw).drbgBack.after with pending := s.pending } ∧
      (s.noiseWindow raw).keyhold.windows = s.keyhold.windows + 1 ∧
      (s.noiseWindow raw).keyhold.failcnt =
        (if runFails (rawBits raw) ((rawBits raw).headD false) 0 || propFails (rawBits raw)
          then min (s.keyhold.failcnt + 1) (2 ^ 32 - 1) else s.keyhold.failcnt)) ∧
    (∀ (n : Fin 49) k,
      exec (.drbgGenerate n k) s =
        .next { (match s.draw n (min k 65536) with
          | some (out, t) => t.updStream n fun d => { d with out := out }
          | none => (s.noteWait n).updStream n fun (d : DrbgStream) => if d.inst then { d with waitBytes := min k 65536 } else d) with
          pending := s.pending }) ∧
    (∀ n, 384 ≤ s.keyhold.credit → s.longestDue = some n →
      exec .drbgReseed s = .next { s.reseedDue.drbgBack.after with pending := s.pending } ∧
      s.reseedDue.keyhold.credit = 0 ∧ s.reseedDue.keyhold.pool = [] ∧ (s.reseedDue.stream n).reseedAt = s.cad.toll ∧
      (s.reseedDue.stream n).waitSince = none) ∧
    (∀ (n : Fin 49) t, (s.stream n).waitSince = some t → t + 10000000 * ((s.stream n).raised + 1) ≤ s.cad.toll →
      ∃ x, exec (.rngWaitTimeout n) s = .next x ∧ (x.stream n).raised = (s.stream n).raised + 1 ∧
        (x.stream n).waitSince = some t)

/-! ### The mailbox -/

/-- The twenty commands of the mailbox (R595, R600, R603): an entry that reaches an idle function, and that no check refuses,
is in service under the function's next number and runs: at once where it reads nothing from the host, with its data
where it does; ATTEST takes its snapshot and an image command begins its load first (R171, R175, R513). Choices of the model: log entry 39. -/
def Obligations.MailboxCommandsRun : Prop :=
  (∀ (pf : Fin 4) (i : Instr) (c : HostCmd) (s : State), s.serves pf c = true →
    (i, c) ∈ [(.tenantLeave pf, .tenantLeave), (.tallyFreeze pf, .tallyFreeze), (.settle pf, .settle),
      (.harvestVoid pf, .harvestVoid), (.harvestClose pf, .harvestClose), (.quadDissolve pf, .quadDissolve), (.muffle pf, .muffle),
      (.wake pf, .wake)] ∨ (∃ m, (i, c) = (.quadForm pf m, .quadForm m)) ∨
      (∃ r rl k kl, (i, c) = (.releaseFetch pf r rl k kl, .releaseFetch r rl k kl)) →
    exec i s = .next { (((s.taken pf c).runCmd pf c []).pump).after with pending := s.pending }) ∧
  (∀ (pf : Fin 4) (i : Instr) (c : HostCmd) (b : Bytes) (s : State) (a l : Nat), s.serves pf c = true →
    ((i, c) ∈ [(.enrollTenant pf a l (.data b), .enrollTenant a l), (.weightsLoad pf a l (.data b), .weightsLoad a l),
      (.harvestOpen pf a l (.data b), .harvestOpen a l), (.rosterLoad pf a l (.data b), .rosterLoad a l),
      (.debugUnlock pf a l (.data b), .debugUnlock a l)] ∨
      (∃ o ol, (i, c) = (.attest pf o ol l a (.data b), .attest o ol l a)) ∨
      (∃ n r f, (i, c) = (.hostIngest pf a l n r f (.data b), .hostIngest a l n r f)) ∨
      ∃ n r, (i, c) = (.sharesSubmit pf a l n r (.data b), .sharesSubmit a l n r)) →
    exec i s = .next { (((if cmdCode c = 0x03 then (s.taken pf c).takeSnap pf else s.taken pf c).dataCome pf b).pump).after with
      pending := s.pending }) ∧
  (∀ (pf : Fin 4) (a l : Nat) (b : Bytes) (s : State), s.serves pf (.imageLoad a l) = true → s.imgGate none = none → l ≤ 2 ^ 29 →
    exec (.imageLoad pf a l (.data b)) s =
      .next { ((((s.taken pf (.imageLoad a l)).beginLoad pf l none).1.dataCome pf b).pump).after with pending := s.pending }) ∧
  (∀ (pf : Fin 4) (a l k : Nat) (b : Bytes) (s : State), s.serves pf (.imagePartial a l k) = true → s.imgGate (some k) = none →
    l ≤ 2 ^ 29 →
    exec (.imagePartial pf a l k (.data b)) s =
      .next { ((((s.taken pf (.imagePartial a l k)).beginLoad pf l (some k)).1.dataCome pf b).pump).after with
        pending := s.pending })

/-- What the commands in service do where their states allow them (R146, R149, R171, R356, R369, R371, R375 to R377, R382,
R518, R524, R527, R570): each effect is the one its chapter gives, or the check that fails ends the command; and a command that ends leaves the function idle, with its
result last in the cache (R601). Choices of the model: log entries 27, 39, 51 and 57. -/
def Obligations.MailboxCommandEffects : Prop :=
  ∀ (pf : Nat) (v : Serving) (s : State), (s.fn pf).serving = some v → pf < s.fns.length →
    (∀ st r, ((s.finish pf st r).fn pf).serving = none ∧
      ((s.finish pf st r).fn pf).cache.getLast? =
        some { seq := v.seq, code := cmdCode v.cmd, status := statusCode st, result := r }) ∧
    (s.dev.st = .tenantedIdle → s.img.load = none → s.dev.switch = none → s.power.vddc = .good →
      (s.runCmd pf .muffle []).dev.st = .muffled ∧ (s.runCmd pf .muffle []).dev.muffling = some (.host pf v.seq) ∧
      (s.runCmd pf .muffle []).stores.selfRefresh = true ∧ (s.runCmd pf .muffle []).power.vddcEn = false ∧
      (s.runCmd pf .muffle []).img.loaded = none) ∧
    (s.dev.st = .tenantedIdle → s.img.load = none → s.dev.switch = none → s.power.vddc = .off →
      (s.runCmd pf .muffle []).dev.st = .muffled ∧ (s.runCmd pf .muffle []).dev.muffling = none ∧
      ((s.runCmd pf .muffle []).fn pf).serving = none) ∧
    (s.dev.st = .muffled → s.dev.wake = none → s.dev.switch = none → s.dev.muffledTamper = false → s.toc.burning = false →
      s.runCmd pf .wake [] =
        ({ s with dev := { s.dev with wake := some { step := 0, by_ := .host pf v.seq } } } : State).wantVddc) ∧
    (s.dev.st = .tenantedIdle → s.runCmd pf .tenantLeave [] = s.beginSwitch (.host pf v.seq)) ∧
    (∀ b a l ld, s.img.load = some ld → s.runCmd pf (.imageLoad a l) b =
      { s with img := { s.img with load := some { ld with file := padTo ld.len b, phase := 1 } } }) ∧
    (∀ b a l, (∀ j, s.car.job = some j → j.ctx ≠ pf) → hvMode (blockCtx b) = 0 →
      s.runCmd pf (.harvestOpen a l) b =
        (match s.openFail l b false with
        | some st => s.finish pf st [0]
        | none =>
          match s.layoutFail pf b with
          | some st => s.finish pf st [0]
          | none => (s.openNow pf b).finish pf .ok [1])) ∧
    (∀ b, pf < s.ctxs.length → (s.openNow pf b).lastHid = hidNat (blockCtx b) + 1 ∧ ((s.openNow pf b).ctx pf).st = .opened ∧
      ((s.openNow pf b).ctx pf).block = b ∧ ((s.openNow pf b).ctx pf).policy = s.policy) ∧
    (∀ b a l, (s.ctx pf).quad = false → (s.ctx pf).st = .opened → pf < s.ctxs.length →
      s.runCmd pf (.rosterLoad a l) b =
        (match s.rosterFail pf b with
        | some st => s.finish pf st []
        | none => (s.rosterNow pf b).finish pf .ok ((s.rosterNow pf b).rosterResult pf)) ∧
      ((s.rosterNow pf b).ctx pf).st = .gathering) ∧
    (∀ b a l n r, s.runCmd pf (.hostIngest a l n r 0) b = s.runIngest pf n false b ∧
      s.runCmd pf (.sharesSubmit a l n r) b = s.runIngest pf n true b) ∧
    ((s.ctx pf).st = .gathering → (s.ctx pf).quad = false → paused (s.ctx pf) = false →
      s.runCmd pf .tallyFreeze [] = s.updCtx pf fun x => { x with freezing := true }) ∧
    ((s.ctx pf).st = .unmasking → (s.ctx pf).quad = false → paused (s.ctx pf) = false →
      s.runCmd pf .settle [] = s.updFn pf fun f => { f with parked := f.parked ++ [v], serving := none }) ∧
    (ctxLive (s.ctx pf).st = true → (s.ctx pf).quad = false → hvMode (s.ctx pf) = 0 → pf < s.ctxs.length →
      match (s.voidCore pf .voided).signCose ((s.voidCore pf .voided).claims pf 1 (statusCode .voided) .null).encode with
      | some _ => ((s.runCmd pf .harvestVoid []).ctx pf).st = .voided ∧ ((s.runCmd pf .harvestVoid []).fn pf).serving = none
      | none => ((s.runCmd pf .harvestVoid []).ctx pf).st = .voiding) ∧
    ((s.ctx pf).st = .released ∨ (s.ctx pf).st = .voided → pf < s.ctxs.length →
      ((s.runCmd pf .harvestClose []).ctx pf).st = .closed ∧ ((s.runCmd pf .harvestClose []).ctx pf).result = [] ∧
      ((s.runCmd pf .harvestClose []).ctx pf).roster = []) ∧
    (∀ ra rl ca cl, (s.ctx pf).st = .released → (s.fn pf).bme = true → ra ≠ 0 → ca ≠ 0 → (s.ctx pf).result ≠ [] →
      (s.ctx pf).cert ≠ [] → (s.ctx pf).result.length ≤ rl → (s.ctx pf).cert.length ≤ cl →
      storesCondemned s.stores (s.partBase pf 0) (s.ctx pf).result.length = false →
      s.runCmd pf (.releaseFetch ra rl ca cl) [] =
        ((s.emit (.dmaWrite pf ra (s.ctx pf).result)).emit (.dmaWrite pf ca (s.ctx pf).cert)).finish pf .ok
          (leBytes 8 (s.ctx pf).result.length ++ leBytes 4 (s.ctx pf).cert.length)) ∧
    (∀ b a l,
      match s.unlockFail b with
      | some st => s.runCmd pf (.debugUnlock a l) b = s.finish pf st []
      | none => (s.runCmd pf (.debugUnlock a l) b).dbg.scope = Nat.lor s.dbg.scope (Nat.lor (byteAt b 6) (byteAt b 7 * 16))) ∧
    (∀ b a l,
      match s.enrolFail b, s.draw 0 32 with
      | some st, _ => s.runCmd pf (.enrollTenant a l) b = s.finish pf st []
      | none, none => s.runCmd pf (.enrollTenant a l) b = (s.noteWait 0).stall pf b
      | none, some _ => (s.runCmd pf (.enrollTenant a l) b).dev.st = .tenantedIdle ∧
        (s.runCmd pf (.enrollTenant a l) b).keyhold.tenantKey = some (slice b 40 97)) ∧
    (∀ b a l, s.weightsFail pf l b = none → s.runCmd pf (.weightsLoad a l) b =
      (match s.openWeightKey b with
      | .error st => s.finish pf st []
      | .ok (t : State) =>
        if (t.writeSegments ((t.slotKey 4 0).getD []) b (t.partBase pf 3 + leAt b 16 8) (List.range (blobSegs b))).2
        then (({ (t.writeSegments ((t.slotKey 4 0).getD []) b (t.partBase pf 3 + leAt b 16 8) (List.range (blobSegs b))).1 with
            blobs := ((t.writeSegments ((t.slotKey 4 0).getD []) b (t.partBase pf 3 + leAt b 16 8)
              (List.range (blobSegs b))).1.blobs.filter fun e => !blobHits pf (leAt b 16 8) (blobLen b) e) ++
              [(pf, leAt b 8 8, leAt b 16 8, blobLen b, Crypto.sha384 b)] } : State)).finish pf .ok []
        else ((t.writeSegments ((t.slotKey 4 0).getD []) b (t.partBase pf 3 + leAt b 16 8) (List.range (blobSegs b))).1.storeZero
          (t.partBase pf 3 + leAt b 16 8) (blobLen b)).finish pf .authFail [])) ∧
    (∀ o ol nl na b, s.runCmd pf (.attest o ol nl na) b =
      (match s.makeEvidence (padTo nl b) (s.snapOf pf) with
      | none => (s.noteWait 0).stall pf b
      | some (e, t) => (t.dmaOut pf o e).finish pf .ok (leBytes 4 e.length))) ∧
    (∀ m, s.formGate pf m = none → s.car.forming = none →
      s.runCmd pf (.quadForm m) [] =
        (({ (s.updFn pf fun f => { f with parked := f.parked ++ [v], serving := none }) with
          car := { s.car with forming := some { mask := m }, peerIds := [] } } : State)).formAdvance) ∧
    (pf = 0 → s.car.formed = true → s.car.job = none → (s.ctxs.any fun x => x.quad && ctxLive x.st) = false →
      s.runCmd pf .quadDissolve [] = (s.tellMembers 0x22 []).leaveQuad.membersEvent.finish pf .ok [])

/-- The mailbox's other rows (R595, R599, R601, R602, R610, R611): a whole aligned write enters the ring and mends the slots that
it starts, a broken one is counted and damages its slot; a doorbell in range covers its entries, one with
T = EXPECT − 1 does nothing, one out of range is dropped; a resend gives
a cached completion again; a DMA read brings the data, is tried once more, then fails the command; a function-level reset
clears the function; bus mastering stops and goes on. Choices of the model: log entries 9 and 60. -/
def Obligations.MailboxRowsRun : Prop :=
  ∀ (pf : Fin 4) (s : State),
    (∀ off data, s.hostReaches pf = true → ringBase ≤ off → off + data.length ≤ ringBase + 4096 → data ≠ [] → off % 4 = 0 →
      data.length % 4 = 0 →
      exec (.mailboxWrite pf off data true false) s =
        .next { s.updFn pf fun f => { f with
          ring := Memory.writeN f.ring (off - ringBase) data
          damaged := ((List.range 64).filter fun k => decide (off - ringBase ≤ 64 * k) &&
            decide (64 * k < off - ringBase + data.length)).foldl (fun d k => setBits d k k 0) f.damaged } with
          pending := s.pending }) ∧
    (∀ off data whole, s.hostReaches pf = true → ringBase ≤ off → off + data.length ≤ ringBase + 4096 → data ≠ [] →
      exec (.mailboxWrite pf off data whole true) s =
        .next { (s.dropWrite pf off).updFn pf fun f =>
          { f with damaged := setBits f.damaged ((off - ringBase) / 64) ((off - ringBase) / 64) 1 } with pending := s.pending }) ∧
    (∀ t, s.hostReaches pf = true → (s.fn pf).limit = none → t < 2 ^ 32 → 0 < (t + 1 + 2 ^ 32 - (s.fn pf).expect) % 2 ^ 32 →
      (t + 1 + 2 ^ 32 - (s.fn pf).expect) % 2 ^ 32 ≤ 64 →
      exec (.mbDoorbell pf t true false) s =
        .next { (s.updFn pf fun f => { f with stopped := false, limit := some t }).pump.after with pending := s.pending }) ∧
    (∀ t, s.hostReaches pf = true → (t % 2 ^ 32 + 1 + 2 ^ 32 - (s.fn pf).expect) % 2 ^ 32 = 0 →
      exec (.mbDoorbell pf t true false) s = .next { s.after with pending := s.pending }) ∧
    (∀ t single, s.hostReaches pf = true → 64 < (t % 2 ^ 32 + 1 + 2 ^ 32 - (s.fn pf).expect) % 2 ^ 32 →
      exec (.mbDoorbell pf t single false) s = .next { (s.dropWrite pf doorbellOff).after with pending := s.pending }) ∧
    (∀ seq r, s.hostReaches pf = true → seq < 2 ^ 32 → (s.fn pf).serving = none → (s.fn pf).parked = [] →
      (s.fn pf).cache.find? (fun r => r.seq == seq) = some r → 1 ≤ ((s.fn pf).expect + 2 ^ 32 - seq) % 2 ^ 32 →
      ((s.fn pf).expect + 2 ^ 32 - seq) % 2 ^ 32 ≤ 64 →
      exec (.mbResend pf seq) s = .next { s.cmdDone pf seq r.code r.status r.result with pending := s.pending }) ∧
    (∀ seq, s.hostReaches pf = true → seq < 2 ^ 32 → (s.fn pf).serving = none → (s.fn pf).parked = [] →
      (s.fn pf).cache.find? (fun r => r.seq == seq) = none →
      exec (.mbResend pf seq) s = .next { s.setBit .hcxErr pf 4 with pending := s.pending }) ∧
    (∀ v, (s.fn pf).serving = some v → v.awaitDma = true →
      (∀ b, exec (.dmaCompletion pf (some b)) s = .next { (s.dataCome pf b).pump.after with pending := s.pending }) ∧
      (∀ a l, readOf v.cmd = some (a, l) → v.retried = false →
        exec (.dmaCompletion pf none) s =
          .next { ((s.updFn pf fun f => { f with serving := some { v with retried := true } }).emit (.dmaRead pf a l)).after with
            pending := s.pending }) ∧
      (∀ a l, readOf v.cmd = some (a, l) → v.retried = true →
        exec (.dmaCompletion pf none) s =
          .next { (s.transferFails pf .refused).pump.after with pending := s.pending })) ∧
    (s.pcieAnswers = true →
      exec (.functionLevelReset pf) s = .next { (s.resetFn pf).goOn.after with pending := s.pending } ∧
      (pf.val < s.fns.length → pf.val < s.queues.length → pf.val < s.ctxs.length →
        (s.resetFn pf).fn pf = {} ∧ (s.resetFn pf).queue pf = {} ∧ ctxLive ((s.resetFn pf).ctx pf).st = false)) ∧
    (∀ d3, s.pcieAnswers = true → ctxLive (s.ctx pf).st = false → (s.fn pf).serving = none →
      exec (.busMasterClear pf d3) s =
        .next { (s.updFn pf fun f => { f with bme := false, mse := f.mse && !d3 }).pump.after with pending := s.pending }) ∧
    (∀ d3, s.pcieAnswers = true → ctxLive (s.ctx pf).st = true → (s.fn pf).serving = none →
      (s.ctx pf).quad = false →
      exec (.busMasterClear pf d3) s =
        .next { ((s.updFn pf fun f => { f with bme := false, mse := f.mse && !d3 }).repause pf fun x =>
          { x with pauseBme := true }).pump.after with pending := s.pending }) ∧
    (∀ d0, s.pcieAnswers = true → ctxLive (s.ctx pf).st = false →
      exec (.busMasterSet pf d0) s =
        .next { (s.updFn pf fun f => { f with bme := true, mse := f.mse || d0 }).goOn.after with pending := s.pending })

/-! ### The harvest -/

/-- The harvest's rows (R265, R291, R308, R319, R320, R369, R372, R393, R401): the first assay record of the Assay step is
kept with what it meets; an add commits and is backed out; a ledger seed goes to the Pans; a mask is done; a
reconstruction is attempted and verified; a slot that passes its freeze point is frozen; the share window ends the
phase; a step is reported; the result is sealed and released. A Tally read that finds an illegal byte or an uncorrectable word is
FATAL. Choices of the model: log entries 35, 52, 53, 60, 66 and 69. -/
def Obligations.HarvestRowsRun : Prop :=
  ∀ (c : Fin 4) (s : State),
    (∀ (p : Fin 48) r, (s.pansOf c).contains p.val = true → (s.ctx c).st = .settling → (s.ctx c).step = 6 →
      (s.ctx c).assay = none →
      exec (.assayRecord c p r) s =
        .next { (s.updCtx c fun x => { x with assay := some (padTo 32 r), assayMet := assayHolds (s.ctx c) (padTo 32 r) }).after with
          pending := s.pending }) ∧
    (∀ slot tally, ctxLive (s.ctx c).st = true → (addEntry (s.ctx c) slot).issued = true → (slotCtx (s.ctx c) slot).isSome = true →
      s.allDone c slot = true → (s.ctx c).quad = false →
      (tallyOk (s.ctx c) slot tally = true →
        exec (.addCommit c slot tally) s =
          .next { ((if (tally.any fun e => e.1 / 8 == slot / 8) = true then s.classCount 0 else s).commitAdd c slot).after with
            pending := s.pending }) ∧
      (tallyOk (s.ctx c) slot tally = false →
        exec (.addCommit c slot tally) s = .next { (s.fatalVoid c 5 0 slot).after with pending := s.pending }) ∧
      (c.val < s.ctxs.length → homedHere (s.ctx c) slot = true → ledStatus (ledgerByte ((s.commitAdd c slot).ctx c) slot) = 2 ∧
        slotCtx ((s.commitAdd c slot).ctx c) slot = none)) ∧
    (∀ slot chunk fails e, ctxLive (s.ctx c).st = true → (addEntry (s.ctx c) slot).issued = true →
      slotCtx (s.ctx c) slot = some e → s.chunkLost e chunk = true →
      ((s.pansOf c).any fun p => (s.pan p).commit.slot == slot && (s.pan p).commit.st == .backout) = true →
      s.backoutHeld c slot = false → (s.ctx c).quad = false → e.last = none →
      exec (.addBackout c slot chunk fails) s =
        .next { (if ctxLive ((s.backout c slot fails).ctx c).st = true then
            (s.backout c slot fails).updCtx c fun x => { x with
              slots := x.slots.map fun e => if e.slot == slot then { e with digests := eraseN e.digests chunk } else e }
          else s.backout c slot fails).after with pending := s.pending }) ∧
    (∀ o i z, (s.ctx c).st = .unmasking → paused (s.ctx c) = false → s.reconstructs c = true → s.sumsMerged c = true →
      allResolved (s.ctx c) = true → s.seedRoom c = true → nextMask (s.ctx c) = some (o, i, z) →
      (i ≠ o → s.rosterLost c i = false) →
      let x := s.ctx c
      let t := s.updCtx c fun x => { x with
        nextTag := (s.ctx c).nextTag + 1
        masks := x.masks ++ [{ tag := (s.ctx c).nextTag, owner := o, neighbour := i, sub := i ≤ o, seed := maskSeed (s.ctx c) o i z }]
        issuedCount := x.issuedCount + 1 }
      let u := (if i = o then t else t.count .khdCurve 0 1).seedToPans c x.nextTag (i ≤ o) (maskSeed x o i z)
      exec (.ledgerSeedIssue c) s =
        .next { (if hvMode x = 1
          then u.ctlAll .ledgerSeed (leBytes 4 x.nextTag ++ [BitVec.ofNat 8 (b2n (i ≤ o))] ++ maskSeed x o i z) else u).after with
          pending := s.pending }) ∧
    (∀ (p : Fin 48) ups t, s.expandEntry p ups = (none, t) →
      exec (.maskEntryDone p ups) s = .next { t.after with pending := s.pending }) ∧
    (∀ (p : Fin 48) ups k tag t, s.expandEntry p ups = (some (k, tag), t) →
      ((t.updCtx k fun x => maskDone x tag t.power.pos p).feedSeed k).reconstructs k = true →
      exec (.maskEntryDone p ups) s =
        .next { ((((t.updCtx k fun x => maskDone x tag t.power.pos p).feedSeed k).maskRemoved k tag).checkUnmasked k).after with
          pending := s.pending }) ∧
    (∀ o m l, (s.ctx c).st = .unmasking → paused (s.ctx c) = false → s.reconstructs c = true → s.sumsMerged c = true →
      o < rosterN (s.ctx c) → isNeeded (s.ctx c) o = true → isResolved (s.ctx c) o = false →
      ((s.ctx c).recons.any fun r => r.running.isSome && s.reconRank c r.owner == s.reconRank c o) = false →
      (nextAttempt (s.ctx c) o (reconOf (s.ctx c) o).attempts = some (m, l) →
        exec (.reconAttemptStart c o) s =
          .next { ((s.updCtx c fun x => setRecon x { reconOf (s.ctx c) o with attempts := m, running := some (l.map (·.x)) }).updPan
            (s.reconPan c o) fun q => { q with recon := some { owner := o, set_ := l.map fun e => (e.x, e.y) } }).after with
            pending := s.pending }) ∧
      (nextAttempt (s.ctx c) o (reconOf (s.ctx c) o).attempts = none →
        exec (.reconAttemptStart c o) s =
          .next { ((s.recoveryFailed c o).checkUnmasked c).after with pending := s.pending })) ∧
    (∀ o tally, (s.ctx c).st = .unmasking → (reconOf (s.ctx c) o).running.isSome = true →
      let l := match (s.pan (s.reconPan c o)).recon with | some r => r.set_ | none => []
      let t := s.updPan (s.reconPan c o) fun q => { countWork q 2 (reconShakes (hvT (s.ctx c))) with recon := none }
      (tallyOk (s.ctx c) o tally = true →
        exec (.reconAttemptDone c o tally) s =
          .next { ((if (tally.any fun e => e.1 / 8 == o / 8) = true then t.classCount 0 else t).reconResult c o (joinLimbs l)).after with
            pending := s.pending }) ∧
      (tallyOk (s.ctx c) o tally = false →
        exec (.reconAttemptDone c o tally) s = .next { (t.fatalVoid c 5 0 o).after with pending := s.pending })) ∧
    (∀ o z,
      let x := s.ctx c
      let t := if z.isSome && ledReveal (ledgerByte x o) == 2 then s.count .khdCurve 0 1 else s
      (z.any (s.verifies c o) = true →
        s.reconResult c o z = (t.updCtx c fun x =>
          { setRecon (setLedger x o (setBits (ledgerByte x o) 4 4 1)) { reconOf (s.ctx c) o with running := none, secret := z } with
            shares := x.shares.filter fun e => e.owner != o }).tellByte c o) ∧
      (z.any (s.verifies c o) = false → (nextAttempt x o (reconOf x o).attempts).isSome = true →
        s.reconResult c o z = t.updCtx c fun y => setRecon y { reconOf x o with running := none })) ∧
    (∀ slot tally, (s.ctx c).st = .gathering → (s.ctx c).freezing = true → slot < rosterN (s.ctx c) → pastFreeze (s.ctx c) slot = false →
      s.flowHeld c slot = false → s.flowItems (flowId c slot) = [] →
      let t := (if (tally.any fun e => e.1 / 8 == slot / 8) = true then s.classCount 0 else s).updCtx c fun x => freezeSlot x slot
      (tallyOk (s.ctx c) slot tally = true →
        exec (.freezeItemServe c slot tally) s =
          .next { (if (t.ctx c).frozenUpTo = rosterN (s.ctx c) then t.freezeEnds c else t).after with pending := s.pending }) ∧
      (tallyOk (s.ctx c) slot tally = false →
        exec (.freezeItemServe c slot tally) s = .next { (s.fatalVoid c 5 0 slot).after with pending := s.pending })) ∧
    (∀ (x : Ctx) slot, (isAdded x slot = true → ledgerByte (freezeSlot x slot) slot = ledgerByte x slot) ∧
      (isAdded x slot = false → homedHere x slot = true → isDropped (freezeSlot x slot) slot = true ∧ slotCtx (freezeSlot x slot) slot = none)) ∧
    ((s.ctx c).st = .tallied → (s.ctx c).windowOn = true → (s.ctx c).windowLeft = 0 → paused (s.ctx c) = false →
      exec (.shareWindowExpire c) s = .next { (s.endPhase c).after with pending := s.pending }) ∧
    (∀ (p : Fin 48) r, (s.ctx c).st = .settling → (s.ctx c).hold = 0 → 2 ≤ (s.ctx c).step → (s.ctx c).step ≤ 6 →
      s.reportOk c (padTo 32 r) = true → (s.pansOf c).contains p.val = true → s.reportFits c p (padTo 32 r) = true →
      ((s.ctx c).reports.map fun e => leAt e.2.2 16 4).sum + leAt (padTo 32 r) 16 4 ≤ 2 ^ 31 →
      ((s.ctx c).reports.any fun e => e.1 == s.power.pos && e.2.1 == p.val) = false → (s.ctx c).quad = false →
      exec (.stepReport c p r) s =
        .next { ((s.updCtx c fun x => { x with
          reports := x.reports ++ [(s.power.pos, p.val, padTo 32 r)]
          noiseLacks :=
            if !(s.pan p).noiseDone && (s.ctx c).step == 2 && !(s.ctx c).noiseLacks.contains s.power.pos
            then x.noiseLacks ++ [s.power.pos] else x.noiseLacks }).settleAdvance c).after with
          pending := s.pending }) ∧
    (∀ data tally, s.settles c = true → (s.ctx c).step = 8 → (s.ctx c).quad = false →
      let t := if (tally.any fun (e : Nat × Upset) => decide (e.1 < rosterN (s.ctx c))) = true then s.classCount 0 else s
      (((slotList (s.ctx c)).all fun i => tallyOk (s.ctx c) i tally) = true → t.resultData c = some data →
        exec (.resultSeal c tally) s =
          .next { (match t.sealAndSign c data with
            | none => t.noteWait 0
            | some ((r, cert), u) => u.release c r cert).after with pending := s.pending }) ∧
      (((slotList (s.ctx c)).all fun i => tallyOk (s.ctx c) i tally) = false →
        exec (.resultSeal c tally) s = .next { (s.fatalVoid c 5 0 0).after with pending := s.pending })) ∧
    (∀ data r cert u, s.sealAndSign c data = some ((r, cert), u) →
      ∃ eph t, s.draw 0 32 = some (eph, t) ∧ r = sealResult (s.ctx c) c eph data) ∧
    (∀ result cert, c.val < s.ctxs.length → ((s.release c result cert).ctx c).st = .released ∧
      ((s.release c result cert).ctx c).result = result ∧ ((s.release c result cert).ctx c).cert = cert)

/-! ### The Inlets -/

/-- The Inlets' rows (R411, R414, R421 to R425, R430, R433, R464, R365, R371): a frame that passes the MAC is answered where it is
an ARP request, a Neighbour Solicitation, an echo request or a PROBE, and goes to admission where it is a CHUNK or a SHARE; a chunk
or a batch whose turn it is is served by the first row that fits; a slot context is set up; a port's link is followed; a
second's counts are reported and start anew; the frame that has waited longest is refused; a frame with a codeword that RS-FEC could
not correct is counted and dropped. Choices of the model: log entries 16, 31, 54, 66 and 69. -/
def Obligations.InletRowsRun : Prop :=
  ∀ (q : Fin 4) (s : State),
    (∀ f e n, (s.port q).link = 2 → s.l2Ok q f true = some e →
      let t := (((s.updPort q (portNow s.second)).count .inlRxFrames q 1).count .inlRxBytes q f.length).retryCredits.bump .inlFec q 31 0 n
      let u := t.updPort q fun p => { p with taken := p.taken + 1 }
      (t.port q).taken < 100000000 →
      (∀ r, s.rxKind q e = (.arp, r) →
        exec (.arpRequest q f (some n)) s = .next { (u.frameOut q r).after with pending := s.pending }) ∧
      (∀ r, s.rxKind q e = (.nd, r) →
        exec (.neighborSolicitation q f (some n)) s = .next { (u.frameOut q r).after with pending := s.pending }) ∧
      (∀ r, s.rxKind q e = (.echo, r) →
        exec (.echoRequest q f (some n)) s = .next { (u.direct q r).after with pending := s.pending }) ∧
      (∀ r a v, s.rxKind q e = (.vezil, r) → u.udpIn q e = some (a, v) → vfOk [1, 2, 5] v = true →
        exec (.frameReceive q f (some n)) s =
          .next { (if vfType v = 5 then u.probe q a v
            else u.admitFrame { port := q, ctx := 0, slot := 0, share := false, bytes := v, len := f.length, addr := a } none).after with
            pending := s.pending })) ∧
    (∀ f, (s.port q).link = 2 →
      exec (.frameReceive q f none) s =
        .next { (((((s.updPort q (portNow s.second)).count .inlRxFrames q 1).count .inlRxBytes q f.length).retryCredits.bump .inlFec q
          63 32 1).bump .inlDrop q 63 48 1).after with pending := s.pending }) ∧
    (∀ id f tally, s.frameOf id = some f → f.share = false → s.frameTurn f = true → s.sameHarvest f = true →
      ctxLive (s.ctx f.ctx).st = true → tallyOk (s.ctx f.ctx) f.slot tally = false →
      exec (.chunkServe id tally) s =
        .next { (((s.fatalVoid f.ctx 5 0 f.slot).frameRefuse f .late .none).frameDone f).after with pending := s.pending }) ∧
    (∀ id f tally, s.frameOf id = some f → f.share = false → s.frameTurn f = true →
      (s.sameHarvest f && ctxLive (s.ctx f.ctx).st && !tallyOk (s.ctx f.ctx) f.slot tally) = false →
      let s1 := if s.sameHarvest f then s.tallyRead f.ctx f.slot tally fun t => t else s
      (∀ st h, s1.chunkRows f = .refuse st h →
        exec (.chunkServe id tally) s = .next { ((s1.frameRefuse f st h).frameDone f).after with pending := s.pending }) ∧
      (∀ m, s1.chunkRows f = .resend m →
        exec (.chunkServe id tally) s =
          .next { (((s1.updCtx f.ctx fun x => { x with receiptsSent := satAdd 32 x.receiptsSent 1 }).frameReply f
            (receiptOf (s.ctx f.ctx) f.slot (vfTag f.bytes) m)).frameDone f).after with pending := s.pending }) ∧
      (∀ k n, s1.chunkRows f = .open_ k n →
        exec (.chunkServe id tally) s =
          .next { (match Crypto.gcmOpen k (Crypto.hpkeNonce n (vfChunk f.bytes)) (hvId (s.ctx f.ctx) ++ beBytes 4 f.slot ++
              [BitVec.ofNat 8 (partByte (s.ctx f.ctx))] ++ beBytes 4 (vfChunk f.bytes)) (vfCipher f.bytes) with
            | none => (s1.frameRefuse f .authFail .none).frameDone f
            | some pt => s1.chunkOpened f pt).after with pending := s.pending }) ∧
      (s.chunkRows f = .setup → s.keyhold.keyreg.holder = none →
        exec (.slotContextSetup id) s =
          .next { (match s.hpkeAuth (vfEnc f.bytes) (rosterAuthPk (s.ctx f.ctx) f.slot) (ascii "VZ contrib" ++ hvId (s.ctx f.ctx) ++
              beBytes 4 f.slot ++ [BitVec.ofNat 8 (partByte (s.ctx f.ctx))] ++ beBytes 4 (partChunks (s.ctx f.ctx))) with
            | none => s
            | some h =>
              { (s.count .khdCurve 0 2) with inlets := { s.inlets with frames := s.inlets.frames.map fun (g : Frame) => if g.id == f.id then
                { g with hpke := some (h.key, h.baseNonce, Crypto.hpkeExport h (ascii "VZ receipt") 32) } else g } }).after with
            pending := s.pending })) ∧
    (∀ id f tally, s.frameOf id = some f → f.share = true → s.frameTurn f = true →
      (∀ st h, s.batchFail f = some (st, h) →
        exec (.shareBatchServe id tally) s = .next { ((s.frameRefuse f st h).frameDone f).after with pending := s.pending }) ∧
      (∀ k n r pt, s.batchFail f = none → f.hpke = some (k, n, r) →
        Crypto.gcmOpen k (Crypto.hpkeNonce n 0) [] (vfCipher f.bytes) = some pt → pt.length % 56 = 0 → 56 ≤ pt.length →
        pt.length ≤ 7168 →
        (tallyOk (s.ctx f.ctx) f.slot tally = false →
          exec (.shareBatchServe id tally) s =
            .next { (((s.fatalVoid f.ctx 5 0 f.slot).frameRefuse f .late .none).frameDone f).after with pending := s.pending }) ∧
        (tallyOk (s.ctx f.ctx) f.slot tally = true → exec (.shareBatchServe id tally) s =
          .next { (let t := s.takeShares f.ctx f.slot tally (chunksOf 56 (pt.length / 56) pt) 0 0
            (t.2.frameReply f (receiptFrame 3 0 f.slot (t.1.1 * 65536 + t.1.2) (vfTag f.bytes) (vfHid f.bytes)
              (List.replicate 16 0))).frameDone f).after with pending := s.pending }))) ∧
    (∀ st : Fin 3, (s.port q).loopbackFail = false → bitOf (s.reg .inlPctl q) 0 = true → 9 ≤ s.dev.bootStep → st.val ≠ (s.port q).link →
      exec (.inletLinkState q st) s =
        .next { (let t := (s.updPort q fun p => { p with link := st, waiting := if st.val = 2 then p.waiting else [] }).linkStateEvent 0 q st
          if st.val = 2 then t.announce q else t).after with pending := s.pending }) ∧
    (exec .statsSecond s = .next { s.statsSecond.after with pending := s.pending } ∧
      (∀ c, s.second ≠ s.inlets.statsAt → c < 4 → c < s.ctxs.length → ctxLive (s.ctx c).st = true →
        (s.statsSecond.ctx c).refusals = List.replicate 7 0 ∧ (s.statsSecond.ctx c).receiptsSent = 0)) ∧
    (∀ f l, (s.retryCredits.port q).waiting = f :: l →
      exec (.enqueueWaitExpire ⟨q.val, by omega⟩) s =
        .next { (((s.retryCredits.updPort q fun p => { p with waiting := l }).refuseEarly f (some f.ctx) .busy
          .base).retryCredits).after with pending := s.pending })

/-! ### Carillon -/

/-- Carillon's links (R558 to R564, R566): a link trains and comes UP on the position it leads to; a flit in its turn is
acknowledged and its payload goes on, one that is damaged is asked for again; replays, tolls, losses and BATCH flits; a link
that goes DOWN discards both its buffers. Choices of the model: log entries 22, 23, 37 and 48. -/
def Obligations.CarillonLinkRowsRun : Prop :=
  ∀ (k : Fin 3) (s : State),
    (∀ peer : Fin 4, s.linksRun = true → (s.link k).st = 1 → peer.val = s.farOf k →
      exec (.carillonLinkState k 2 peer) s =
        .next { (((((s.updLink k fun l => { l with peer := peer, peerValid := true }).updLink k fun l =>
          { l with st := 2 }).linkStateEvent 1 k 2).linkReturn k).formAdvance) with pending := s.pending }) ∧
    (∀ peer : Fin 4, s.linksRun = true →
      exec (.carillonLinkState k 0 peer) s = .next { (s.carDown k 0).formAdvance with pending := s.pending }) ∧
    (∀ cause, (s.link k).st ≠ 0 → s.car.formed = false → k.val < s.car.links.length →
      ((s.carDown k cause).link k).st = 0 ∧ ((s.carDown k cause).link k).replay = [] ∧ ((s.carDown k cause).link k).rx = [] ∧
      ((s.carDown k cause).link k).waiting = [] ∧
      ((s.carDown k cause).link k).cause = cause) ∧
    (∀ b, (s.link k).st = 2 → b.length = 200 → bitsOf (leAt b 0 8) 23 0 ≠ crc24 (b.drop 3) →
      exec (.flitReceive k b) s = .next { s.nak k with pending := s.pending }) ∧
    (∀ b, (s.link k).st = 2 → b.length = 200 → bitsOf (leAt b 0 8) 23 0 = crc24 (b.drop 3) → bitsOf (leAt b 0 8) 63 60 = 1 →
      bitsOf (leAt b 0 8) 35 28 ≤ 192 → bitsOf (leAt b 0 8) 27 24 = 0 →
      (bitsOf (leAt b 0 8) 59 48 + 4096 - (s.link k).rxSeq) % 4096 = 0 →
      exec (.flitReceive k b) s =
        .next { ((((s.ackLink k (bitsOf (leAt b 0 8) 47 36)).updLink k fun l =>
          { l with rxSeq := (l.rxSeq + 1) % 4096, nakSent := false }).sendFlit k 0 []).dataIn k
          ((b.drop 8).take (bitsOf (leAt b 0 8) 35 28))) with pending := s.pending }) ∧
    (s.linkUp k = true →
      exec (.replayTimeout k) s = .next { s.replayLink k with pending := s.pending } ∧
      ((s.link k).replay ≠ [] → exec (.replayExhausted k) s = .next { s.carDown k 2 with pending := s.pending }) ∧
      exec (.tollTimeout k) s = .next { s.carDown k 1 with pending := s.pending } ∧
      exec (.alignLoss k) s = .next { s.carDown k 3 with pending := s.pending } ∧
      ((s.link k).sinceBatch ≠ 0 → exec (.batchTimer k) s = .next { s.placeBatch k with pending := s.pending })) ∧
    (s.cad.toll % 10 = 0 →
      exec .tollSend s =
        .next { ((List.range 3).foldl (fun (s : State) k => if s.linkUp k then s.sendFlit k 2 s.tollBytes else s) s).tellAdvance with
          pending := s.pending })

/-- Formation, membership, the job key (R567 to R572): a named link that does not come UP fails the formation; a FORM record in
its turn is taken; a MEMBERSHIP of a member narrows the membership; the Treble removes a member that it has lost, and a
member that has lost the Treble leaves; a DISSOLVE ends the formed state; an exchange that a member refuses ends the open.
Choices of the model: log entries 22 and 47. -/
def Obligations.MembershipRowsRun : Prop :=
  ∀ s : State,
    (∀ f, s.car.forming = some f → f.linksUp = false →
      exec .formLinkTimeout s = .next { s.formFails .linkDown true with pending := s.pending } ∧
      (s.formFails .linkDown true).car.forming = none) ∧
    (∀ r f, (recHead r).typ = 0x20 → s.recordTurn r = true → s.car.forming = some f → bitOf f.mask (recHead r).src = true →
      exec (.form r) s =
        .next { (match (s.takeRecord r).assemble (65536 + 256 * (recHead r).src + byteAt (plainBody r) 0) (plainBody r) with
          | (none, t) => t
          | (some m, t) => t.formIn f (recHead r).src (byteAt (plainBody r) 0) m) with pending := s.pending }) ∧
    (∀ r, (recHead r).typ = 0x21 → s.recordTurn r = true → s.car.formed = true → bitOf s.car.members (recHead r).src = true →
      exec (.membership r) s =
        .next { ((s.takeRecord r).setMembers (Nat.land s.car.members (byteAt (plainBody r) 0))).after with pending := s.pending }) ∧
    (∀ pos : Fin 4, s.car.formed = true → bitOf s.car.members pos = true → s.isTreble = true → pos.val ≠ s.power.pos →
      ((s.linkTo pos).any s.linkUp) = false →
      let mask := setBits s.car.members pos pos 0
      let t : State := { s with car := { s.car with transfers := s.car.transfers.filter fun t => t.peer != pos.val } }
      exec (.membershipTimeout pos) s =
        .next { (((t.peers.filter (· != pos.val)).foldl (fun (s : State) p => s.sendPlain 0x21 p 0xFF [BitVec.ofNat 8 mask]) t).setMembers
          mask).after with pending := s.pending }) ∧
    (∀ pos : Fin 4, s.car.formed = true → bitOf s.car.members pos = true → s.isTreble = false → pos.val = s.power.pos →
      ((s.linkTo s.treble).any s.linkUp) = false →
      exec (.membershipTimeout pos) s = .next { s.leaveQuad.membersEvent.after with pending := s.pending }) ∧
    (∀ r, (recHead r).typ = 0x22 → s.recordTurn r = true → s.car.formed = true → bitOf s.car.members (recHead r).src = true →
      exec (.dissolve r) s = .next { ((s.takeRecord r).leaveQuad.membersEvent).after with pending := s.pending }) ∧
    (s.leaveQuad.car.formed = false ∧ s.leaveQuad.car.members = 0 ∧ s.leaveQuad.car.job = none ∧ s.leaveQuad.car.transfers = []) ∧
    (∀ r, (recHead r).typ = 0x10 → (recHead r).epoch = 0 → s.recordTurn r = true → s.car.formed = true →
      bitOf s.car.members (recHead r).src = true → byteAt (plainBody r) 0 = 0 → (recHead r).src = s.treble →
      exec (.jobKeyExchange r) s =
        .next { (match (s.takeRecord r).exchangeMember (recHead r).ctx (recHead r).src (slice (plainBody r) 1 16) ((plainBody r).drop 17) with
          | some t => t
          | none => s.noteWait 0).after with pending := s.pending }) ∧
    (∀ r j, (recHead r).typ = 0x10 → (recHead r).epoch = 0 → s.recordTurn r = true → s.car.formed = true →
      bitOf s.car.members (recHead r).src = true → s.car.job = some j → j.ctx = (recHead r).ctx →
      (byteAt (plainBody r) 0 = 0 → (recHead r).src ≠ s.treble → s.isTreble = true →
        exec (.jobKeyExchange r) s =
          .next { ((s.takeRecord r).exchangeTreble j (recHead r).src (slice (plainBody r) 1 16) ((plainBody r).drop 17)).after with
            pending := s.pending }) ∧
      (byteAt (plainBody r) 0 = 1 → (recHead r).src = s.treble →
        exec (.jobKeyExchange r) s =
          .next { ((s.takeRecord r).exchangeKey j (recHead r).src (slice (plainBody r) 1 16) ((plainBody r).drop 17)).after with
            pending := s.pending }) ∧
      (byteAt (plainBody r) 0 = 2 →
        exec (.jobKeyExchange r) s =
          .next { ((s.takeRecord r).exchangeRefused j (leAt ((plainBody r).drop 17) 0 2)).after with pending := s.pending }))

/-- Carillon's transfers (R573 to R580): an item of a Pan of the job goes out as a posted write, a read or a CLEAR; a
posted write that opens is delivered and acknowledged; acknowledgements, notices and data complete their transfer; a read
is answered, one that meets an uncorrectable word with UNCORRECTABLE, one of a range that a slice holds waits; a CLEAR is noted, an
epoch begins; a transfer's time ends. Choices of the model: log entries 22, 37, 38, 45 and 69. -/
def Obligations.TransferRowsRun : Prop :=
  ∀ s : State,
    (∀ (p : Fin 48) (rc : Fin 64) b j, s.jobOf p = some j →
      (descOk 0 b = true → s.isTarget (byteAt b 0) = true →
        exec (.carillonServiceItem p 0 rc b) s =
          .next { (s.updJob fun j => { j with writes := j.writes + 1 }).sendTransfer 0 0x01 p rc (byteAt b 0) (leAt b 4 4) j.epoch b with
            pending := s.pending }) ∧
      (descOk 1 b = true → s.isTarget (byteAt b 0) = true →
        exec (.carillonServiceItem p 1 rc b) s =
          .next { s.sendTransfer 1 0x04 p rc (byteAt b 0) (leAt b 4 4) j.epoch (b.take 32) with pending := s.pending }) ∧
      (descOk 2 b = true → j.dirty = true → leAt b 16 4 = j.epoch → s.isTreble = false →
        exec (.carillonServiceItem p 2 rc b) s =
          .next { (s.updJob fun j => { j with clearWait := j.clearWait ++ [(p.val, rc.val)] }).sendSealed 0x06 s.treble 0
            ([BitVec.ofNat 8 p.val, 0, 0, 0] ++ leBytes 4 j.epoch) with pending := s.pending })) ∧
    (∀ r b j t, (recHead r).typ = 0x01 → s.recordTurn r = true → s.car.job = some j → j.key ≠ [] → s.openRecord r = some b →
      let it : FabItem :=
        { src := 0xFF, srcChan := 0, ctx := some j.ctx, kind := 0, dest := byteAt b 1, dchan := byteAt b 2, rchan := 0,
          token := false, data := b.drop 32 }
      ctxLive (s.ctx j.ctx).st = true → it.dest < 48 → it.dchan < 64 → s.strayReason it = none →
      (s.takeRecord r).deliverPan it = some t →
      exec (.postedWrite r) s =
        .next { (t.sendSealed 0x02 (recHead r).src (recHead r).tag []).updJob fun j =>
          { j with owed := j.owed ++ [((recHead r).src, (recHead r).tag, (t.pathTo (recHead r).src).getD 3)] } with
          pending := s.pending }) ∧
    (∀ r b u, s.recordTurn r = true → s.openRecord r = some b →
      ((recHead r).typ = 0x02 → (s.takeRecord r).transferOf 0 (recHead r).src (recHead r).tag = some u →
        exec (.writeAck r) s = .next { (s.takeRecord r).dropTransfer u with pending := s.pending }) ∧
      ((recHead r).typ = 0x03 → (s.takeRecord r).transferOf 0 (recHead r).src (recHead r).tag = some u →
        exec (.postedNotice r) s =
          .next { ((s.takeRecord r).dropTransfer u).writeFailed (recHead r).ctx (s.failLink u.peer u.link) u.peer u.epoch u.tag with
            pending := s.pending }) ∧
      ((recHead r).typ = 0x05 → (s.takeRecord r).transferOf 1 (recHead r).src (recHead r).tag = some u →
        exec (.readData r) s =
          .next { ((s.takeRecord r).dropTransfer u).portItem (recHead r).ctx u.pan u.rchan false b with pending := s.pending })) ∧
    (∀ r b ups, (recHead r).typ = 0x04 → s.recordTurn r = true → s.openRecord r = some b →
      s.held (byteAt b 1) (leAt b 8 4) (leAt b 12 2) = false → descOk 1 b = true → (s.pan (byteAt b 1)).ctx = some (recHead r).ctx →
      ctxLive (s.ctx (recHead r).ctx).st = true → leAt b 8 4 + leAt b 12 2 ≤ panBytes (s.pan (byteAt b 1)) →
      let met := (upsetsIn ups (leAt b 8 4) (leAt b 12 2)).partition fun u => u.2 == Upset.corrected
      let t := met.1.foldl (fun (s : State) u => s.meetUpset (byteAt b 1) 0 u) (s.takeRecord r)
      let d := Memory.readN (t.pan (byteAt b 1)).mem (leAt b 8 4) (leAt b 12 2)
      let n := met.2.length + ((t.pan (byteAt b 1)).bad.filter fun w =>
        decide (8 * w < leAt b 8 4 + leAt b 12 2) && decide (leAt b 8 4 < 8 * w + 8)).length
      (n = 0 → exec (.readReq r ups) s =
        .next { t.sendSealed 0x05 (recHead r).src (recHead r).tag (leBytes 2 (statusCode .ok) ++ [0, 0] ++
          leBytes 4 (leAt b 4 4) ++ leBytes 4 d.length ++ List.replicate 20 0 ++ d) with pending := s.pending }) ∧
      (n ≠ 0 → exec (.readReq r ups) s =
        .next { (t.bump .panEcc (byteAt b 1) 31 16 n).sendSealed 0x05 (recHead r).src (recHead r).tag
          (leBytes 2 (statusCode .uncorrectable) ++ [0, 0] ++ leBytes 4 (leAt b 4 4) ++ leBytes 4 0 ++ List.replicate 20 0 ++ []) with
          pending := s.pending })) ∧
    (∀ r b ups, s.openRecord r = some b → s.held (byteAt b 1) (leAt b 8 4) (leAt b 12 2) = true →
      exec (.readReq r ups) s =
        .next { s with sweep := { s.sweep with held := s.sweep.held ++ [.readReq r ups] } }) ∧
    (∀ r b j, (recHead r).typ = 0x06 → s.recordTurn r = true → s.openRecord r = some b → s.car.job = some j → s.isTreble = true →
      j.dirty = true → leAt b 4 4 = j.epoch → j.clears.contains ((recHead r).src, byteAt b 0) = false →
      exec (.clear r) s =
        .next { ((s.takeRecord r).updJob fun j => { j with clears := j.clears ++ [((recHead r).src, byteAt b 0)] }).checkClears with
          pending := s.pending }) ∧
    (∀ r b j, (recHead r).typ = 0x11 → s.recordTurn r = true → s.openRecord r = some b → s.car.job = some j →
      (recHead r).src = s.treble → leAt b 0 4 = j.epoch + 1 →
      exec (.epoch r) s = .next { (s.takeRecord r).switchEpoch (j.epoch + 1) with pending := s.pending }) ∧
    (∀ j, s.car.job = some j → s.isTreble = true → advanceDue j = true → j.key ≠ [] →
      (s.car.transfers.any fun t => t.kind == 0 && t.epoch == j.epoch) = false →
      exec .epochAdvance s =
        .next { (s.peers.foldl (fun (s : State) p => s.sendSealed 0x11 p 0 (leBytes 4 (j.epoch + 1))) s).switchEpoch (j.epoch + 1) with
          pending := s.pending }) ∧
    (∀ (kind : Fin 3) tag u,
      (s.car.transfers.find? fun t => t.kind == kind.val && t.tag == tag && (t.timing || s.unacked t)) = some u →
      (kind.val = 0 → ∀ j, s.car.job = some j →
        exec (.transferTimeout kind tag) s =
          .next { ((s.dropTransfer u).writeFailed j.ctx (s.failLink u.peer u.link) u.peer u.epoch u.tag).after with
            pending := s.pending }) ∧
      (kind.val = 1 →
        exec (.transferTimeout kind tag) s =
          .next { ((s.dropTransfer u).completionItem u.pan u.rchan .linkDown u.tag []).after with pending := s.pending }) ∧
      (kind.val = 2 → (s.pathBut u.peer u.link).filter (fun _ => !u.resent) = none →
        exec (.transferTimeout kind tag) s =
          .next { (s.dropTransfer u).leaveQuad.membersEvent.after with pending := s.pending })) ∧
    (∀ r b m t, (recHead r).typ = 0x10 → (recHead r).epoch ≠ 0 → s.recordTurn r = true → s.openRecord r = some b →
      byteAt b 0 = ctlCode .epochDirty →
      (s.takeRecord r).assemble (256 * (recHead r).src + ctlCode .epochDirty) b = (some m, t) →
      exec (.epochDirty r) s =
        .next { (if t.isTreble then t.markDirty (leAt m 0 4)
          else if (recHead r).src = t.treble then t.updJob (fun j => if j.epoch == leAt m 0 4 then { j with dirty := true } else j)
          else t).after with pending := s.pending })

/-- A message of a job (R359 to R405), in its turn and opened: gathered until its last record, then taken by its
own row; one whose tag fails is discarded and counted, whatever its row. Choices of the model: log entries 22, 34, 46 and 59. -/
def Obligations.QuadControlRowsRun : Prop :=
  ∀ (r : Bytes) (tally : Option (Nat × Upset)) (s : State), (recHead r).typ = 0x10 → (recHead r).epoch ≠ 0 → s.recordTurn r = true →
    ∀ (i : Instr) (c : Ctl) (f : Nat → Nat → Bytes → State → State),
      (i, c, f) ∈ [(Instr.quadParams r, Ctl.params, fun c src m s => s.paramsIn c src m),
        (.quadRoster r, .roster, fun c src m s => s.rosterIn c src m),
        (.quadOpenAnswer r, .openAnswer, fun c src m s => s.answerIn c src m),
        (.quadStaged r, .staged, fun c src m s => if s.isTreble && ctxLive (s.ctx c).st then s.partReported c (leAt m 0 4) src else s),
        (.quadGo r, .go, fun c src m s => if src = s.treble ∧ (s.ctx c).st == .gathering then s.goSlot c (leAt m 0 4) else s),
        (.quadDone r, .done, fun c src m s =>
          if s.isTreble && (s.ctx c).st == .gathering then s.doneReported c (leAt m 0 4) src else s),
        (.quadAdded r, .added, fun c src m s => if src = s.treble ∧ (s.ctx c).st == .gathering then s.commitAdd c (leAt m 0 4) else s),
        (.quadBackout r, .backout, fun c src m s => s.backoutIn c src (leAt m 0 4)),
        (.quadFreezeList r, .freezeList, fun c src m s => if src = s.treble then s.applyFreeze c m else s),
        (.quadShareForward r, .shareForward, fun c _ m s =>
          if s.isTreble && sharePhase (s.ctx c) then s.updCtx c fun x => holdShare x m else s),
        (.quadReveal r tally, .reveal, fun c _ m s => if sharePhase (s.ctx c) then (s.revealShare c m tally).2 else s),
        (.quadLedgerSeed r, .ledgerSeed, fun c src m s =>
          if src = s.treble ∧ (s.ctx c).st == .unmasking then s.memberSeed c m else s),
        (.quadMaskDone r, .maskDone, fun c src m s =>
          if s.isTreble && (s.ctx c).st == .unmasking then
            ((s.updCtx c fun x => maskDone x (leAt m 0 4) src 0xFF).maskRemoved c (leAt m 0 4)).checkUnmasked c else s),
        (.quadPartialSum r, .partialSum, fun c src m s => s.mergeSum c src m),
        (.quadStepToken r, .stepToken, fun c src m s => s.stepTokenIn c src m),
        (.quadStepReport r, .stepReport, fun c src m s =>
          if s.isTreble then s.stepReport c src (byteAt m 0) (byteAt m 1 == 1) (m.drop 2) else s),
        (.quadGateReport r, .gateReport, fun c src m s => s.gateIn c src m),
        (.quadReleaseCopy r, .releaseCopy, fun c src m s => s.copyIn c src m),
        (.quadReleaseAck r, .releaseAck, fun c src _ s =>
          let t := s.ctlAnswered src [.releaseCopy]
          if t.isTreble && (t.ctx c).st == .settling then
            (t.updCtx c fun x => { x with acks := if x.acks.contains src then x.acks else x.acks ++ [src] }).releaseIfAcked c
          else t),
        (.quadCommit r, .commit, fun c src _ s => s.commitIn c src),
        (.quadVoid r, .void, fun c src m s => s.voidIn c src m),
        (.quadPausedFlag r, .pausedFlag, fun c src m s => s.pausedIn c src m),
        (.quadLedgerBytes r, .ledgerBytes, fun c src m s => if s.isTreble then s.mergeBytes c src m else s.bytesIn c src m)] →
      (s.openRecord r = none →
        exec i s = .next { (s.takeRecord r).discardRecord.after with pending := s.pending }) ∧
      (∀ b, s.openRecord r = some b → byteAt b 0 = ctlCode c →
        exec i s =
          .next { (match (s.takeRecord r).assemble (256 * (recHead r).src + ctlCode c) b with
            | (none, t) => t
            | (some m, t) => f (recHead r).ctx (recHead r).src m t).after with pending := s.pending })

/-! ### Belfry -/

/-- The orders (R149, R197, R549, R622 to R636): each, on an open session, in its turn and in a state that allows it, has the effect of its
own rule on the request now outstanding, and its reply follows. Choices of the model: log entry 42. -/
def Obligations.BelfryOrdersRun : Prop :=
  ∀ (k q : Nat) (s : State),
    let t := s.ordered k q
    (s.takesOrder k q 0x01 = true → exec (.health k q) s = .next { (t.belfryReply k q 0x01 .ok t.healthBody).after with pending := s.pending }) ∧
    (∀ n, s.takesOrder k q 0x02 = true → 1 ≤ n → n ≤ 512 →
      exec (.telemetry k q n) s = .next { (t.belfryReply k q 0x02 .ok (t.telemetryBody n)).after with pending := s.pending }) ∧
    (∀ v, s.takesOrder k q 0x10 = true → v < 2 ^ 32 → regFault .govCap v = none →
      exec (.powerCap k q v) s =
        .next { (((t.putReg .belfry .govCap 0 0 ((regPlace .govCap).width / 8) v).announceMoved t).belfryReply k q 0x10 .ok []).after with
          pending := s.pending }) ∧
    (∀ v st, s.takesOrder k q 0x10 = true → v < 2 ^ 32 → regFault .govCap v = some st → st ≠ .ok →
      exec (.powerCap k q v) s = .next { (t.belfryReply k q 0x10 st []).after with pending := s.pending }) ∧
    (∀ a b c, s.takesOrder k q 0x11 = true → a < 2 ^ 32 → b < 2 ^ 32 → c < 2 ^ 32 → regFault .govCtl a = none →
      regFault .govVlimit b = none → regFault .govVfixed c = none →
      exec (.governor k q a b c) s =
        .next { (((((t.putReg .belfry .govCtl 0 0 ((regPlace .govCtl).width / 8) a).putReg .belfry .govVlimit 0 0
          ((regPlace .govVlimit).width / 8) b).putReg .belfry .govVfixed 0 0 ((regPlace .govVfixed).width / 8) c).announceMoved
          t).belfryReply k q 0x11 .ok []).after with pending := s.pending }) ∧
    (s.takesOrder k q 0x12 = true →
      exec (.shutdown k q) s = .next { (t.shutdownOrder k q).after with pending := s.pending }) ∧
    (s.takesOrder k q 0x13 = true → s.dev.st ≠ .untenanted → s.dev.switch = none →
      exec (.evict k q) s =
        .next { (((t.orderWaits k q 0x13).evictHost.voidAll .preempted).beginSwitch .device).after with pending := s.pending }) ∧
    (s.takesOrder k q 0x13 = true → s.dev.st = .untenanted →
      exec (.evict k q) s = .next { (t.belfryReply k q 0x13 .ok []).after with pending := s.pending }) ∧
    (∀ c, s.takesOrder k q 0x14 = true → c < 4 →
      exec (.contextStop k q c) s =
        .next { (((t.preempt [0x10, 0x11] [c]).voidCtx c .preempted).belfryReply k q 0x14 .ok []).after with pending := s.pending }) ∧
    (s.takesOrder k q 0x15 = true →
      exec (.reset k q) s = .next { ((t.belfryReply k q 0x15 .ok []).systemReset 3 false).after with pending := s.pending }) ∧
    (s.takesOrder k q 0x16 = true → s.dev.wake = none → s.dev.switch = none →
      exec (.wakeOrder k q) s = .next { ((t.orderWaits k q 0x16).beginWake (.belfry k q)).after with pending := s.pending }) ∧
    (∀ off flags data, s.takesOrder k q 0x20 = true → flags < 2 → off + data.length ≤ slotBytes → data.length ≤ 65528 →
      exec (.fwStage k q off flags data) s =
        .next { (({ t with belfry := { t.belfry with slots := updAt t.belfry.slots (1 - s.dev.fwSlot) fun x =>
          let x := if bitOf flags 0 then { x with erased := x.erased + 1, writes := [] } else x
          if data = [] then x else { x with writes := x.writes ++ [(off, data)] } } } : State).belfryReply k q 0x20 .ok []).after with
          pending := s.pending }) ∧
    (s.takesOrder k q 0x21 = true → (∀ pf v, pf < 4 → (s.fn pf).serving = some v → cmdCode v.cmd ≠ 0x04) →
      exec (.fwApply k q) s =
        .next { (if Config.fwVerifies (1 - s.dev.fwSlot) (s.belfry.slots.getD (1 - s.dev.fwSlot) {}).erased
            (s.belfry.slots.getD (1 - s.dev.fwSlot) {}).writes then
          (({ t with belfry := { t.belfry with active := 1 - s.dev.fwSlot } } : State).belfryReply k q 0x21 .ok []).systemReset 3 false
          else t.belfryReply k q 0x21 .sigFail [] : State).after with pending := s.pending }) ∧
    (∀ r, s.takesOrder k q 0x22 = true →
      exec (.calWrite k q r) s =
        .next { (if calOk r then
            ({ t with belfry := { t.belfry with cal := if erased r then [] else r } } : State).belfryReply k q 0x22 .ok []
          else t.belfryReply k q 0x22 .refused [] : State).after with pending := s.pending }) ∧
    (∀ r, s.takesOrder k q 0x23 = true →
      exec (.repairWrite k q r) s =
        .next { (if (repairMap r).isSome then
            ({ t with belfry := { t.belfry with repair := if erased r then [] else r } } : State).belfryReply k q 0x23 .ok []
          else t.belfryReply k q 0x23 .refused [] : State).after with pending := s.pending }) ∧
    (∀ w, s.takesOrder k q 0x24 = true → w < 3 →
      exec (.recordRead k q w) s = .next { (t.belfryReply k q 0x24 .ok (t.recordBody w)).after with pending := s.pending }) ∧
    (∀ i, s.takesOrder k q 0x25 = true → i < 48 → (s.pan i).st = .retired →
      exec (.unitReturn k q 1 i) s =
        .next { (let u := t.updPan i fun x => { x with st := .returning, map := [], need := 0 }
          ((List.range 384).foldl (fun (s : State) k => s.addTarget i k)
            (u.unitStateEvent 1 i (panCode .retired) (panCode .returning) (b2n (u.pan i).suspect))).orderWaits k q
            (0x25 + 256 * (1 * 256 + i)) : State).after with pending := s.pending }) ∧
    (∀ i, s.takesOrder k q 0x25 = true → i < 128 → (s.pc i).st = 2 → s.tenanted = true →
      exec (.unitReturn k q 2 i) s =
        .next { (({ (t.setPc i 3 (s.pc i).cause) with stores := { (t.setPc i 3 (s.pc i).cause).stores with
          returning := (t.setPc i 3 (s.pc i).cause).stores.returning ++ [i]
          scrub := if (t.setPc i 3 (s.pc i).cause).stores.scrub = 0 then 2 else (t.setPc i 3 (s.pc i).cause).stores.scrub } } :
          State).orderWaits k q (0x25 + 256 * (2 * 256 + i))).after with pending := s.pending }) ∧
    (∀ w l, s.takesOrder k q 0x30 = true → w.mapM addressWrite = some l → (l.findSome? fun w => regFault w.1 w.2.2) = none →
      exec (.addressSet k q w) s =
        .next { (((l.foldl (fun (s : State) w => s.putReg .belfry w.1 w.2.1 0 ((regPlace w.1).width / 8) w.2.2) t).announceMoved
          t).belfryReply k q 0x30 .ok []).after with pending := s.pending }) ∧
    (∀ r, s.takesOrder k q 0x31 = true →
      exec (.installSet k q r) s =
        .next { (if installOk r then ((t.putInstall r).belfryReply k q 0x31 .ok []).closeSessions
          else t.belfryReply k q 0x31 .refused [] : State).after with pending := s.pending })

/-- How orders come in (R624): a request that one of the last 64 replies answered is answered again and not run; an order waits its
turn while another is in service; one that the state does not allow is refused; on a session that is not open nothing happens.
Choices of the model: log entry 42. -/
def Obligations.OrdersRunOnce : Prop :=
  ∀ (k q code : Nat) (o : BelfryOrder) (s : State),
    (∀ x e, (s.belfry.sessions.find? fun x => x.id == k) = some x → s.belfry.running = true →
      (x.cache.find? fun e => e.1 == q) = some e → s.order k q o = s.emit (.belfry k e.2)) ∧
    (s.takesOrder k q (orderCode o) = true → s.order k q o = (s.ordered k q).runOrder k q o) ∧
    (∀ x, (s.belfry.sessions.find? fun x => x.id == k) = some x → s.belfry.running = true →
      (x.cache.find? fun e => e.1 == q) = none → x.outstanding.contains q = false → x.outstanding.length < 16 →
      (s.orderTurn (orderCode o) = false →
        s.order k q o =
          { s.ordered k q with belfry := { (s.ordered k q).belfry with queue := s.belfry.queue ++ [(k, q, o)] } }) ∧
      (s.orderTurn (orderCode o) = true → s.orderRefused (orderCode o) = true →
        s.order k q o = (s.ordered k q).belfryReply k q (orderCode o) .refused [])) ∧
    (∀ e l, s.belfry.queue = e :: l → s.orderBusy = false →
      s.nextOrders 1 = ({ s with belfry := { s.belfry with queue := l } } : State).serveOrder e.1 e.2.1 e.2.2) ∧
    (s.sessionOpen k = false → s.order k q o = s) ∧
    (∀ st body, k < smbusSession → (s.ordered k q).sessionOpen k = true →
      ∃ x, (((s.ordered k q).belfryReply k q code st body).belfry.sessions.find? fun x => x.id == k) = some x ∧
        x.cache.getLast? = some (q, belfryMsg q code (statusCode st) body))

/-- Belfry's other rows (R453, R618 to R623, R633, R636 to R638): a handshake opens a session under an anchor of the
installation record; the local orders; MCTP and SPDM requests are answered in their order; a repair is appended to the
record; the management port's link and frames; an order that no table lists. Choices of the model: log entries 6, 42 and 43. -/
def Obligations.BelfryLocalRowsRun : Prop :=
  ∀ s : State,
    (∀ k a, s.tlsUp = true → k < smbusSession → s.belfry.install.anchors.contains a = true → s.belfry.sessions.length < 4 →
      s.sessionOpen k = false → (s.belfry.waiting.any fun w => w.1 == k) = false →
      exec (.tlsHandshake k a true true true) s =
        .next { s with belfry := { s.belfry with sessions := s.belfry.sessions ++ [{ id := k }] } }) ∧
    (s.belfry.running = true → s.dev.muffledTamper = false →
      exec .localHealth s = .next { (s.belfryReply smbusSession 0 0x01 .ok s.healthBody) with
        power := { s.power with smbAlertN := true } } ∧
      (∀ r, s.tenanted = false → s.dev.switch = none → s.dev.st ≠ .locked → installOk r = true →
        exec (.install r) s = .next { (s.putInstall r).closeSessions.belfryReply smbusSession 0 0x31 .ok [] with pending := s.pending }) ∧
      ((s.belfry.waiting.any fun w => w.1 == smbusSession) = false → s.dev.st ≠ .locked → s.dev.st ≠ .held → s.dev.shutDown = false →
        s.dev.shutting = none →
        exec .powerDown s = .next { (s.shutdownOrder smbusSession 0).after with pending := s.pending })) ∧
    (s.belfry.running = true → s.power.smbAlertN = false →
      exec .smbusAlertResponse s = .next (s.emit (.smbus [BitVec.ofNat 8 (2 * (0x58 + s.power.smbAddr))]))) ∧
    (∀ msg, s.belfry.running = true → byteAt msg 0 = 0 → 128 ≤ byteAt msg 1 → byteAt msg 2 ≠ 1 →
      exec (.mctpControl msg) s = .next (s.emit (.smbus (mctpAnswer s.belfry.eid msg)))) ∧
    (∀ msg, s.belfry.running = true → byteAt msg 0 = 0 → 128 ≤ byteAt msg 1 → byteAt msg 2 = 1 → byteAt msg 3 % 4 < 2 →
      byteAt msg 4 ≠ 0 → byteAt msg 4 ≠ 0xFF →
      exec (.mctpControl msg) s =
        .next ({ s with belfry := { s.belfry with eid := byteAt msg 4 } }.emit (.smbus (mctpAnswer (byteAt msg 4) msg)))) ∧
    (∀ msg, s.spdmTakes msg 0x84 0x10 4 0 = true →
      exec (.getVersion msg) s = .next (s.spdmReply (fun b => { b with
        spdm := 1, vca := msg ++ [0x10, 0x04, 0, 0, 0, 1, 0x00, 0x12], chain := [], meas := [] }) [0x10, 0x04, 0, 0, 0, 1, 0x00, 0x12])) ∧
    (∀ msg, s.spdmTakes msg 0xE1 0x12 20 1 = true → s.belfry.spdm = 1 →
      ∃ resp, exec (.getCapabilities msg) s = .next (s.spdmReply (fun b => { b with spdm := 2, vca := b.vca ++ msg ++ resp }) resp) ∧
        resp.take 4 = [0x12, 0x61, 0, 0] ∧ leAt resp 8 4 = 0x16) ∧
    (∀ msg, s.spdmTakes msg 0xE3 0x12 32 2 = true → s.belfry.spdm = 2 →
      ∃ resp, exec (.negotiateAlgorithms msg) s = .next (s.spdmReply (fun b => { b with spdm := 3, vca := b.vca ++ msg ++ resp }) resp) ∧
        resp.length = 36 ∧ leAt resp 8 4 = 4 ∧ leAt resp 12 4 = (if bitOf (leAt msg 8 4) 7 then 128 else 0)) ∧
    (∀ msg, s.spdmTakes msg 0x81 0x12 4 3 = true →
      exec (.getDigests msg) s = .next (s.spdmReply (fun b => { b with
        chain := msg ++ ([0x12, 0x01, 0, 1] ++ Crypto.sha384 certChain) }) ([0x12, 0x01, 0, 1] ++ Crypto.sha384 certChain))) ∧
    (∀ msg, s.spdmTakes msg 0x82 0x12 8 3 = true → byteAt msg 2 % 16 = 0 → leAt msg 4 2 < certChain.length →
      ∃ resp, exec (.getCertificate msg) s = .next (s.spdmReply (fun b => { b with chain := b.chain ++ msg ++ resp }) resp) ∧
        resp.drop 8 = (certChain.drop (leAt msg 4 2)).take (leAt msg 6 2)) ∧
    (∀ msg, s.spdmTakes msg 0x83 0x12 36 3 = true → byteAt msg 2 = 0 → byteAt msg 3 = 0 →
      exec (.challenge msg) s =
        .next { s.spdmSign "responder-challenge_auth signing" (s.belfry.vca ++ s.belfry.chain ++ msg)
          ([0x12, 0x03, 0, 1] ++ Crypto.sha384 certChain ++ slice msg 4 32 ++ [] ++ [0, 0]) (fun b => { b with chain := [] }) with
          pending := s.pending }) ∧
    (∀ msg, s.spdmTakes msg 0xE0 0x12 4 3 = true → bitOf (byteAt msg 2) 0 = false → byteAt msg 3 = 0 →
      exec (.getMeasurements msg) s =
        .next { (match s.draw 0 32 with
          | none => s.spdmReply id (spdmError 0x42 0 Config.spdmNotReady)
          | some (n, t) =>
            let body : Bytes := [0x12, 0x60, 4, 0, BitVec.ofNat 8 0] ++ leBytes 3 0 ++ [] ++ n ++ [0, 0]
            t.spdmReply (fun b => { b with meas := b.meas ++ msg ++ body }) body) with pending := s.pending }) ∧
    (∀ e rest, s.belfry.pendingRepairs = e :: rest → s.belfry.running = true →
      let old := if (repairMap s.belfry.repair).isSome then recordEntries 8 s.belfry.repair else []
      old.length + 1 ≤ 131070 →
      exec .repairAppend s =
        .next { s with belfry := { s.belfry with pendingRepairs := rest, repair := repairRecord (old ++ [e]) } }) ∧
    (∀ st : Fin 3, s.belfry.running = true → s.dev.belfryPort ≠ st.val →
      exec (.belfryPortLink st) s =
        .next { ({ s with dev := { s.dev with belfryPort := st } } : State).linkStateEvent 3 0 st with pending := s.pending }) ∧
    (∀ f, s.belfry.running = true → s.dev.belfryPort = 2 → 64 ≤ f.length →
      leNat (f.drop (f.length - 4)) = crc32 (f.take (f.length - 4)) →
      f.take 6 = s.mgmtNet.mac ∨ f.take 6 = List.replicate 6 0xFF →
      exec (.managementPortFrame f) s = .next (match s.mgmtAnswer f with | some r => s.emit (.mgmt r) | none => s)) ∧
    (∀ k h, s.sessionOpen k = true → h.length = 16 → slice h 0 3 = [0x56, 0x42, 1] → beAt h 8 4 ≤ 65536 → beAt h 12 4 = 0 →
      byteAt h 3 = 0x7F →
      exec (.unlistedOrder k h) s = .next { s.belfryReply k (beAt h 4 4) 0x7F .illegalOpcode [] with pending := s.pending }) ∧
    (∀ k h, s.sessionOpen k = true → h.length ≠ 16 →
      exec (.unlistedOrder k h) s =
        .next { (({ s with belfry := { s.belfry with
          sessions := s.belfry.sessions.filter fun x => x.id != k
          queue := s.belfry.queue.filter fun w => w.1 != k } } : State).emit (.sessionClosed k)) with pending := s.pending })

/-! ### Debug and maintenance -/

/-- Debug, the Sweep, tests and scrubs (R149, R197, R207, R528, R535, R549, R550, R653, R654, R659): an operation in its scope
reads, halts, steps, resumes or writes a route of the selected Pan, and one outside it is POLICY_FORBIDS; a slice starts at
the next target, or at the next position, and ends; a self-test ends; a scrub and a return end; a wake completes.
Choices of the model: log entries 9, 40, 55 and 69. -/
def Obligations.MaintenanceRowsRun : Prop :=
  ∀ s : State,
    (s.reaches (.host 0) .bar2 = true → (s.pan s.dbgPan).st ≠ .retired →
      (∀ ups, bitOf s.dbg.scope 2 = true → bitOf (s.reg .dbgSel 0) 8 = true → s.reg .dbgAddr 0 ≤ 34 →
        exec (.dbgRead ups) s =
          .next { s with dbg := { s.dbg with data := seqState (s.pan s.dbgPan) (s.reg .dbgAddr 0), status := statusCode .ok } }) ∧
      (∀ ups, bitOf s.dbg.scope 2 = true → bitOf (s.reg .dbgSel 0) 8 = false → s.reg .dbgAddr 0 < panBytes (s.pan s.dbgPan) →
        s.reg .dbgAddr 0 % 8 = 0 →
        (s.held s.dbgPan (s.reg .dbgAddr 0) 8 = true →
          exec (.dbgRead ups) s =
            .next { s with sweep := { s.sweep with held := s.sweep.held ++ [.debugRead s.dbgPan (s.reg .dbgAddr 0) ups] } }) ∧
        (s.held s.dbgPan (s.reg .dbgAddr 0) 8 = false → failingIn (s.pan s.dbgPan) ups (s.reg .dbgAddr 0) 8 = [] →
          let t := (upsetsIn ups (s.reg .dbgAddr 0) 8).foldl (fun (t : State) u => t.meetUpset s.dbgPan 0 u) s
          exec (.dbgRead ups) s = .next { t with
            dbg := { t.dbg with data := leNat (Memory.readN (t.pan s.dbgPan).mem (s.reg .dbgAddr 0) 8), status := statusCode .ok }
            pending := s.pending }) ∧
        (∀ w ws, s.held s.dbgPan (s.reg .dbgAddr 0) 8 = false → failingIn (s.pan s.dbgPan) ups (s.reg .dbgAddr 0) 8 = w :: ws →
          exec (.dbgRead ups) s = .next { (s.panLost s.dbgPan (w :: ws) none 0).dbgEnd .uncorrectable with pending := s.pending })) ∧
      (bitOf s.dbg.scope 3 = true → (s.pan s.dbgPan).st = .running →
        exec .dbgHalt s =
          .next { s.updPan s.dbgPan (fun q => { q with debugHalt := true }) with dbg := { s.dbg with status := statusCode .ok } }) ∧
      (bitOf s.dbg.scope 3 = true → (s.pan s.dbgPan).debugHalt = true →
        exec .dbgStep s =
          .next { ((s.issueAny s.dbgPan ((fetched (s.pan s.dbgPan)).headD 0) true).dbgEnd .ok).after with pending := s.pending }) ∧
      (bitOf s.dbg.scope 3 = true →
        exec .dbgResume s =
          .next { s.updPan s.dbgPan (fun q => { q with debugHalt := false }) with dbg := { s.dbg with status := statusCode .ok } }) ∧
      (∀ n : Fin 64, bitOf s.dbg.scope 1 = true → routeBad (List.range 48) (s.reg .dbgRoute 0) = false → s.reg .dbgRoute 0 ≠ 0 →
        exec (.dbgRouteWrite n) s =
          .next { s.updPan s.dbgPan (fun q => { q with
            routes := insertN q.routes n (s.reg .dbgRoute 0), routePending := (q.routePending.filter (· != n.val)) ++ [n.val] }) with
            dbg := { s.dbg with status := statusCode .ok } })) ∧
    (s.reaches (.host 0) .bar2 = true → s.dbg.scope = 0 →
      ∀ (ups : List (Nat × Upset)) (i : Instr), i ∈ [Instr.dbgRead ups, .dbgHalt, .dbgResume, .dbgRouteWrite 0] →
        exec i s = .next { s with dbg := { s.dbg with status := statusCode .policyForbids } }) ∧
    (s.sweepRuns = true → s.sweep.slice = none →
      (∀ t, (s.sweep.targets.find? fun t => !s.beingWritten t.1) = some t →
        exec .sweepSliceStart s =
          .next { ({ s with sweep := { s.sweep with targets := s.sweep.targets.filter (· != t) } } : State).beginSlice t.1 t.2 true with
            pending := s.pending }) ∧
      (∀ k, (s.sweep.targets.find? fun t => !s.beingWritten t.1) = none → s.nextPos s.sweep.pos (18432 - s.sweep.pos) = some k →
        s.beingWritten (k % 48) = false → k + 1 < 18432 →
        exec .sweepSliceStart s =
          .next { ({ s with sweep := { s.sweep with pos := k + 1 } } : State).beginSlice (k % 48) (k / 48) false with
            pending := s.pending })) ∧
    (∀ l fails lost n scratch, s.sweep.slice = some l → s.power.vddc = .good →
      exec (.sweepSliceEnd fails lost n scratch) s =
        .next { ((s.endSlice l fails lost n scratch).returnSwept l.pan).runHeld.after with pending := s.pending }) ∧
    (∀ p : Fin 48, s.sweep.testing.contains p.val = true → s.sweep.failedOnce = [] → s.dev.switch = none →
      exec (.logicSelfTestDone p false) s =
        .next { ({ s with sweep := { s.sweep with failedOnce := [p.val] } } : State).after with pending := s.pending } ∧
      exec (.logicSelfTestDone p true) s =
        .next { ((({ s with sweep := { s.sweep with testing := s.sweep.testing.filter (· != p.val) } } : State).updPan p fun q =>
          { q with retriedTest := false }).settlePan p).after with pending := s.pending }) ∧
    (∀ m, s.stores.scrub = 1 → s.dev.muffledTamper = false → s.dev.st = .untenanted → s.dev.switch = none → s.dev.shutting = none →
      exec (.scrubComplete m) s = .next { (s.endScrub m).after with pending := s.pending } ∧ (s.endScrub m).stores.scrub = 0 ∧
      (s.endScrub m).stores.key = .none) ∧
    (∀ i : Fin 128, s.stores.returning.contains i.val = true → s.belfry.waiting = [] →
      exec (.pcReturnDone i true) s =
        .next { ((({ s with stores := { s.stores with returning := s.stores.returning.filter (· != i.val), scrub := if s.stores.scrub = 2 ∧ s.stores.returning.filter (· != i.val) = [] then 0 else s.stores.scrub } } :
          State).setPc i 0 0).persist (repairEntry 7 i 0 0 0)).after with pending := s.pending }) ∧
    (∀ w, s.dev.wake = some w → w.step = 3 → s.power.vddc = .good → s.sweep.testing = [] → s.dev.st = .muffled →
      exec .wakeComplete s =
        .next { (({ s with dev := { s.dev with wake := none, st := .tenantedIdle }, stores := { s.stores with selfRefresh := false } } :
          State).answer w.by_ .ok [BitVec.ofNat 8 (devCode .tenantedIdle)]).after with pending := s.pending })

end
end

