-- ==== Sys2Proof/Laws/Arbiter.lean ====
section
/-! SUPPORT. What a mutual-exclusion element can answer: a contender, one it has never granted before one it has, and of
those it has granted the one whose last grant is the oldest (R76). -/
namespace Sys2Proof.Machine

/-- The requester granted is one that contends. -/
theorem contender_contends {last cs : List Nat} {r : Nat} (h : contender last cs = some r) : r ∈ cs := by
  unfold contender at h
  split at h
  · cases h
    exact List.mem_of_find?_eq_some ‹_›
  · simpa using List.find?_some h

/-- Where anyone contends, someone is granted. -/
theorem contender_isSome {last cs : List Nat} (h : cs ≠ []) : (contender last cs).isSome = true := by
  unfold contender
  split
  · rfl
  · rename_i e
    obtain ⟨r, l, rfl⟩ := List.exists_cons_of_ne_nil h
    rw [List.find?_eq_none] at e
    rw [List.find?_isSome]
    exact ⟨r, by simpa using e r (by simp), by simp⟩

/-- A requester that has been granted before wins only where every contender has, and then no other contender's last grant is
older: none stands before it in the order of last grants. -/
theorem contender_oldest {last cs : List Nat} {r : Nat} (h : contender last cs = some r) (hr : r ∈ last) :
    (∀ x ∈ cs, x ∈ last) ∧ ∃ a b, last = a ++ r :: b ∧ ∀ x ∈ cs, x ∉ a := by
  unfold contender at h
  split at h
  · rename_i e
    cases h
    have := List.find?_some e
    simp [hr] at this
  · rename_i e
    rw [List.find?_eq_none] at e
    obtain ⟨-, a, b, hab, ha⟩ := List.find?_eq_some_iff_append.1 h
    exact ⟨fun x hx => by simpa using e x hx, a, b, hab, fun x hx hxa => by simpa [hx] using ha x hxa⟩

/-- After a grant the requester's grant is the newest, and the others stand in the order they stood in. -/
theorem granted_getLast (l : List Nat) (r : Nat) : (granted l r).getLast? = some r := by simp [granted]

theorem mem_granted {l : List Nat} {r x : Nat} : x ∈ granted l r ↔ x = r ∨ x ∈ l := by
  by_cases h : x = r <;> simp [granted, h]

@[simp] theorem grantFn_fns (s : State) (n : Nat) : (s.grantFn n).fns = s.fns := rfl
@[simp] theorem grantFn_pending (s : State) (n : Nat) : (s.grantFn n).pending = s.pending := rfl
@[simp] theorem grantPath_inlets (s : State) (p : Nat) : (s.grantPath p).inlets = s.inlets := rfl
@[simp] theorem grantPath_pending (s : State) (p : Nat) : (s.grantPath p).pending = s.pending := rfl
@[simp] theorem grantUnit_keyhold (s : State) (u r : Nat) : (s.grantUnit u r).keyhold = s.keyhold := rfl
@[simp] theorem grantUnit_pending (s : State) (u r : Nat) : (s.grantUnit u r).pending = s.pending := rfl
@[simp] theorem grantKey_keyhold (s : State) (h : Nat) : (s.grantKey h).keyhold = s.keyhold := rfl
@[simp] theorem grantKey_pending (s : State) (h : Nat) : (s.grantKey h).pending = s.pending := rfl
@[simp] theorem grantStream_keyhold (s : State) (n : Nat) : (s.grantStream n).keyhold = s.keyhold := rfl
@[simp] theorem grantStream_pending (s : State) (n : Nat) : (s.grantStream n).pending = s.pending := rfl

end Sys2Proof.Machine
end

