-- ==== Sys2Proof/Laws/Crypto.lean ====
section
/-! SUPPORT. What is sealed opens again: AES-256-GCM, and with it a sealed record of a job. -/
namespace Sys2Proof.Machine

open Sys2Proof

@[simp] theorem slice_length (bs : Bytes) (o n : Nat) : (slice bs o n).length = n := by
  simp only [slice, List.length_append, List.length_replicate, List.length_take, List.length_drop]; omega

theorem chunksOf_length (n k : Nat) (bs : Bytes) : (chunksOf n k bs).length = k ∧ ∀ b ∈ chunksOf n k bs, b.length = n := by
  induction k generalizing bs with
  | zero => simp [chunksOf]
  | succ k ih => simp only [chunksOf, List.length_cons, List.mem_cons, forall_eq_or_imp, slice_length, true_and]
                 exact ⟨by rw [(ih _).1], (ih _).2⟩

theorem getD_length {l : List (List Nat)} {n i : Nat} (h : ∀ w ∈ l, w.length = n) (hi : i < l.length) :
    (l.getD i []).length = n := by
  rw [List.getD_eq_getElem _ _ hi]; exact h _ (List.getElem_mem hi)

theorem aesExpand_length (n i : Nat) (ws : List (List Nat)) (h : ∀ w ∈ ws, w.length = 4) (hl : 8 ≤ ws.length) :
    (Crypto.aesExpand n i ws).length = ws.length + n ∧ ∀ w ∈ Crypto.aesExpand n i ws, w.length = 4 := by
  induction n generalizing i ws with
  | zero => exact ⟨rfl, h⟩
  | succ n ih =>
    have h0 := getD_length h (i := 0) (by omega)
    have h7 := getD_length h (i := 7) (by omega)
    rw [Crypto.aesExpand]
    have hw : ∀ (x : List Nat), x.length = 4 → ∀ w ∈ x :: ws, w.length = 4 := fun x hx => List.forall_mem_cons.2 ⟨hx, h⟩
    have := fun x hx => ih (i + 1) (x :: ws) (hw x hx) (by rw [List.length_cons]; omega)
    simp only [List.length_cons] at this
    refine ⟨?_, ?_⟩
    · rw [(this _ ?_).1]; omega
      rw [List.length_map, List.length_zip, h7]
      split
      · simp only [List.length_map, List.length_zip, List.length_append, List.length_drop, List.length_take, h0,
          List.length_cons, List.length_nil]; rfl
      · split <;> simp only [List.length_map, h0] <;> rfl
    · refine (this _ ?_).2
      rw [List.length_map, List.length_zip, h7]
      split
      · simp only [List.length_map, List.length_zip, List.length_append, List.length_drop, List.length_take, h0,
          List.length_cons, List.length_nil]; rfl
      · split <;> simp only [List.length_map, h0] <;> rfl

theorem flatten_length {l : List (List Nat)} {n : Nat} (h : ∀ w ∈ l, w.length = n) : l.flatten.length = l.length * n := by
  induction l with
  | nil => simp
  | cons a l ih =>
    rw [List.forall_mem_cons] at h
    rw [List.flatten_cons, List.length_append, ih h.2, h.1, List.length_cons, Nat.succ_mul, Nat.add_comm]

theorem aesKeys_length (key : Bytes) (r : Nat) (hr : r < 15) : ((Crypto.aesKeys key).getD r []).length = 16 := by
  have hc := chunksOf_length 4 8 key
  have he := aesExpand_length 52 8 ((chunksOf 4 8 key).map (·.map BitVec.toNat)).reverse
    (by intro w hw; rw [List.mem_reverse, List.mem_map] at hw
        obtain ⟨b, hb, rfl⟩ := hw
        rw [List.length_map]; exact hc.2 b hb)
    (by rw [List.length_reverse, List.length_map, hc.1])
  rw [List.length_reverse, List.length_map, hc.1] at he
  unfold Crypto.aesKeys
  dsimp only
  rw [List.getD_eq_getElem _ _ (by simpa using hr), List.getElem_map, List.getElem_range]
  rw [flatten_length (n := 4) (by
    intro w hw
    exact he.2 w (List.mem_reverse.1 (List.mem_of_mem_drop (List.mem_of_mem_take hw))))]
  rw [List.length_take, List.length_drop, List.length_reverse, he.1]; omega

theorem aesBlock_length (key b : Bytes) : (Crypto.aesBlockK (Crypto.aesKeys key) b).length = 16 := by
  unfold Crypto.aesBlockK Crypto.xorNat
  dsimp only
  rw [List.length_map, List.length_zipWith, aesKeys_length key 14 (by omega)]
  simp only [Crypto.shiftRows, List.length_map, List.length_range]; rfl

theorem gctr_length (key nonce : Bytes) (n c : Nat) : (Crypto.gctr (Crypto.aesKeys key) nonce n c).length = 16 * n := by
  induction n generalizing c with
  | zero => rfl
  | succ n ih => rw [Crypto.gctr, List.length_append, aesBlock_length, ih]; omega

theorem leBytes_length (n v : Nat) : (leBytes n v).length = n := by
  induction n generalizing v with
  | zero => rfl
  | succ n ih => simp only [leBytes, List.length_cons, ih]

theorem gcmTag_length (key nonce aad ct : Bytes) : (Crypto.gcmTag (Crypto.aesKeys key) nonce aad ct).length = 16 := by
  unfold Crypto.gcmTag xorBytes
  dsimp only
  rw [List.length_zipWith, aesBlock_length]
  simp [beBytes, leBytes_length]

theorem xor_xor (a k : Bytes) (h : a.length ≤ k.length) : xorBytes (xorBytes a k) k = a := by
  unfold xorBytes
  induction a generalizing k with
  | nil => simp
  | cons x a ih =>
    cases k with
    | nil => simp at h
    | cons y k => simp only [List.zipWith_cons_cons, ih k (by simpa using h), BitVec.xor_assoc, BitVec.xor_self, BitVec.xor_zero]

/-- What `gcmSeal` has sealed, `gcmOpen` gives back. -/
theorem gcmOpen_gcmSeal (key nonce aad pt : Bytes) :
    Crypto.gcmOpen key nonce aad (Crypto.gcmSeal key nonce aad pt) = some pt := by
  have hk : pt.length ≤ (Crypto.gctr (Crypto.aesKeys key) nonce ((pt.length + 15) / 16) 2).length := by
    rw [gctr_length]; omega
  have hx : (xorBytes pt (Crypto.gctr (Crypto.aesKeys key) nonce ((pt.length + 15) / 16) 2)).length = pt.length := by
    unfold xorBytes; rw [List.length_zipWith]; omega
  have open_ct : ∀ ct : Bytes, ct.length = pt.length →
      Crypto.gcmOpen key nonce aad (ct ++ Crypto.gcmTag (Crypto.aesKeys key) nonce aad ct) =
        some (xorBytes ct (Crypto.gctr (Crypto.aesKeys key) nonce ((pt.length + 15) / 16) 2)) := by
    intro ct h
    unfold Crypto.gcmOpen
    dsimp only
    rw [List.length_append, gcmTag_length, if_neg (by omega), Nat.add_sub_cancel, List.drop_left, List.take_left,
      if_pos rfl, h]
  unfold Crypto.gcmSeal
  dsimp only
  rw [open_ct _ hx, xor_xor _ _ hk]

theorem leNat_leBytes (n v : Nat) : leNat (leBytes n v) = v % 256 ^ n := by
  induction n generalizing v with
  | zero => simp [leBytes, leNat, Nat.mod_one]
  | succ n ih =>
    simp only [leBytes, leNat, ih, BitVec.toNat_ofNat]
    rw [show 256 ^ (n + 1) = 256 * 256 ^ n by rw [Nat.pow_succ, Nat.mul_comm], Nat.mod_mul]

/-- What a record's header reads as. -/
theorem recHead_recHeader (typ src dst ctx epoch seq tag len : Nat) (x : Bytes) :
    recHead (recHeader typ src dst ctx epoch seq tag len ++ x) =
      { typ := typ % 256, src := src % 256, dst := dst % 256, ctx := ctx % 256, epoch := epoch % 256 ^ 4,
        seq := seq % 256 ^ 8, tag := tag % 256 ^ 4 } := by
  simp only [← leNat_leBytes]; rfl

/-- A record of the live job from another position, sealed under its epoch's key, opens to its body. -/
theorem openRecord_sealed (s : State) (j : Job) (typ src seq tag : Nat) (b : Bytes) (hj : s.car.job = some j)
    (hk : j.key ≠ []) (hc : j.ctx < 256) (hp : s.power.pos < 256) (hs : src < 256) (he : j.epoch < 256 ^ 4) (hq : seq < 256 ^ 8) :
    s.openRecord (recHeader typ src s.power.pos j.ctx j.epoch seq tag b.length ++
      Crypto.gcmSeal (epochKey j j.epoch) (recNonce src s.power.pos seq)
        (recHeader typ src s.power.pos j.ctx j.epoch seq tag b.length) b) = some b := by
  have hl : (recHeader typ src s.power.pos j.ctx j.epoch seq tag b.length).length = 24 := rfl
  unfold State.openRecord
  rw [recHead_recHeader, hj]
  dsimp only
  rw [Nat.mod_eq_of_lt hc, Nat.mod_eq_of_lt hp, Nat.mod_eq_of_lt hs, Nat.mod_eq_of_lt he, Nat.mod_eq_of_lt hq, if_neg,
    List.take_left' hl, List.drop_left' hl, gcmOpen_gcmSeal]
  simp [hk, hl, Crypto.gcmSeal, gcmTag_length]
  omega

end Sys2Proof.Machine
end

