-- ==== Sys2Proof/Laws/Ledger.lean ====
section
/-! SUPPORT. What a read of Tally can do (R393), and what a write of a ledger byte leaves alone (R389, R394). -/
namespace Sys2Proof.Machine

/-- A read that finds a legal byte and no uncorrectable word goes on; a word corrected at it is counted. -/
theorem tallyRead_good {s : State} {c slot : Nat} {tally : Option (Nat × Upset)} (f : State → State)
    (h : tallyOk (s.ctx c) slot tally = true) :
    s.tallyRead c slot tally f = f (if tally.any fun e => e.1 / 8 == slot / 8 then s.classCount 0 else s) := by
  simp [State.tallyRead, h]

/-- Every other read is a FATAL fault. -/
theorem tallyRead_bad {s : State} {c slot : Nat} {tally : Option (Nat × Upset)} (f : State → State)
    (h : tallyOk (s.ctx c) slot tally = false) : s.tallyRead c slot tally f = s.fatalVoid c 5 0 slot := by
  simp [State.tallyRead, h]

/-- A read that meets no upset finds its byte good where the byte is legal. -/
theorem tallyOk_none (c : Ctx) (slot : Nat) : tallyOk c slot none = ledLegal c.quad (ledgerByte c slot) := by simp [tallyOk]

/-- A write of a ledger byte changes no field of the context but the bytes and the counters that follow them. -/
theorem setLedger_spec (c : Ctx) (i b : Nat) : ∃ l g k, setLedger c i b = { c with ledger := l, gathered := g, counts := k } := by
  unfold setLedger putByte
  dsimp only
  split
  · exact ⟨_, c.gathered, _, rfl⟩
  · exact ⟨c.ledger, _, _, rfl⟩

@[simp] theorem setLedger_st (c : Ctx) (i b : Nat) : (setLedger c i b).st = c.st := by
  obtain ⟨l, g, k, h⟩ := setLedger_spec c i b; rw [h]
@[simp] theorem setLedger_block (c : Ctx) (i b : Nat) : (setLedger c i b).block = c.block := by
  obtain ⟨l, g, k, h⟩ := setLedger_spec c i b; rw [h]
@[simp] theorem setLedger_roster (c : Ctx) (i b : Nat) : (setLedger c i b).roster = c.roster := by
  obtain ⟨l, g, k, h⟩ := setLedger_spec c i b; rw [h]
@[simp] theorem setLedger_slots (c : Ctx) (i b : Nat) : (setLedger c i b).slots = c.slots := by
  obtain ⟨l, g, k, h⟩ := setLedger_spec c i b; rw [h]

end Sys2Proof.Machine
end

