-- ==== Sys2Proof/Laws/Memory.lean ====
section
/-! SUPPORT. Every operation over a byte memory keeps its canonical form. -/
namespace Sys2Proof.Machine

open Sys2Proof (Byte Bytes)

theorem wfFrom_iff (lo : Nat) (m : List (Nat × Byte)) :
    Memory.wfFrom lo m = true ↔
      m.Pairwise (fun a b => a.1 < b.1) ∧ ∀ c ∈ m, lo ≤ c.1 ∧ c.2 ≠ memDefault := by
  induction m generalizing lo with
  | nil => simp [Memory.wfFrom]
  | cons x r ih =>
    obtain ⟨a, b⟩ := x
    simp only [Memory.wfFrom, Bool.and_eq_true, decide_eq_true_eq, ih, List.pairwise_cons, List.forall_mem_cons]
    constructor
    · rintro ⟨⟨h1, h2⟩, h3, h4⟩
      exact ⟨⟨fun c hc => (h4 c hc).1, h3⟩, ⟨h1, h2⟩, fun c hc => ⟨by have := (h4 c hc).1; omega, (h4 c hc).2⟩⟩
    · rintro ⟨⟨h1, h2⟩, ⟨h3, h4⟩, h5⟩
      exact ⟨⟨h3, h4⟩, h2, fun c hc => ⟨h1 c hc, (h5 c hc).2⟩⟩

/-- The canonical form: strictly rising addresses, and no entry that reads as an unlisted address does. -/
theorem wf_iff (m : List (Nat × Byte)) :
    Memory.wf m = true ↔ m.Pairwise (fun a b => a.1 < b.1) ∧ ∀ c ∈ m, c.2 ≠ memDefault := by
  unfold Memory.wf
  rw [wfFrom_iff]
  simp

theorem wf_nil : Memory.wf [] = true := rfl

/-- Dropping cells keeps the form. -/
theorem wf_filter {m : List (Nat × Byte)} (f : Nat × Byte → Bool) (h : Memory.wf m = true) : Memory.wf (m.filter f) = true := by
  rw [wf_iff] at h ⊢
  exact ⟨h.1.filter f, fun c hc => h.2 c (List.mem_filter.1 hc).1⟩

/-- Writing a byte keeps the form. -/
theorem wf_write {m : List (Nat × Byte)} (k : Nat) (v : Byte) (h : Memory.wf m = true) :
    Memory.wf (Memory.write m k v) = true := by
  rw [wf_iff] at h ⊢
  unfold Memory.write
  obtain ⟨hs, hd⟩ := h
  have lo : ∀ c ∈ m.filter (fun c => decide (c.1 < k)), c ∈ m ∧ c.1 < k := fun c hc => by simpa using hc
  have hi : ∀ c ∈ m.filter (fun c => decide (k < c.1)), c ∈ m ∧ k < c.1 := fun c hc => by simpa using hc
  have mid : ∀ c ∈ (if v = memDefault then [] else [(k, v)]), c.1 = k ∧ c.2 ≠ memDefault := by
    intro c hc
    split at hc
    · cases hc
    · rename_i hv
      simp only [List.mem_singleton] at hc
      subst hc
      exact ⟨rfl, hv⟩
  refine ⟨?_, ?_⟩
  · rw [List.pairwise_append, List.pairwise_append]
    refine ⟨⟨hs.filter _, ?_, fun a ha b hb => ?_⟩, hs.filter _, fun a ha b hb => ?_⟩
    · split <;> simp
    · have := (lo a ha).2; have := (mid b hb).1; omega
    · have := (hi b hb).2
      rcases List.mem_append.1 ha with ha | ha
      · have := (lo a ha).2; omega
      · have := (mid a ha).1; omega
  · intro c hc
    rcases List.mem_append.1 hc with hc | hc
    · rcases List.mem_append.1 hc with hc | hc
      · exact hd c (lo c hc).1
      · exact (mid c hc).2
    · exact hd c (hi c hc).1

/-- Writing a byte string keeps the form. -/
theorem wf_writeN {m : List (Nat × Byte)} (k : Nat) (bs : Bytes) (h : Memory.wf m = true) :
    Memory.wf (Memory.writeN m k bs) = true := by
  induction bs generalizing m k with
  | nil => exact h
  | cons b bs ih => exact ih (k + 1) (wf_write k b h)

/-- Clearing a range keeps the form. -/
theorem wf_clear {m : List (Nat × Byte)} (lo hi : Nat) (h : Memory.wf m = true) : Memory.wf (Memory.clear m lo hi) = true :=
  wf_filter _ h

end Sys2Proof.Machine
end

