-- ==== Sys2Proof/Laws/State.lean ====
section
/-! SUPPORT. What the shared updates of the state leave alone: one lemma per field per update. -/
namespace Sys2Proof.Machine

open Sys2Proof

@[simp] theorem updPan_regs (s : State) (p : Nat) (f : Pan → Pan) : (s.updPan p f).regs = s.regs := rfl
@[simp] theorem updPan_latched (s : State) (p : Nat) (f : Pan → Pan) : (s.updPan p f).latched = s.latched := rfl
@[simp] theorem updPan_perf (s : State) (p : Nat) (f : Pan → Pan) : (s.updPan p f).perf = s.perf := rfl
@[simp] theorem updPan_perfSnap (s : State) (p : Nat) (f : Pan → Pan) : (s.updPan p f).perfSnap = s.perfSnap := rfl
@[simp] theorem updPan_power (s : State) (p : Nat) (f : Pan → Pan) : (s.updPan p f).power = s.power := rfl
@[simp] theorem updPan_dev (s : State) (p : Nat) (f : Pan → Pan) : (s.updPan p f).dev = s.dev := rfl
@[simp] theorem updPan_cad (s : State) (p : Nat) (f : Pan → Pan) : (s.updPan p f).cad = s.cad := rfl
@[simp] theorem updPan_toc (s : State) (p : Nat) (f : Pan → Pan) : (s.updPan p f).toc = s.toc := rfl
@[simp] theorem updPan_img (s : State) (p : Nat) (f : Pan → Pan) : (s.updPan p f).img = s.img := rfl
@[simp] theorem updPan_fabric (s : State) (p : Nat) (f : Pan → Pan) : (s.updPan p f).fabric = s.fabric := rfl
@[simp] theorem updPan_ctxs (s : State) (p : Nat) (f : Pan → Pan) : (s.updPan p f).ctxs = s.ctxs := rfl
@[simp] theorem updPan_lastHid (s : State) (p : Nat) (f : Pan → Pan) : (s.updPan p f).lastHid = s.lastHid := rfl
@[simp] theorem updPan_inlets (s : State) (p : Nat) (f : Pan → Pan) : (s.updPan p f).inlets = s.inlets := rfl
@[simp] theorem updPan_queues (s : State) (p : Nat) (f : Pan → Pan) : (s.updPan p f).queues = s.queues := rfl
@[simp] theorem updPan_ringer (s : State) (p : Nat) (f : Pan → Pan) : (s.updPan p f).ringer = s.ringer := rfl
@[simp] theorem updPan_keyhold (s : State) (p : Nat) (f : Pan → Pan) : (s.updPan p f).keyhold = s.keyhold := rfl
@[simp] theorem updPan_arb (s : State) (p : Nat) (f : Pan → Pan) : (s.updPan p f).arb = s.arb := rfl
@[simp] theorem updPan_stores (s : State) (p : Nat) (f : Pan → Pan) : (s.updPan p f).stores = s.stores := rfl
@[simp] theorem updPan_blobs (s : State) (p : Nat) (f : Pan → Pan) : (s.updPan p f).blobs = s.blobs := rfl
@[simp] theorem updPan_car (s : State) (p : Nat) (f : Pan → Pan) : (s.updPan p f).car = s.car := rfl
@[simp] theorem updPan_fns (s : State) (p : Nat) (f : Pan → Pan) : (s.updPan p f).fns = s.fns := rfl
@[simp] theorem updPan_belfry (s : State) (p : Nat) (f : Pan → Pan) : (s.updPan p f).belfry = s.belfry := rfl
@[simp] theorem updPan_sweep (s : State) (p : Nat) (f : Pan → Pan) : (s.updPan p f).sweep = s.sweep := rfl
@[simp] theorem updPan_dbg (s : State) (p : Nat) (f : Pan → Pan) : (s.updPan p f).dbg = s.dbg := rfl
@[simp] theorem updPan_pending (s : State) (p : Nat) (f : Pan → Pan) : (s.updPan p f).pending = s.pending := rfl
@[simp] theorem updPan_out (s : State) (p : Nat) (f : Pan → Pan) : (s.updPan p f).out = s.out := rfl
@[simp] theorem updPan_free (s : State) (p : Nat) (f : Pan → Pan) : (s.updPan p f).free = s.free := rfl

@[simp] theorem updCtx_regs (s : State) (c : Nat) (f : Ctx → Ctx) : (s.updCtx c f).regs = s.regs := rfl
@[simp] theorem updCtx_latched (s : State) (c : Nat) (f : Ctx → Ctx) : (s.updCtx c f).latched = s.latched := rfl
@[simp] theorem updCtx_perf (s : State) (c : Nat) (f : Ctx → Ctx) : (s.updCtx c f).perf = s.perf := rfl
@[simp] theorem updCtx_perfSnap (s : State) (c : Nat) (f : Ctx → Ctx) : (s.updCtx c f).perfSnap = s.perfSnap := rfl
@[simp] theorem updCtx_power (s : State) (c : Nat) (f : Ctx → Ctx) : (s.updCtx c f).power = s.power := rfl
@[simp] theorem updCtx_dev (s : State) (c : Nat) (f : Ctx → Ctx) : (s.updCtx c f).dev = s.dev := rfl
@[simp] theorem updCtx_cad (s : State) (c : Nat) (f : Ctx → Ctx) : (s.updCtx c f).cad = s.cad := rfl
@[simp] theorem updCtx_toc (s : State) (c : Nat) (f : Ctx → Ctx) : (s.updCtx c f).toc = s.toc := rfl
@[simp] theorem updCtx_img (s : State) (c : Nat) (f : Ctx → Ctx) : (s.updCtx c f).img = s.img := rfl
@[simp] theorem updCtx_pans (s : State) (c : Nat) (f : Ctx → Ctx) : (s.updCtx c f).pans = s.pans := rfl
@[simp] theorem updCtx_fabric (s : State) (c : Nat) (f : Ctx → Ctx) : (s.updCtx c f).fabric = s.fabric := rfl
@[simp] theorem updCtx_lastHid (s : State) (c : Nat) (f : Ctx → Ctx) : (s.updCtx c f).lastHid = s.lastHid := rfl
@[simp] theorem updCtx_inlets (s : State) (c : Nat) (f : Ctx → Ctx) : (s.updCtx c f).inlets = s.inlets := rfl
@[simp] theorem updCtx_queues (s : State) (c : Nat) (f : Ctx → Ctx) : (s.updCtx c f).queues = s.queues := rfl
@[simp] theorem updCtx_ringer (s : State) (c : Nat) (f : Ctx → Ctx) : (s.updCtx c f).ringer = s.ringer := rfl
@[simp] theorem updCtx_keyhold (s : State) (c : Nat) (f : Ctx → Ctx) : (s.updCtx c f).keyhold = s.keyhold := rfl
@[simp] theorem updCtx_arb (s : State) (c : Nat) (f : Ctx → Ctx) : (s.updCtx c f).arb = s.arb := rfl
@[simp] theorem updCtx_stores (s : State) (c : Nat) (f : Ctx → Ctx) : (s.updCtx c f).stores = s.stores := rfl
@[simp] theorem updCtx_blobs (s : State) (c : Nat) (f : Ctx → Ctx) : (s.updCtx c f).blobs = s.blobs := rfl
@[simp] theorem updCtx_car (s : State) (c : Nat) (f : Ctx → Ctx) : (s.updCtx c f).car = s.car := rfl
@[simp] theorem updCtx_fns (s : State) (c : Nat) (f : Ctx → Ctx) : (s.updCtx c f).fns = s.fns := rfl
@[simp] theorem updCtx_belfry (s : State) (c : Nat) (f : Ctx → Ctx) : (s.updCtx c f).belfry = s.belfry := rfl
@[simp] theorem updCtx_sweep (s : State) (c : Nat) (f : Ctx → Ctx) : (s.updCtx c f).sweep = s.sweep := rfl
@[simp] theorem updCtx_dbg (s : State) (c : Nat) (f : Ctx → Ctx) : (s.updCtx c f).dbg = s.dbg := rfl
@[simp] theorem updCtx_pending (s : State) (c : Nat) (f : Ctx → Ctx) : (s.updCtx c f).pending = s.pending := rfl
@[simp] theorem updCtx_out (s : State) (c : Nat) (f : Ctx → Ctx) : (s.updCtx c f).out = s.out := rfl
@[simp] theorem updCtx_free (s : State) (c : Nat) (f : Ctx → Ctx) : (s.updCtx c f).free = s.free := rfl

@[simp] theorem updFn_regs (s : State) (n : Nat) (f : Fn → Fn) : (s.updFn n f).regs = s.regs := rfl
@[simp] theorem updFn_latched (s : State) (n : Nat) (f : Fn → Fn) : (s.updFn n f).latched = s.latched := rfl
@[simp] theorem updFn_perf (s : State) (n : Nat) (f : Fn → Fn) : (s.updFn n f).perf = s.perf := rfl
@[simp] theorem updFn_perfSnap (s : State) (n : Nat) (f : Fn → Fn) : (s.updFn n f).perfSnap = s.perfSnap := rfl
@[simp] theorem updFn_power (s : State) (n : Nat) (f : Fn → Fn) : (s.updFn n f).power = s.power := rfl
@[simp] theorem updFn_dev (s : State) (n : Nat) (f : Fn → Fn) : (s.updFn n f).dev = s.dev := rfl
@[simp] theorem updFn_cad (s : State) (n : Nat) (f : Fn → Fn) : (s.updFn n f).cad = s.cad := rfl
@[simp] theorem updFn_toc (s : State) (n : Nat) (f : Fn → Fn) : (s.updFn n f).toc = s.toc := rfl
@[simp] theorem updFn_img (s : State) (n : Nat) (f : Fn → Fn) : (s.updFn n f).img = s.img := rfl
@[simp] theorem updFn_pans (s : State) (n : Nat) (f : Fn → Fn) : (s.updFn n f).pans = s.pans := rfl
@[simp] theorem updFn_fabric (s : State) (n : Nat) (f : Fn → Fn) : (s.updFn n f).fabric = s.fabric := rfl
@[simp] theorem updFn_ctxs (s : State) (n : Nat) (f : Fn → Fn) : (s.updFn n f).ctxs = s.ctxs := rfl
@[simp] theorem updFn_lastHid (s : State) (n : Nat) (f : Fn → Fn) : (s.updFn n f).lastHid = s.lastHid := rfl
@[simp] theorem updFn_inlets (s : State) (n : Nat) (f : Fn → Fn) : (s.updFn n f).inlets = s.inlets := rfl
@[simp] theorem updFn_queues (s : State) (n : Nat) (f : Fn → Fn) : (s.updFn n f).queues = s.queues := rfl
@[simp] theorem updFn_ringer (s : State) (n : Nat) (f : Fn → Fn) : (s.updFn n f).ringer = s.ringer := rfl
@[simp] theorem updFn_keyhold (s : State) (n : Nat) (f : Fn → Fn) : (s.updFn n f).keyhold = s.keyhold := rfl
@[simp] theorem updFn_arb (s : State) (n : Nat) (f : Fn → Fn) : (s.updFn n f).arb = s.arb := rfl
@[simp] theorem updFn_stores (s : State) (n : Nat) (f : Fn → Fn) : (s.updFn n f).stores = s.stores := rfl
@[simp] theorem updFn_blobs (s : State) (n : Nat) (f : Fn → Fn) : (s.updFn n f).blobs = s.blobs := rfl
@[simp] theorem updFn_car (s : State) (n : Nat) (f : Fn → Fn) : (s.updFn n f).car = s.car := rfl
@[simp] theorem updFn_belfry (s : State) (n : Nat) (f : Fn → Fn) : (s.updFn n f).belfry = s.belfry := rfl
@[simp] theorem updFn_sweep (s : State) (n : Nat) (f : Fn → Fn) : (s.updFn n f).sweep = s.sweep := rfl
@[simp] theorem updFn_dbg (s : State) (n : Nat) (f : Fn → Fn) : (s.updFn n f).dbg = s.dbg := rfl
@[simp] theorem updFn_pending (s : State) (n : Nat) (f : Fn → Fn) : (s.updFn n f).pending = s.pending := rfl
@[simp] theorem updFn_out (s : State) (n : Nat) (f : Fn → Fn) : (s.updFn n f).out = s.out := rfl
@[simp] theorem updFn_free (s : State) (n : Nat) (f : Fn → Fn) : (s.updFn n f).free = s.free := rfl

@[simp] theorem updQueue_regs (s : State) (q : Nat) (f : BQueue → BQueue) : (s.updQueue q f).regs = s.regs := rfl
@[simp] theorem updQueue_latched (s : State) (q : Nat) (f : BQueue → BQueue) : (s.updQueue q f).latched = s.latched := rfl
@[simp] theorem updQueue_perf (s : State) (q : Nat) (f : BQueue → BQueue) : (s.updQueue q f).perf = s.perf := rfl
@[simp] theorem updQueue_perfSnap (s : State) (q : Nat) (f : BQueue → BQueue) : (s.updQueue q f).perfSnap = s.perfSnap := rfl
@[simp] theorem updQueue_power (s : State) (q : Nat) (f : BQueue → BQueue) : (s.updQueue q f).power = s.power := rfl
@[simp] theorem updQueue_dev (s : State) (q : Nat) (f : BQueue → BQueue) : (s.updQueue q f).dev = s.dev := rfl
@[simp] theorem updQueue_cad (s : State) (q : Nat) (f : BQueue → BQueue) : (s.updQueue q f).cad = s.cad := rfl
@[simp] theorem updQueue_toc (s : State) (q : Nat) (f : BQueue → BQueue) : (s.updQueue q f).toc = s.toc := rfl
@[simp] theorem updQueue_img (s : State) (q : Nat) (f : BQueue → BQueue) : (s.updQueue q f).img = s.img := rfl
@[simp] theorem updQueue_pans (s : State) (q : Nat) (f : BQueue → BQueue) : (s.updQueue q f).pans = s.pans := rfl
@[simp] theorem updQueue_fabric (s : State) (q : Nat) (f : BQueue → BQueue) : (s.updQueue q f).fabric = s.fabric := rfl
@[simp] theorem updQueue_ctxs (s : State) (q : Nat) (f : BQueue → BQueue) : (s.updQueue q f).ctxs = s.ctxs := rfl
@[simp] theorem updQueue_lastHid (s : State) (q : Nat) (f : BQueue → BQueue) : (s.updQueue q f).lastHid = s.lastHid := rfl
@[simp] theorem updQueue_inlets (s : State) (q : Nat) (f : BQueue → BQueue) : (s.updQueue q f).inlets = s.inlets := rfl
@[simp] theorem updQueue_ringer (s : State) (q : Nat) (f : BQueue → BQueue) : (s.updQueue q f).ringer = s.ringer := rfl
@[simp] theorem updQueue_keyhold (s : State) (q : Nat) (f : BQueue → BQueue) : (s.updQueue q f).keyhold = s.keyhold := rfl
@[simp] theorem updQueue_arb (s : State) (q : Nat) (f : BQueue → BQueue) : (s.updQueue q f).arb = s.arb := rfl
@[simp] theorem updQueue_stores (s : State) (q : Nat) (f : BQueue → BQueue) : (s.updQueue q f).stores = s.stores := rfl
@[simp] theorem updQueue_blobs (s : State) (q : Nat) (f : BQueue → BQueue) : (s.updQueue q f).blobs = s.blobs := rfl
@[simp] theorem updQueue_car (s : State) (q : Nat) (f : BQueue → BQueue) : (s.updQueue q f).car = s.car := rfl
@[simp] theorem updQueue_fns (s : State) (q : Nat) (f : BQueue → BQueue) : (s.updQueue q f).fns = s.fns := rfl
@[simp] theorem updQueue_belfry (s : State) (q : Nat) (f : BQueue → BQueue) : (s.updQueue q f).belfry = s.belfry := rfl
@[simp] theorem updQueue_sweep (s : State) (q : Nat) (f : BQueue → BQueue) : (s.updQueue q f).sweep = s.sweep := rfl
@[simp] theorem updQueue_dbg (s : State) (q : Nat) (f : BQueue → BQueue) : (s.updQueue q f).dbg = s.dbg := rfl
@[simp] theorem updQueue_pending (s : State) (q : Nat) (f : BQueue → BQueue) : (s.updQueue q f).pending = s.pending := rfl
@[simp] theorem updQueue_out (s : State) (q : Nat) (f : BQueue → BQueue) : (s.updQueue q f).out = s.out := rfl
@[simp] theorem updQueue_free (s : State) (q : Nat) (f : BQueue → BQueue) : (s.updQueue q f).free = s.free := rfl

@[simp] theorem updPort_regs (s : State) (q : Nat) (f : Port → Port) : (s.updPort q f).regs = s.regs := rfl
@[simp] theorem updPort_latched (s : State) (q : Nat) (f : Port → Port) : (s.updPort q f).latched = s.latched := rfl
@[simp] theorem updPort_perf (s : State) (q : Nat) (f : Port → Port) : (s.updPort q f).perf = s.perf := rfl
@[simp] theorem updPort_perfSnap (s : State) (q : Nat) (f : Port → Port) : (s.updPort q f).perfSnap = s.perfSnap := rfl
@[simp] theorem updPort_power (s : State) (q : Nat) (f : Port → Port) : (s.updPort q f).power = s.power := rfl
@[simp] theorem updPort_dev (s : State) (q : Nat) (f : Port → Port) : (s.updPort q f).dev = s.dev := rfl
@[simp] theorem updPort_cad (s : State) (q : Nat) (f : Port → Port) : (s.updPort q f).cad = s.cad := rfl
@[simp] theorem updPort_toc (s : State) (q : Nat) (f : Port → Port) : (s.updPort q f).toc = s.toc := rfl
@[simp] theorem updPort_img (s : State) (q : Nat) (f : Port → Port) : (s.updPort q f).img = s.img := rfl
@[simp] theorem updPort_pans (s : State) (q : Nat) (f : Port → Port) : (s.updPort q f).pans = s.pans := rfl
@[simp] theorem updPort_fabric (s : State) (q : Nat) (f : Port → Port) : (s.updPort q f).fabric = s.fabric := rfl
@[simp] theorem updPort_ctxs (s : State) (q : Nat) (f : Port → Port) : (s.updPort q f).ctxs = s.ctxs := rfl
@[simp] theorem updPort_lastHid (s : State) (q : Nat) (f : Port → Port) : (s.updPort q f).lastHid = s.lastHid := rfl
@[simp] theorem updPort_queues (s : State) (q : Nat) (f : Port → Port) : (s.updPort q f).queues = s.queues := rfl
@[simp] theorem updPort_ringer (s : State) (q : Nat) (f : Port → Port) : (s.updPort q f).ringer = s.ringer := rfl
@[simp] theorem updPort_keyhold (s : State) (q : Nat) (f : Port → Port) : (s.updPort q f).keyhold = s.keyhold := rfl
@[simp] theorem updPort_arb (s : State) (q : Nat) (f : Port → Port) : (s.updPort q f).arb = s.arb := rfl
@[simp] theorem updPort_stores (s : State) (q : Nat) (f : Port → Port) : (s.updPort q f).stores = s.stores := rfl
@[simp] theorem updPort_blobs (s : State) (q : Nat) (f : Port → Port) : (s.updPort q f).blobs = s.blobs := rfl
@[simp] theorem updPort_car (s : State) (q : Nat) (f : Port → Port) : (s.updPort q f).car = s.car := rfl
@[simp] theorem updPort_fns (s : State) (q : Nat) (f : Port → Port) : (s.updPort q f).fns = s.fns := rfl
@[simp] theorem updPort_belfry (s : State) (q : Nat) (f : Port → Port) : (s.updPort q f).belfry = s.belfry := rfl
@[simp] theorem updPort_sweep (s : State) (q : Nat) (f : Port → Port) : (s.updPort q f).sweep = s.sweep := rfl
@[simp] theorem updPort_dbg (s : State) (q : Nat) (f : Port → Port) : (s.updPort q f).dbg = s.dbg := rfl
@[simp] theorem updPort_pending (s : State) (q : Nat) (f : Port → Port) : (s.updPort q f).pending = s.pending := rfl
@[simp] theorem updPort_out (s : State) (q : Nat) (f : Port → Port) : (s.updPort q f).out = s.out := rfl
@[simp] theorem updPort_free (s : State) (q : Nat) (f : Port → Port) : (s.updPort q f).free = s.free := rfl

@[simp] theorem updLink_regs (s : State) (k : Nat) (f : CarLink → CarLink) : (s.updLink k f).regs = s.regs := rfl
@[simp] theorem updLink_latched (s : State) (k : Nat) (f : CarLink → CarLink) : (s.updLink k f).latched = s.latched := rfl
@[simp] theorem updLink_perf (s : State) (k : Nat) (f : CarLink → CarLink) : (s.updLink k f).perf = s.perf := rfl
@[simp] theorem updLink_perfSnap (s : State) (k : Nat) (f : CarLink → CarLink) : (s.updLink k f).perfSnap = s.perfSnap := rfl
@[simp] theorem updLink_power (s : State) (k : Nat) (f : CarLink → CarLink) : (s.updLink k f).power = s.power := rfl
@[simp] theorem updLink_dev (s : State) (k : Nat) (f : CarLink → CarLink) : (s.updLink k f).dev = s.dev := rfl
@[simp] theorem updLink_cad (s : State) (k : Nat) (f : CarLink → CarLink) : (s.updLink k f).cad = s.cad := rfl
@[simp] theorem updLink_toc (s : State) (k : Nat) (f : CarLink → CarLink) : (s.updLink k f).toc = s.toc := rfl
@[simp] theorem updLink_img (s : State) (k : Nat) (f : CarLink → CarLink) : (s.updLink k f).img = s.img := rfl
@[simp] theorem updLink_pans (s : State) (k : Nat) (f : CarLink → CarLink) : (s.updLink k f).pans = s.pans := rfl
@[simp] theorem updLink_fabric (s : State) (k : Nat) (f : CarLink → CarLink) : (s.updLink k f).fabric = s.fabric := rfl
@[simp] theorem updLink_ctxs (s : State) (k : Nat) (f : CarLink → CarLink) : (s.updLink k f).ctxs = s.ctxs := rfl
@[simp] theorem updLink_lastHid (s : State) (k : Nat) (f : CarLink → CarLink) : (s.updLink k f).lastHid = s.lastHid := rfl
@[simp] theorem updLink_inlets (s : State) (k : Nat) (f : CarLink → CarLink) : (s.updLink k f).inlets = s.inlets := rfl
@[simp] theorem updLink_queues (s : State) (k : Nat) (f : CarLink → CarLink) : (s.updLink k f).queues = s.queues := rfl
@[simp] theorem updLink_ringer (s : State) (k : Nat) (f : CarLink → CarLink) : (s.updLink k f).ringer = s.ringer := rfl
@[simp] theorem updLink_keyhold (s : State) (k : Nat) (f : CarLink → CarLink) : (s.updLink k f).keyhold = s.keyhold := rfl
@[simp] theorem updLink_arb (s : State) (k : Nat) (f : CarLink → CarLink) : (s.updLink k f).arb = s.arb := rfl
@[simp] theorem updLink_stores (s : State) (k : Nat) (f : CarLink → CarLink) : (s.updLink k f).stores = s.stores := rfl
@[simp] theorem updLink_blobs (s : State) (k : Nat) (f : CarLink → CarLink) : (s.updLink k f).blobs = s.blobs := rfl
@[simp] theorem updLink_fns (s : State) (k : Nat) (f : CarLink → CarLink) : (s.updLink k f).fns = s.fns := rfl
@[simp] theorem updLink_belfry (s : State) (k : Nat) (f : CarLink → CarLink) : (s.updLink k f).belfry = s.belfry := rfl
@[simp] theorem updLink_sweep (s : State) (k : Nat) (f : CarLink → CarLink) : (s.updLink k f).sweep = s.sweep := rfl
@[simp] theorem updLink_dbg (s : State) (k : Nat) (f : CarLink → CarLink) : (s.updLink k f).dbg = s.dbg := rfl
@[simp] theorem updLink_pending (s : State) (k : Nat) (f : CarLink → CarLink) : (s.updLink k f).pending = s.pending := rfl
@[simp] theorem updLink_out (s : State) (k : Nat) (f : CarLink → CarLink) : (s.updLink k f).out = s.out := rfl
@[simp] theorem updLink_free (s : State) (k : Nat) (f : CarLink → CarLink) : (s.updLink k f).free = s.free := rfl

@[simp] theorem updPc_regs (s : State) (i : Nat) (f : PseudoChannel → PseudoChannel) : (s.updPc i f).regs = s.regs := rfl
@[simp] theorem updPc_latched (s : State) (i : Nat) (f : PseudoChannel → PseudoChannel) : (s.updPc i f).latched = s.latched := rfl
@[simp] theorem updPc_perf (s : State) (i : Nat) (f : PseudoChannel → PseudoChannel) : (s.updPc i f).perf = s.perf := rfl
@[simp] theorem updPc_perfSnap (s : State) (i : Nat) (f : PseudoChannel → PseudoChannel) : (s.updPc i f).perfSnap = s.perfSnap := rfl
@[simp] theorem updPc_power (s : State) (i : Nat) (f : PseudoChannel → PseudoChannel) : (s.updPc i f).power = s.power := rfl
@[simp] theorem updPc_dev (s : State) (i : Nat) (f : PseudoChannel → PseudoChannel) : (s.updPc i f).dev = s.dev := rfl
@[simp] theorem updPc_cad (s : State) (i : Nat) (f : PseudoChannel → PseudoChannel) : (s.updPc i f).cad = s.cad := rfl
@[simp] theorem updPc_toc (s : State) (i : Nat) (f : PseudoChannel → PseudoChannel) : (s.updPc i f).toc = s.toc := rfl
@[simp] theorem updPc_img (s : State) (i : Nat) (f : PseudoChannel → PseudoChannel) : (s.updPc i f).img = s.img := rfl
@[simp] theorem updPc_pans (s : State) (i : Nat) (f : PseudoChannel → PseudoChannel) : (s.updPc i f).pans = s.pans := rfl
@[simp] theorem updPc_fabric (s : State) (i : Nat) (f : PseudoChannel → PseudoChannel) : (s.updPc i f).fabric = s.fabric := rfl
@[simp] theorem updPc_ctxs (s : State) (i : Nat) (f : PseudoChannel → PseudoChannel) : (s.updPc i f).ctxs = s.ctxs := rfl
@[simp] theorem updPc_lastHid (s : State) (i : Nat) (f : PseudoChannel → PseudoChannel) : (s.updPc i f).lastHid = s.lastHid := rfl
@[simp] theorem updPc_inlets (s : State) (i : Nat) (f : PseudoChannel → PseudoChannel) : (s.updPc i f).inlets = s.inlets := rfl
@[simp] theorem updPc_queues (s : State) (i : Nat) (f : PseudoChannel → PseudoChannel) : (s.updPc i f).queues = s.queues := rfl
@[simp] theorem updPc_ringer (s : State) (i : Nat) (f : PseudoChannel → PseudoChannel) : (s.updPc i f).ringer = s.ringer := rfl
@[simp] theorem updPc_keyhold (s : State) (i : Nat) (f : PseudoChannel → PseudoChannel) : (s.updPc i f).keyhold = s.keyhold := rfl
@[simp] theorem updPc_arb (s : State) (i : Nat) (f : PseudoChannel → PseudoChannel) : (s.updPc i f).arb = s.arb := rfl
@[simp] theorem updPc_blobs (s : State) (i : Nat) (f : PseudoChannel → PseudoChannel) : (s.updPc i f).blobs = s.blobs := rfl
@[simp] theorem updPc_car (s : State) (i : Nat) (f : PseudoChannel → PseudoChannel) : (s.updPc i f).car = s.car := rfl
@[simp] theorem updPc_fns (s : State) (i : Nat) (f : PseudoChannel → PseudoChannel) : (s.updPc i f).fns = s.fns := rfl
@[simp] theorem updPc_belfry (s : State) (i : Nat) (f : PseudoChannel → PseudoChannel) : (s.updPc i f).belfry = s.belfry := rfl
@[simp] theorem updPc_sweep (s : State) (i : Nat) (f : PseudoChannel → PseudoChannel) : (s.updPc i f).sweep = s.sweep := rfl
@[simp] theorem updPc_dbg (s : State) (i : Nat) (f : PseudoChannel → PseudoChannel) : (s.updPc i f).dbg = s.dbg := rfl
@[simp] theorem updPc_pending (s : State) (i : Nat) (f : PseudoChannel → PseudoChannel) : (s.updPc i f).pending = s.pending := rfl
@[simp] theorem updPc_out (s : State) (i : Nat) (f : PseudoChannel → PseudoChannel) : (s.updPc i f).out = s.out := rfl
@[simp] theorem updPc_free (s : State) (i : Nat) (f : PseudoChannel → PseudoChannel) : (s.updPc i f).free = s.free := rfl

@[simp] theorem emit_regs (s : State) (o : Out) : (s.emit o).regs = s.regs := rfl
@[simp] theorem emit_latched (s : State) (o : Out) : (s.emit o).latched = s.latched := rfl
@[simp] theorem emit_perf (s : State) (o : Out) : (s.emit o).perf = s.perf := rfl
@[simp] theorem emit_perfSnap (s : State) (o : Out) : (s.emit o).perfSnap = s.perfSnap := rfl
@[simp] theorem emit_power (s : State) (o : Out) : (s.emit o).power = s.power := rfl
@[simp] theorem emit_dev (s : State) (o : Out) : (s.emit o).dev = s.dev := rfl
@[simp] theorem emit_cad (s : State) (o : Out) : (s.emit o).cad = s.cad := rfl
@[simp] theorem emit_toc (s : State) (o : Out) : (s.emit o).toc = s.toc := rfl
@[simp] theorem emit_img (s : State) (o : Out) : (s.emit o).img = s.img := rfl
@[simp] theorem emit_pans (s : State) (o : Out) : (s.emit o).pans = s.pans := rfl
@[simp] theorem emit_fabric (s : State) (o : Out) : (s.emit o).fabric = s.fabric := rfl
@[simp] theorem emit_ctxs (s : State) (o : Out) : (s.emit o).ctxs = s.ctxs := rfl
@[simp] theorem emit_lastHid (s : State) (o : Out) : (s.emit o).lastHid = s.lastHid := rfl
@[simp] theorem emit_inlets (s : State) (o : Out) : (s.emit o).inlets = s.inlets := rfl
@[simp] theorem emit_queues (s : State) (o : Out) : (s.emit o).queues = s.queues := rfl
@[simp] theorem emit_ringer (s : State) (o : Out) : (s.emit o).ringer = s.ringer := rfl
@[simp] theorem emit_keyhold (s : State) (o : Out) : (s.emit o).keyhold = s.keyhold := rfl
@[simp] theorem emit_arb (s : State) (o : Out) : (s.emit o).arb = s.arb := rfl
@[simp] theorem emit_stores (s : State) (o : Out) : (s.emit o).stores = s.stores := rfl
@[simp] theorem emit_blobs (s : State) (o : Out) : (s.emit o).blobs = s.blobs := rfl
@[simp] theorem emit_car (s : State) (o : Out) : (s.emit o).car = s.car := rfl
@[simp] theorem emit_fns (s : State) (o : Out) : (s.emit o).fns = s.fns := rfl
@[simp] theorem emit_belfry (s : State) (o : Out) : (s.emit o).belfry = s.belfry := rfl
@[simp] theorem emit_sweep (s : State) (o : Out) : (s.emit o).sweep = s.sweep := rfl
@[simp] theorem emit_dbg (s : State) (o : Out) : (s.emit o).dbg = s.dbg := rfl
@[simp] theorem emit_pending (s : State) (o : Out) : (s.emit o).pending = s.pending := rfl
@[simp] theorem emit_free (s : State) (o : Out) : (s.emit o).free = s.free := rfl

@[simp] theorem setReg_latched (s : State) (r : Reg) (i v : Nat) : (s.setReg r i v).latched = s.latched := rfl
@[simp] theorem setReg_perf (s : State) (r : Reg) (i v : Nat) : (s.setReg r i v).perf = s.perf := rfl
@[simp] theorem setReg_perfSnap (s : State) (r : Reg) (i v : Nat) : (s.setReg r i v).perfSnap = s.perfSnap := rfl
@[simp] theorem setReg_power (s : State) (r : Reg) (i v : Nat) : (s.setReg r i v).power = s.power := rfl
@[simp] theorem setReg_dev (s : State) (r : Reg) (i v : Nat) : (s.setReg r i v).dev = s.dev := rfl
@[simp] theorem setReg_cad (s : State) (r : Reg) (i v : Nat) : (s.setReg r i v).cad = s.cad := rfl
@[simp] theorem setReg_toc (s : State) (r : Reg) (i v : Nat) : (s.setReg r i v).toc = s.toc := rfl
@[simp] theorem setReg_img (s : State) (r : Reg) (i v : Nat) : (s.setReg r i v).img = s.img := rfl
@[simp] theorem setReg_pans (s : State) (r : Reg) (i v : Nat) : (s.setReg r i v).pans = s.pans := rfl
@[simp] theorem setReg_fabric (s : State) (r : Reg) (i v : Nat) : (s.setReg r i v).fabric = s.fabric := rfl
@[simp] theorem setReg_ctxs (s : State) (r : Reg) (i v : Nat) : (s.setReg r i v).ctxs = s.ctxs := rfl
@[simp] theorem setReg_lastHid (s : State) (r : Reg) (i v : Nat) : (s.setReg r i v).lastHid = s.lastHid := rfl
@[simp] theorem setReg_inlets (s : State) (r : Reg) (i v : Nat) : (s.setReg r i v).inlets = s.inlets := rfl
@[simp] theorem setReg_queues (s : State) (r : Reg) (i v : Nat) : (s.setReg r i v).queues = s.queues := rfl
@[simp] theorem setReg_ringer (s : State) (r : Reg) (i v : Nat) : (s.setReg r i v).ringer = s.ringer := rfl
@[simp] theorem setReg_keyhold (s : State) (r : Reg) (i v : Nat) : (s.setReg r i v).keyhold = s.keyhold := rfl
@[simp] theorem setReg_arb (s : State) (r : Reg) (i v : Nat) : (s.setReg r i v).arb = s.arb := rfl
@[simp] theorem setReg_stores (s : State) (r : Reg) (i v : Nat) : (s.setReg r i v).stores = s.stores := rfl
@[simp] theorem setReg_blobs (s : State) (r : Reg) (i v : Nat) : (s.setReg r i v).blobs = s.blobs := rfl
@[simp] theorem setReg_car (s : State) (r : Reg) (i v : Nat) : (s.setReg r i v).car = s.car := rfl
@[simp] theorem setReg_fns (s : State) (r : Reg) (i v : Nat) : (s.setReg r i v).fns = s.fns := rfl
@[simp] theorem setReg_belfry (s : State) (r : Reg) (i v : Nat) : (s.setReg r i v).belfry = s.belfry := rfl
@[simp] theorem setReg_sweep (s : State) (r : Reg) (i v : Nat) : (s.setReg r i v).sweep = s.sweep := rfl
@[simp] theorem setReg_dbg (s : State) (r : Reg) (i v : Nat) : (s.setReg r i v).dbg = s.dbg := rfl
@[simp] theorem setReg_pending (s : State) (r : Reg) (i v : Nat) : (s.setReg r i v).pending = s.pending := rfl
@[simp] theorem setReg_out (s : State) (r : Reg) (i v : Nat) : (s.setReg r i v).out = s.out := rfl
@[simp] theorem setReg_free (s : State) (r : Reg) (i v : Nat) : (s.setReg r i v).free = s.free := rfl

@[simp] theorem setBit_latched (s : State) (r : Reg) (i b : Nat) : (s.setBit r i b).latched = s.latched := rfl
@[simp] theorem setBit_perf (s : State) (r : Reg) (i b : Nat) : (s.setBit r i b).perf = s.perf := rfl
@[simp] theorem setBit_perfSnap (s : State) (r : Reg) (i b : Nat) : (s.setBit r i b).perfSnap = s.perfSnap := rfl
@[simp] theorem setBit_power (s : State) (r : Reg) (i b : Nat) : (s.setBit r i b).power = s.power := rfl
@[simp] theorem setBit_dev (s : State) (r : Reg) (i b : Nat) : (s.setBit r i b).dev = s.dev := rfl
@[simp] theorem setBit_cad (s : State) (r : Reg) (i b : Nat) : (s.setBit r i b).cad = s.cad := rfl
@[simp] theorem setBit_toc (s : State) (r : Reg) (i b : Nat) : (s.setBit r i b).toc = s.toc := rfl
@[simp] theorem setBit_img (s : State) (r : Reg) (i b : Nat) : (s.setBit r i b).img = s.img := rfl
@[simp] theorem setBit_pans (s : State) (r : Reg) (i b : Nat) : (s.setBit r i b).pans = s.pans := rfl
@[simp] theorem setBit_fabric (s : State) (r : Reg) (i b : Nat) : (s.setBit r i b).fabric = s.fabric := rfl
@[simp] theorem setBit_ctxs (s : State) (r : Reg) (i b : Nat) : (s.setBit r i b).ctxs = s.ctxs := rfl
@[simp] theorem setBit_lastHid (s : State) (r : Reg) (i b : Nat) : (s.setBit r i b).lastHid = s.lastHid := rfl
@[simp] theorem setBit_inlets (s : State) (r : Reg) (i b : Nat) : (s.setBit r i b).inlets = s.inlets := rfl
@[simp] theorem setBit_queues (s : State) (r : Reg) (i b : Nat) : (s.setBit r i b).queues = s.queues := rfl
@[simp] theorem setBit_ringer (s : State) (r : Reg) (i b : Nat) : (s.setBit r i b).ringer = s.ringer := rfl
@[simp] theorem setBit_keyhold (s : State) (r : Reg) (i b : Nat) : (s.setBit r i b).keyhold = s.keyhold := rfl
@[simp] theorem setBit_arb (s : State) (r : Reg) (i b : Nat) : (s.setBit r i b).arb = s.arb := rfl
@[simp] theorem setBit_stores (s : State) (r : Reg) (i b : Nat) : (s.setBit r i b).stores = s.stores := rfl
@[simp] theorem setBit_blobs (s : State) (r : Reg) (i b : Nat) : (s.setBit r i b).blobs = s.blobs := rfl
@[simp] theorem setBit_car (s : State) (r : Reg) (i b : Nat) : (s.setBit r i b).car = s.car := rfl
@[simp] theorem setBit_fns (s : State) (r : Reg) (i b : Nat) : (s.setBit r i b).fns = s.fns := rfl
@[simp] theorem setBit_belfry (s : State) (r : Reg) (i b : Nat) : (s.setBit r i b).belfry = s.belfry := rfl
@[simp] theorem setBit_sweep (s : State) (r : Reg) (i b : Nat) : (s.setBit r i b).sweep = s.sweep := rfl
@[simp] theorem setBit_dbg (s : State) (r : Reg) (i b : Nat) : (s.setBit r i b).dbg = s.dbg := rfl
@[simp] theorem setBit_pending (s : State) (r : Reg) (i b : Nat) : (s.setBit r i b).pending = s.pending := rfl
@[simp] theorem setBit_out (s : State) (r : Reg) (i b : Nat) : (s.setBit r i b).out = s.out := rfl
@[simp] theorem setBit_free (s : State) (r : Reg) (i b : Nat) : (s.setBit r i b).free = s.free := rfl

@[simp] theorem bump_latched (s : State) (r : Reg) (i hi lo n : Nat) : (s.bump r i hi lo n).latched = s.latched := rfl
@[simp] theorem bump_perf (s : State) (r : Reg) (i hi lo n : Nat) : (s.bump r i hi lo n).perf = s.perf := rfl
@[simp] theorem bump_perfSnap (s : State) (r : Reg) (i hi lo n : Nat) : (s.bump r i hi lo n).perfSnap = s.perfSnap := rfl
@[simp] theorem bump_power (s : State) (r : Reg) (i hi lo n : Nat) : (s.bump r i hi lo n).power = s.power := rfl
@[simp] theorem bump_dev (s : State) (r : Reg) (i hi lo n : Nat) : (s.bump r i hi lo n).dev = s.dev := rfl
@[simp] theorem bump_cad (s : State) (r : Reg) (i hi lo n : Nat) : (s.bump r i hi lo n).cad = s.cad := rfl
@[simp] theorem bump_toc (s : State) (r : Reg) (i hi lo n : Nat) : (s.bump r i hi lo n).toc = s.toc := rfl
@[simp] theorem bump_img (s : State) (r : Reg) (i hi lo n : Nat) : (s.bump r i hi lo n).img = s.img := rfl
@[simp] theorem bump_pans (s : State) (r : Reg) (i hi lo n : Nat) : (s.bump r i hi lo n).pans = s.pans := rfl
@[simp] theorem bump_fabric (s : State) (r : Reg) (i hi lo n : Nat) : (s.bump r i hi lo n).fabric = s.fabric := rfl
@[simp] theorem bump_ctxs (s : State) (r : Reg) (i hi lo n : Nat) : (s.bump r i hi lo n).ctxs = s.ctxs := rfl
@[simp] theorem bump_lastHid (s : State) (r : Reg) (i hi lo n : Nat) : (s.bump r i hi lo n).lastHid = s.lastHid := rfl
@[simp] theorem bump_inlets (s : State) (r : Reg) (i hi lo n : Nat) : (s.bump r i hi lo n).inlets = s.inlets := rfl
@[simp] theorem bump_queues (s : State) (r : Reg) (i hi lo n : Nat) : (s.bump r i hi lo n).queues = s.queues := rfl
@[simp] theorem bump_ringer (s : State) (r : Reg) (i hi lo n : Nat) : (s.bump r i hi lo n).ringer = s.ringer := rfl
@[simp] theorem bump_keyhold (s : State) (r : Reg) (i hi lo n : Nat) : (s.bump r i hi lo n).keyhold = s.keyhold := rfl
@[simp] theorem bump_arb (s : State) (r : Reg) (i hi lo n : Nat) : (s.bump r i hi lo n).arb = s.arb := rfl
@[simp] theorem bump_stores (s : State) (r : Reg) (i hi lo n : Nat) : (s.bump r i hi lo n).stores = s.stores := rfl
@[simp] theorem bump_blobs (s : State) (r : Reg) (i hi lo n : Nat) : (s.bump r i hi lo n).blobs = s.blobs := rfl
@[simp] theorem bump_car (s : State) (r : Reg) (i hi lo n : Nat) : (s.bump r i hi lo n).car = s.car := rfl
@[simp] theorem bump_fns (s : State) (r : Reg) (i hi lo n : Nat) : (s.bump r i hi lo n).fns = s.fns := rfl
@[simp] theorem bump_belfry (s : State) (r : Reg) (i hi lo n : Nat) : (s.bump r i hi lo n).belfry = s.belfry := rfl
@[simp] theorem bump_sweep (s : State) (r : Reg) (i hi lo n : Nat) : (s.bump r i hi lo n).sweep = s.sweep := rfl
@[simp] theorem bump_dbg (s : State) (r : Reg) (i hi lo n : Nat) : (s.bump r i hi lo n).dbg = s.dbg := rfl
@[simp] theorem bump_pending (s : State) (r : Reg) (i hi lo n : Nat) : (s.bump r i hi lo n).pending = s.pending := rfl
@[simp] theorem bump_out (s : State) (r : Reg) (i hi lo n : Nat) : (s.bump r i hi lo n).out = s.out := rfl
@[simp] theorem bump_free (s : State) (r : Reg) (i hi lo n : Nat) : (s.bump r i hi lo n).free = s.free := rfl

@[simp] theorem count_regs (s : State) (r : Reg) (i n : Nat) : (s.count r i n).regs = s.regs := rfl
@[simp] theorem count_latched (s : State) (r : Reg) (i n : Nat) : (s.count r i n).latched = s.latched := rfl
@[simp] theorem count_perfSnap (s : State) (r : Reg) (i n : Nat) : (s.count r i n).perfSnap = s.perfSnap := rfl
@[simp] theorem count_power (s : State) (r : Reg) (i n : Nat) : (s.count r i n).power = s.power := rfl
@[simp] theorem count_dev (s : State) (r : Reg) (i n : Nat) : (s.count r i n).dev = s.dev := rfl
@[simp] theorem count_cad (s : State) (r : Reg) (i n : Nat) : (s.count r i n).cad = s.cad := rfl
@[simp] theorem count_toc (s : State) (r : Reg) (i n : Nat) : (s.count r i n).toc = s.toc := rfl
@[simp] theorem count_img (s : State) (r : Reg) (i n : Nat) : (s.count r i n).img = s.img := rfl
@[simp] theorem count_pans (s : State) (r : Reg) (i n : Nat) : (s.count r i n).pans = s.pans := rfl
@[simp] theorem count_fabric (s : State) (r : Reg) (i n : Nat) : (s.count r i n).fabric = s.fabric := rfl
@[simp] theorem count_ctxs (s : State) (r : Reg) (i n : Nat) : (s.count r i n).ctxs = s.ctxs := rfl
@[simp] theorem count_lastHid (s : State) (r : Reg) (i n : Nat) : (s.count r i n).lastHid = s.lastHid := rfl
@[simp] theorem count_inlets (s : State) (r : Reg) (i n : Nat) : (s.count r i n).inlets = s.inlets := rfl
@[simp] theorem count_queues (s : State) (r : Reg) (i n : Nat) : (s.count r i n).queues = s.queues := rfl
@[simp] theorem count_ringer (s : State) (r : Reg) (i n : Nat) : (s.count r i n).ringer = s.ringer := rfl
@[simp] theorem count_keyhold (s : State) (r : Reg) (i n : Nat) : (s.count r i n).keyhold = s.keyhold := rfl
@[simp] theorem count_arb (s : State) (r : Reg) (i n : Nat) : (s.count r i n).arb = s.arb := rfl
@[simp] theorem count_stores (s : State) (r : Reg) (i n : Nat) : (s.count r i n).stores = s.stores := rfl
@[simp] theorem count_blobs (s : State) (r : Reg) (i n : Nat) : (s.count r i n).blobs = s.blobs := rfl
@[simp] theorem count_car (s : State) (r : Reg) (i n : Nat) : (s.count r i n).car = s.car := rfl
@[simp] theorem count_fns (s : State) (r : Reg) (i n : Nat) : (s.count r i n).fns = s.fns := rfl
@[simp] theorem count_belfry (s : State) (r : Reg) (i n : Nat) : (s.count r i n).belfry = s.belfry := rfl
@[simp] theorem count_sweep (s : State) (r : Reg) (i n : Nat) : (s.count r i n).sweep = s.sweep := rfl
@[simp] theorem count_dbg (s : State) (r : Reg) (i n : Nat) : (s.count r i n).dbg = s.dbg := rfl
@[simp] theorem count_pending (s : State) (r : Reg) (i n : Nat) : (s.count r i n).pending = s.pending := rfl
@[simp] theorem count_out (s : State) (r : Reg) (i n : Nat) : (s.count r i n).out = s.out := rfl
@[simp] theorem count_free (s : State) (r : Reg) (i n : Nat) : (s.count r i n).free = s.free := rfl

@[simp] theorem classCount_regs (s : State) (cls : Nat) : (s.classCount cls).regs = s.regs := rfl
@[simp] theorem classCount_latched (s : State) (cls : Nat) : (s.classCount cls).latched = s.latched := rfl
@[simp] theorem classCount_perf (s : State) (cls : Nat) : (s.classCount cls).perf = s.perf := rfl
@[simp] theorem classCount_perfSnap (s : State) (cls : Nat) : (s.classCount cls).perfSnap = s.perfSnap := rfl
@[simp] theorem classCount_power (s : State) (cls : Nat) : (s.classCount cls).power = s.power := rfl
@[simp] theorem classCount_dev (s : State) (cls : Nat) : (s.classCount cls).dev = s.dev := rfl
@[simp] theorem classCount_cad (s : State) (cls : Nat) : (s.classCount cls).cad = s.cad := rfl
@[simp] theorem classCount_toc (s : State) (cls : Nat) : (s.classCount cls).toc = s.toc := rfl
@[simp] theorem classCount_img (s : State) (cls : Nat) : (s.classCount cls).img = s.img := rfl
@[simp] theorem classCount_pans (s : State) (cls : Nat) : (s.classCount cls).pans = s.pans := rfl
@[simp] theorem classCount_fabric (s : State) (cls : Nat) : (s.classCount cls).fabric = s.fabric := rfl
@[simp] theorem classCount_ctxs (s : State) (cls : Nat) : (s.classCount cls).ctxs = s.ctxs := rfl
@[simp] theorem classCount_lastHid (s : State) (cls : Nat) : (s.classCount cls).lastHid = s.lastHid := rfl
@[simp] theorem classCount_inlets (s : State) (cls : Nat) : (s.classCount cls).inlets = s.inlets := rfl
@[simp] theorem classCount_queues (s : State) (cls : Nat) : (s.classCount cls).queues = s.queues := rfl
@[simp] theorem classCount_ringer (s : State) (cls : Nat) : (s.classCount cls).ringer = s.ringer := rfl
@[simp] theorem classCount_keyhold (s : State) (cls : Nat) : (s.classCount cls).keyhold = s.keyhold := rfl
@[simp] theorem classCount_arb (s : State) (cls : Nat) : (s.classCount cls).arb = s.arb := rfl
@[simp] theorem classCount_stores (s : State) (cls : Nat) : (s.classCount cls).stores = s.stores := rfl
@[simp] theorem classCount_blobs (s : State) (cls : Nat) : (s.classCount cls).blobs = s.blobs := rfl
@[simp] theorem classCount_car (s : State) (cls : Nat) : (s.classCount cls).car = s.car := rfl
@[simp] theorem classCount_fns (s : State) (cls : Nat) : (s.classCount cls).fns = s.fns := rfl
@[simp] theorem classCount_belfry (s : State) (cls : Nat) : (s.classCount cls).belfry = s.belfry := rfl
@[simp] theorem classCount_dbg (s : State) (cls : Nat) : (s.classCount cls).dbg = s.dbg := rfl
@[simp] theorem classCount_pending (s : State) (cls : Nat) : (s.classCount cls).pending = s.pending := rfl
@[simp] theorem classCount_out (s : State) (cls : Nat) : (s.classCount cls).out = s.out := rfl
@[simp] theorem classCount_free (s : State) (cls : Nat) : (s.classCount cls).free = s.free := rfl

end Sys2Proof.Machine
end

