-- ==== Sys2Proof/Laws/Ops.lean ====
section
/-! SUPPORT. The register store read after a write, and everything that producing an item or raising an event can do. -/
namespace Sys2Proof.Machine

open Sys2Proof

/-! ### The register store -/

theorem regLookup_filter_self (l : List (Reg × Nat × Nat)) (r : Reg) (i : Nat) :
    regLookup (l.filter fun e => !(e.1 == r && e.2.1 == i)) r i = none := by
  unfold regLookup
  rw [Option.map_eq_none_iff, List.find?_eq_none]
  intro x hx
  have := (List.mem_filter.1 hx).2
  simp only [Bool.not_eq_true', Bool.and_eq_false_iff, beq_eq_false_iff_ne] at this
  rcases this with h | h <;> simp [h]

theorem regLookup_filter_other (l : List (Reg × Nat × Nat)) {r r' : Reg} {i i' : Nat} (h : r' ≠ r ∨ i' ≠ i) :
    regLookup (l.filter fun e => !(e.1 == r && e.2.1 == i)) r' i' = regLookup l r' i' := by
  unfold regLookup
  congr 1
  rw [List.find?_filter]
  congr 1
  funext e
  by_cases h1 : e.1 = r' <;> by_cases h2 : e.2.1 = i' <;> simp [h1, h2]
  exact h.imp id id

/-- A register reads as it was last set. -/
@[simp] theorem reg_setReg_same (s : State) (r : Reg) (i v : Nat) : (s.setReg r i v).reg r i = v := by
  unfold State.setReg State.reg
  split
  · rename_i h
    show (regLookup (s.regs.filter fun e => !(e.1 == r && e.2.1 == i)) r i).getD _ = v
    rw [regLookup_filter_self, h]; rfl
  · simp [regSet, regLookup]

/-- Setting one register instance leaves every other as it was. -/
theorem reg_setReg_other (s : State) {r r' : Reg} {i i' : Nat} (v : Nat) (h : r' ≠ r ∨ i' ≠ i) :
    (s.setReg r i v).reg r' i' = s.reg r' i' := by
  unfold State.setReg State.reg
  dsimp only
  split
  · rw [regLookup_filter_other _ h]
  · have e : regLookup (regSet s.regs r i v) r' i' = regLookup s.regs r' i' := by
      rw [← regLookup_filter_other s.regs (r := r) (i := i) h]
      unfold regSet regLookup
      rw [List.find?_cons_of_neg]
      simp only [Bool.and_eq_true, beq_iff_eq, not_and]
      intro h1 h2
      rcases h with h | h
      · exact h h1.symm
      · exact h h2.symm
    rw [e]

/-! ### What producing and raising can do -/

/-- A state with other queues, functions, output, registers, TELQ copies and alert line. -/
def State.afterItem (s : State) (qs : List BQueue) (rg : List (Reg × Nat × Nat)) (fs : List Fn) (o : List Out)
    (tq : List QItem) (alert : Bool) : State :=
  { s with queues := qs, regs := rg, fns := fs, out := o, belfry := { s.belfry with telq := tq },
           power := { s.power with smbAlertN := alert } }

/-- The registers but Q_EVT read alike. -/
def sameRegs (rg rg' : List (Reg × Nat × Nat)) : Prop := ∀ r i, r ≠ .qEvt → regLookup rg r i = regLookup rg' r i

theorem sameRegs_setBit (s : State) (q b : Nat) : sameRegs (s.setBit .qEvt q b).regs s.regs := by
  intro r i h
  unfold State.setBit State.setReg
  dsimp only
  split
  · exact regLookup_filter_other _ (Or.inl h)
  · rw [← regLookup_filter_other s.regs (r := .qEvt) (i := q) (Or.inl h)]
    unfold regSet regLookup
    rw [List.find?_cons_of_neg]
    simp only [Bool.and_eq_true, beq_iff_eq, not_and]
    intro h1
    exact absurd h1.symm h

theorem signal_spec (s : State) (n v : Nat) : ∃ fs o, s.signal n v = { s with fns := fs, out := o } := by
  unfold State.signal
  split
  · exact ⟨s.fns, s.out, rfl⟩
  · split
    · exact ⟨_, s.out, rfl⟩
    · exact ⟨s.fns, _, rfl⟩

theorem signalQueue_spec (s : State) (q : Nat) : ∃ fs o, s.signalQueue q = { s with fns := fs, out := o } := by
  unfold State.signalQueue
  split
  · exact signal_spec s q 0
  · split
    · exact signal_spec s 0 1
    · split
      · exact signal_spec s 0 2
      · exact ⟨s.fns, _, rfl⟩

theorem levelCheck_spec (s : State) (q lag : Nat) :
    ∃ qs rg fs o, s.levelCheck q lag = { s with queues := qs, regs := rg, fns := fs, out := o } ∧ sameRegs rg s.regs := by
  unfold State.levelCheck
  dsimp only
  split
  · exact ⟨s.queues, s.regs, s.fns, s.out, rfl, fun _ _ _ => rfl⟩
  · split
    · exact ⟨_, s.regs, s.fns, s.out, rfl, fun _ _ _ => rfl⟩
    · split
      · obtain ⟨fs, o, h⟩ := signalQueue_spec ((s.updQueue q fun b => { b with armed := false }).setBit .qEvt q 0) q
        exact ⟨_, _, fs, o, h, sameRegs_setBit _ q 0⟩
      · exact ⟨s.queues, s.regs, s.fns, s.out, rfl, fun _ _ _ => rfl⟩

/-- Producing an item changes queues, Q_EVT, functions' pending bits, output and TELQ's copies, and nothing else. -/
theorem produce_spec (s : State) (q typ source status : Nat) (payload : Bytes) (bad : Bool) (lag : Nat) :
    ∃ qs rg fs o tq, s.produce q typ source status payload bad lag = s.afterItem qs rg fs o tq s.power.smbAlertN ∧
      sameRegs rg s.regs := by
  unfold State.produce
  dsimp only
  split
  · obtain ⟨qs, rg, fs, o, h, hr⟩ := levelCheck_spec (State.updQueue { s with belfry := { s.belfry with telq := _ } } q
      fun b => queuePush b (queueCap q) _) q lag
    exact ⟨qs, rg, fs, o, _, h, hr⟩
  · obtain ⟨qs, rg, fs, o, h, hr⟩ := levelCheck_spec (s.updQueue q fun b => queuePush b (queueCap q) _) q lag
    exact ⟨qs, rg, fs, o, s.belfry.telq, h, hr⟩

/-- Raising an event changes what producing changes, and SMB_ALERT_N. -/
theorem event_spec (s : State) (q typ source status : Nat) (payload : Bytes) :
    ∃ qs rg fs o tq al, s.event q typ source status payload = s.afterItem qs rg fs o tq al ∧ sameRegs rg s.regs := by
  unfold State.event
  split
  · exact ⟨s.queues, s.regs, s.fns, s.out, s.belfry.telq, s.power.smbAlertN, rfl, fun _ _ _ => rfl⟩
  · dsimp only
    obtain ⟨qs, rg, fs, o, tq, h, hr⟩ := produce_spec s q typ source status payload false 0
    rw [h]
    split
    · obtain ⟨qs', rg', fs', o', tq', h', hr'⟩ :=
        produce_spec (s.afterItem qs rg fs o tq s.power.smbAlertN) 5 typ source status payload false 0
      rw [h']
      split
      · exact ⟨qs', rg', fs', o', tq', false, rfl, fun r i k => (hr' r i k).trans (hr r i k)⟩
      · exact ⟨qs', rg', fs', o', tq', s.power.smbAlertN, rfl, fun r i k => (hr' r i k).trans (hr r i k)⟩
    · exact ⟨qs, rg, fs, o, tq, s.power.smbAlertN, rfl, hr⟩

end Sys2Proof.Machine
end

