-- ==== Sys2Proof/Tests/Slice0.lean ====
section
/-! SUPPORT. The model's own tests: for each statement with hypotheses, a state and operands that meet them (wit_…); for
each check of WellFormed, a command that it refuses (test_wf_…); small checks against the spec's worked examples (test_…). -/
namespace Sys2Proof.Tests

open Sys2Proof Sys2Proof.Machine

set_option Elab.async false

/-- A device in service, with VDDC good and Belfry awake. -/
def up : State :=
  { State.reset with
    dev := { st := .running, bootStep := 10, pcie := 2 }
    power := { sysRstN := true, perstN := true, vddcEn := true, vddc := .good }
    cad := { running := true }
    toc := { armed := true }
    belfry := { running := true } }

/-- That device in another state of Table BOO-1. -/
def inState (x : DevState) : State := { up with dev := { up.dev with st := x } }

theorem wit_EveryStepKeepsTheQueue :
    ∃ t, ({ up with pending := [.tollTick, .localHealth] } : State).queueWf = true ∧
      step { up with pending := [.tollTick, .localHealth] } = .next t := ⟨_, by decide +kernel, rfl⟩

theorem wit_RegisterWriteRuns :
    up.accessOk .belfry .bar2 0x10000 4 = true ∧ up.areaWrite .belfry .bar2 0x10000 (leBytes 4 (1 % 2 ^ 32)) = none ∧
      findReg .belfry .bar2 0x10000 = some (.govCtl, 0, 0) := by decide +kernel

theorem wit_WriteFollowsTheAccessCode : ∀ a ∈ [Access.rw, .w1c, .w1s, .ro], ∃ f : RegField, f.hi = 7 ∧ f.lo = 7 ∧ f.acc = a := by
  intro a _; exact ⟨⟨7, 7, a, 0, []⟩, rfl, rfl, rfl⟩

theorem wit_ReadReturnsAndClears :
    up.accessOk .belfry .bar2 0x10040 8 = true ∧ up.areaRead .belfry .bar2 0x10040 8 = none ∧
      findReg .belfry .bar2 0x10040 = some (.tollCount, 0, 0) ∧ mayRead .belfry .tollCount = true ∧
      8 * 8 = (regPlace .tollCount).width := by decide +kernel

/-- Belfry has latched the high half of TOLL_COUNT. -/
def latched : State := { up with latched := [(.tollCount, 0, 4, 9)] }

theorem wit_LowHalfReadLatches :
    (up.accessOk .belfry .bar2 0x10040 4 = true ∧ up.areaRead .belfry .bar2 0x10040 4 = none ∧
      findReg .belfry .bar2 0x10040 = some (.tollCount, 0, 0) ∧ mayRead .belfry .tollCount = true ∧ latches .tollCount = true ∧
      up.accessOk .belfry .bar2 0x10040 8 = true ∧ up.areaRead .belfry .bar2 0x10040 8 = none) ∧
    (latched.accessOk .belfry .bar2 0x10044 4 = true ∧ latched.areaRead .belfry .bar2 0x10044 4 = none ∧
      findReg .belfry .bar2 0x10044 = some (.tollCount, 0, 4) ∧ latched.latchOf .tollCount 0 (whoNum .belfry) = some 9) ∧
    (up.accessOk .belfry .bar2 0x10044 4 = true ∧ up.areaRead .belfry .bar2 0x10044 4 = none ∧
      up.latchOf .tollCount 0 (whoNum .belfry) = none) ∧
    (up.accessOk .belfry .bar2 0x60040 4 = true ∧ up.areaRead .belfry .bar2 0x60040 4 = none ∧
      findReg .belfry .bar2 0x60040 = some (.carPosted, 0, 0) ∧ mayRead .belfry .carPosted = true ∧ latches .carPosted = true ∧
      (regFields .carPosted).any (fun f => f.acc == .rc) = true) := by decide +kernel

theorem wit_GovVlimitWriteIsOrdered :
    up.belfry.running = true ∧ unlisted .govVlimit 0x8C78 = false ∧ bitsOf 0x8C78 7 0 ≤ bitsOf 0x8C78 15 8 ∧
      unlisted .govVlimit 0x7878 = false ∧ bitsOf 0x7878 7 0 ≤ bitsOf 0x7878 15 8 ∧ bitsOf 0x7878 31 16 = 0 ∧
      unlisted .govVlimit 0x778C = false ∧ bitsOf 0x778C 15 8 < bitsOf 0x778C 7 0 ∧
      unlisted .govVlimit 0xFF00 = true ∧ bitsOf 0x10000 31 16 ≠ 0 := by decide +kernel

theorem wit_TollTickCounts : up.cadRuns = true ∧ (inState .muffled).dev.st = .muffled := by decide +kernel

theorem wit_CadenceRowsRun :
    up.cadRuns = true ∧ ({ up with cad := { up.cad with capUnmet := true } } : State).cad.running = true ∧
      ({ up with cad := { up.cad with capUnmet := true } } : State).cad.capUnmet = true ∧
      ({ up with cad := { up.cad with toll := 3000 } } : State).cad.toll % 1000 = 0 := by decide +kernel

theorem wit_GovernorFollowsItsBranches : up.cad.running = true ∧ up.cad.avsFault = false ∧
    ({ up with regs := [(.govCtl, 0, 1)] } : State).govEn = true ∧
    ({ up with regs := [(.govCtl, 0, 1)] } : State).govVmin ≤ ({ up with regs := [(.govCtl, 0, 1)] } : State).govVmax := by
  decide +kernel

theorem wit_EmergencyBranch : up.cad.running = true ∧ up.cad.avsFault = false ∧ (95000 : Int) ≤ 95000 := by decide +kernel

/-- A transaction waits on AVSBus. -/
def avsUp (x : AvsTx) : State := { up with cad := { up.cad with avs := [x] } }

theorem wit_AvsTransactionEnds :
    ((avsUp { kind := 2, value := 140 }).cad.avs = { kind := 2, value := 140 } :: [] ∧ (714 ≤ 5 * 140 + 15 ∧ 5 * 140 ≤ 714 + 15) ∧
      ((2 : Nat) = 2 ∧ 5 * 140 + 15 < 716)) ∧
    (∃ x y : AvsTx, x.kind = 1 ∧ x.retried = false ∧ ({ up with cad := { up.cad with avs := [x, y] } } : State).cad.avs = x :: y :: []) ∧
    (avsUp { kind := 1, value := 140, retried := true }).cad.avsFault = false :=
  ⟨by decide +kernel, ⟨{ kind := 1, value := 140 }, { kind := 2, value := 140 }, by decide +kernel⟩, by decide +kernel⟩

/-! ### Resets and supplies -/

theorem wit_SystemResetClears : up.power.thermtripN = true := by decide +kernel

/-- The device in reset, or cooling before its boot. -/
def held (w : Bool) : State := { State.reset with dev := { st := .held, thermWait := w } }

theorem wit_ResetRowsRun :
    (inState .cold).dev.st = .cold ∧ up.dev.st ≠ .cold ∧ up.dev.st = .running ∧ up.toc.burning = false ∧ up.power.vddkOk = true ∧
    up.power.vbatOk = true ∧ up.power.sysRstN = true ∧
    ((held false).dev.st = .held ∧ (held false).dev.thermWait = false ∧ (held false).toc.lockedLatch = false ∧
      (held false).power.sysRstN = false) ∧
    ((held true).dev.st = .held ∧ (held true).dev.thermWait = true) ∧
    ({ up with power := { up.power with vddkOk := false } } : State).onVddk = false ∧
    ((held false).power.auxOk = true ∧ (held false).belfry.running = false) := by decide +kernel

theorem wit_LatchLeadsToLocked : ∃ s : State, s.dev.st = .held ∧ s.dev.thermWait = false ∧ s.toc.lockedLatch = true :=
  ⟨{ held false with toc := { lockedLatch := true } }, by decide +kernel⟩

/-- The device with VDDC where the supply's sequence has it. -/
def supply (v : VddcState) (due : Bool) : State := { up with power := { up.power with vddc := v, restartDue := due } }

theorem wit_SupplyRowsRun :
    ((supply .discharging false).power.vddc = .discharging ∧ (supply .discharging false).dev.muffling = none ∧
      (supply .discharging false).dev.st = .running) ∧
    ((supply .hold false).power.vddc = .hold ∧ (supply .hold false).power.why ≠ .shutdown) ∧
    ((supply .off true).power.restartDue = true ∧ (supply .off true).power.vddc = .off) ∧
    ((supply .starting false).power.vddc = .starting ∧ (supply .starting false).dev.switch = none ∧
      (supply .starting false).dev.wake = none ∧ (supply .starting false).power.tries = 0) ∧ up.power.vddc = .good := by
  decide +kernel

theorem wit_RemovingVddcLosesTheCore : up.power.vddc = .good := by decide +kernel

/-- A boot that has taken its first `n` steps. -/
def bootAt (n : Nat) : State := { up with dev := { st := .booting, bootStep := n } }

theorem wit_BootStepsInOrder :
    (∀ n ∈ [3, 4], (bootAt n).dev.st = .booting ∧ (bootAt n).dev.halted = false ∧ (bootAt n).toc.burning = false ∧
      (bootAt n).power.thermtripN = true ∧ (bootAt n).dev.bootStep = n) ∧
    (7 : Nat) ≠ 8 ∧ 7 ≠ (bootAt 3).dev.bootStep + 1 := by decide +kernel

/-- The link of the endpoint in a state of its own. -/
def pcieAt (x : DevState) (n : Nat) : State := { up with dev := { up.dev with st := x, pcie := n } }

theorem wit_EndpointRowsRun :
    ((pcieAt .untenanted 0).dev.st = .untenanted ∧ (pcieAt .untenanted 0).dev.pcie = 0) ∧ (pcieAt .running 1).dev.pcie = 1 ∧
    (pcieAt .running 2).dev.pcie = 2 ∧ up.dev.st = .running := by decide +kernel

theorem wit_TocsinRowsRun :
    (up.sensorWatched 3 = true ∧ up.onVddk = true ∧ up.dev.st ≠ .held ∧ up.toc.burning = false) ∧
    (∃ s : State, s.sensorWatched 3 = true ∧ s.onVddk = false ∧ s.toc.latch = none) ∧
    (∃ s : State, s.toc.burning = true ∧ s.dev.st ≠ .muffled) ∧
    (∃ s : State, s.dev.st = .booting ∧ s.dev.bootStep = 0 ∧ s.toc.armed = false ∧ s.toc.burning = false ∧ s.toc.latch = none ∧
      s.toc.count < 4096) ∧
    up.dev.st = .running ∧ (∃ s : State, s.dev.st = .running ∧ s.keyhold.katFailed = true) :=
  ⟨by decide +kernel, ⟨{ up with power := { up.power with vddkOk := false } }, by decide +kernel⟩,
    ⟨{ up with toc := { up.toc with burning := true } }, by decide +kernel⟩,
    ⟨{ bootAt 0 with toc := {} }, by decide +kernel⟩, by decide +kernel,
    ⟨{ up with keyhold := { katFailed := true } }, by decide +kernel⟩⟩

theorem wit_MemoryReadsWhatWasWritten :
    (2 : Nat) ≠ 1 ∧ (1 ≤ 1 ∧ 1 < 1 + [(1 : Byte)].length) ∧ (0 < 1 ∨ 1 + [(1 : Byte)].length ≤ 0) ∧
      (2 < 1 ∨ 1 + [(1 : Byte)].length ≤ 2) := by decide +kernel

theorem wit_ClearedMemoryReadsZero : ((0 : Nat) ≤ 3 ∧ 3 < 4) ∧ (4 < 0 ∨ 4 ≤ 4) := by decide +kernel

theorem wit_RegisterFile : (0 : Nat) < 32 ∧ 31 < 32 ∧ 0 < 8 ∧ 7 < 8 := by decide +kernel


/-! ### Instructions of the Pan sequencer -/

/-- A Pan that runs for context 0, ready for the word of an opcode and operands, with memory, generators of one row, banks
loaded and a route on channel 0. -/
def runner (op : Nat) (w : BitVec 25) : Pan :=
  { st := .running, ctx := some 0, need := 16, prefetch := [wordOfOp op w], g := [0, 1, 2 ^ 32] ++ List.replicate 29 16384
    ag := List.replicate 4 { count := 1 }, bankIssue := [true, true], rxMask := 2 ^ 64 - 1, routeCache := [(0, 2 ^ 63)] }

/-- Pan 0 of the device in service replaced. -/
def withPan (q : Pan) : State := { up with pans := q :: List.replicate 47 {} }

/-- Pan 0 is at the word of an opcode and operands. -/
def at_ (op : Nat) (w : BitVec 25) : State := withPan (runner op w)

theorem wit_AluInstructions :
    fld 0x31080 5 0 = 0 ∧ ∀ op ∈ [2, 3, 4, 5, 6, 7, 8, 9], (at_ op 0x31080).ready 0 op 0x31080 = true := by decide +kernel

theorem wit_RegisterWritingInstructions :
    (at_ 0x01 0).ready 0 0x01 0 = true ∧ fld 0 20 0 = 0 ∧ (at_ 0x0A 0x3FFFF).ready 0 0x0A 0x3FFFF = true ∧
    (at_ 0x0B 0x3FFFF).ready 0 0x0B 0x3FFFF = true ∧
    ((at_ 0x15 0x30005).ready 0 0x15 0x30005 = true ∧ fld 0x30005 15 5 = 0 ∧ fld 0x30005 4 0 < 6) ∧
    (at_ 0x1B 0x30003).ready 0 0x1B 0x30003 = true ∧ (at_ 0x1B 0x30003).clear 0 (planAgrd 0 0x30003 (at_ 0x1B 0x30003)) = true := by
  decide +kernel

theorem wit_PredicateAndFlagInstructions :
    ((at_ 0x0C 0x10845).ready 0 0x0C 0x10845 = true ∧ fld 0x10845 20 19 = 0 ∧ fld 0x10845 5 3 = 0 ∧ fld 0x10845 2 0 < 6) ∧
    ((at_ 0x16 0x0007F).ready 0 0x16 0x0007F = true ∧ fld 0x0007F 20 17 = 0 ∧ fld 0x0007F 16 16 = 0 ∧ fld 0x0007F 15 7 = 0) ∧
    ((at_ 0x16 0x10007).ready 0 0x16 0x10007 = true ∧ fld 0x10007 20 17 = 0 ∧ fld 0x10007 16 16 = 1 ∧ fld 0x10007 15 3 = 0) := by
  decide +kernel

theorem wit_LoadAndStore : ∀ op ∈ [0x0D, 0x0E],
    inRange ((at_ op 0x31801).pan 0) (lsAddr ((at_ op 0x31801).pan 0) 0x31801) 8 = true ∧
    lsAddr ((at_ op 0x31801).pan 0) 0x31801 % 8 = 0 ∧ (at_ op 0x31801).held 0 (lsAddr ((at_ op 0x31801).pan 0) 0x31801) 8 = false ∧
    (at_ op 0x31801).ready 0 op 0x31801 = true ∧
    failingIn ((at_ op 0x31801).pan 0) [] (lsAddr ((at_ op 0x31801).pan 0) 0x31801) 8 = [] ∧
    failingIn ((at_ op 0x31801).pan 0) [(lsAddr ((at_ op 0x31801).pan 0) 0x31801 / 8, .lasting)]
      (lsAddr ((at_ op 0x31801).pan 0) 0x31801) 8 ≠ [] := by decide +kernel

theorem wit_LoadAndStoreTrap : ∀ op ∈ [0x0D, 0x0E],
    ((at_ op 0x307FF).ready 0 op 0x307FF = true ∧ inRange ((at_ op 0x307FF).pan 0) (lsAddr ((at_ op 0x307FF).pan 0) 0x307FF) 8 = false) ∧
    ((at_ op 0x30800).ready 0 op 0x30800 = true ∧ lsAddr ((at_ op 0x30800).pan 0) 0x30800 % 8 ≠ 0) := by decide +kernel

theorem wit_ControlFlowInstructions :
    ((at_ 0x10 0x3FFF).ready 0 0x10 0x3FFF = true ∧ fld 0x3FFF 20 14 = 0) ∧
    ((at_ 0x11 0xFFFF).ready 0 0x11 0xFFFF = true ∧ fld 0xFFFF 20 16 = 0) ∧
    ((at_ 0x12 0x800).ready 0 0x12 0x800 = true ∧ fld 0x800 20 16 = 0 ∧ fld 0x800 10 0 = 0 ∧
      gReg ((at_ 0x12 0x800).pan 0) (fld 0x800 15 11) < 16384) ∧
    ((at_ 0x13 0x2FFFF).ready 0 0x13 0x2FFFF = true ∧
      gReg ((at_ 0x13 0x2FFFF).pan 0) (fld 0x2FFFF 20 16) ≠ 1 ∧ gReg ((at_ 0x13 0x2FFFF).pan 0) (fld 0x2FFFF 20 16) < 2 ^ 64) ∧
    ((at_ 0x13 0xFFFF).ready 0 0x13 0xFFFF = true ∧ fld 0xFFFF 20 16 = 0 ∧ gReg ((at_ 0x13 0xFFFF).pan 0) (fld 0xFFFF 20 16) < 2 ^ 64) ∧
    ((at_ 0x13 0x1FFFF).ready 0 0x13 0x1FFFF = true ∧
      gReg ((at_ 0x13 0x1FFFF).pan 0) (fld 0x1FFFF 20 16) = 1) ∧
    ((at_ 0x52 0).ready 0 0x52 0 = true ∧ fld 0 20 0 = 0) ∧
    ((at_ 0x12 0x1800).ready 0 0x12 0x1800 = true ∧ fld 0x1800 20 16 = 0 ∧ fld 0x1800 10 0 = 0 ∧
      16384 ≤ gReg ((at_ 0x12 0x1800).pan 0) (fld 0x1800 15 11)) := by decide +kernel

theorem wit_StoreInstructionWord :
    (at_ 0x53 0x840).ready 0 0x53 0x840 = true ∧ fld 0x840 20 16 = 0 ∧ fld 0x840 5 0 = 0 ∧
      gReg ((at_ 0x53 0x840).pan 0) (fld 0x840 15 11) < 16384 := by decide +kernel

/-- Context 0 in a state of its harvest. -/
def ctx0 (s : State) (f : Ctx → Ctx) : State := { s with ctxs := f {} :: List.replicate 3 {} }

/-- A Quad-wide harvest lives in context 0. -/
def quadAt (op : Nat) (w : BitVec 25) : State := ctx0 (at_ op w) fun x => { x with st := .gathering, quad := true, mode := 1 }

theorem wit_BlockingInstructions :
    (∀ op ∈ [0x14, 0x35, 0x50], (at_ op 0).ready 0 op 0 = true) ∧ fld 0 20 0 = 0 ∧ ((at_ 0x35 0).pan 0).kq.length < 4 ∧
    ((at_ 0x21 0).ready 0 0x21 0 = true ∧ (at_ 0x21 0).clear 0 (planRecv 0 0 (at_ 0x21 0)) = true) ∧
    ((at_ 0x22 0).ready 0 0x22 0 = true ∧ (at_ 0x22 0).clear 0 (planWaitt 0 0 (at_ 0x22 0)) = true) ∧
    ((quadAt 0x51 0).ready 0 0x51 0 = true ∧ fld 0 15 0 = 0 ∧ (quadAt 0x51 0).quadLive 0 = true) ∧
    ((at_ 0x51 0).ready 0 0x51 0 = true ∧ (at_ 0x51 0).quadLive 0 = false) := by decide +kernel

/-- An item from Pan 1 to channel 0 of Pan 0. -/
def item (token : Bool) : FabItem := ⟨1, 0, some 0, 0, 0, 0, 0, token, [1, 0, 0, 0]⟩

/-- Pan 0 waits in a blocking instruction, with an item on channel 0. -/
def waits (b : Blocked) (token : Bool) : Pan :=
  { st := .running, ctx := some 0, need := 1, blocked := some b, ag := List.replicate 4 { count := 1 }
    rx := [(0, [item token])] }

theorem wit_BlockingInstructionsEnd :
    ((withPan (waits .halt true)).pan 0).st = .running ∧
    (((withPan (waits .halt true)).pan 0).blocked = some .halt ∧ enginesIdle ((withPan (waits .halt true)).pan 0) = true) ∧
    (((withPan (waits .kdrain true)).pan 0).blocked = some .kdrain ∧ ((withPan (waits .kdrain true)).pan 0).kq = []) ∧
    (((withPan (waits .fence true)).pan 0).blocked = some .fence ∧ enginesIdle ((withPan (waits .fence true)).pan 0) = true ∧
      (withPan (waits .fence true)).portIdle 0 = true) ∧
    (((withPan (waits (.fencec 3) true)).pan 0).blocked = some (.fencec 3) ∧ (withPan (waits (.fencec 3) true)).writesOpen 0 = false ∧
      (withPan (waits (.fencec 3) true)).car.job = none) ∧
    (((withPan (waits (.waitt 0 3) true)).pan 0).blocked = some (.waitt 0 3) ∧ ((withPan (waits (.waitt 0 3) true)).pan 0).pq = [] ∧
      rxOf ((withPan (waits (.waitt 0 3) true)).pan 0) 0 = item true :: []) ∧
    (((withPan (waits (.recv 0 1 3) false)).pan 0).blocked = some (.recv 0 1 3) ∧ ((withPan (waits (.recv 0 1 3) false)).pan 0).pq = [] ∧
      rxOf ((withPan (waits (.recv 0 1 3) false)).pan 0) 0 = item false :: [] ∧
      (withPan (waits (.recv 0 1 3) false)).held 0 (rowAddr (agOf ((withPan (waits (.recv 0 1 3) false)).pan 0) 1) 0).toNat
        (padTo (128 * flitsOf (item false).data) (item false).data).length = false) := by decide +kernel

theorem wit_GeneratorInstructions :
    ((at_ 0x18 0x80).ready 0 0x18 0x80 = true ∧ (at_ 0x18 0x80).clear 0 (planAgset 0 0x80 (at_ 0x18 0x80)) = true) ∧
    ((at_ 0x19 0x80).ready 0 0x19 0x80 = true ∧ (at_ 0x19 0x80).clear 0 (planAgscl 0 0x80 (at_ 0x19 0x80)) = true) ∧
    ((at_ 0x1A 0xFFFF).ready 0 0x1A 0xFFFF = true ∧ (at_ 0x1A 0xFFFF).clear 0 (planAgadv 0 0xFFFF (at_ 0x1A 0xFFFF)) = true) := by
  decide +kernel

/-- Settling of a local harvest, at a step, with Pan 0 at a word. -/
def settlingAt (op : Nat) (w : BitVec 25) (step : Nat) : State := ctx0 (at_ op w) fun x => { x with st := .settling, step := step }

theorem wit_EngineInstructionsQueue :
    ((at_ 0x20 0).ready 0 0x20 0 = true ∧ (at_ 0x20 0).clear 0 (planSend 0 0 (at_ 0x20 0)) = true) ∧
    ((at_ 0x23 0).ready 0 0x23 0 = true ∧ (at_ 0x23 0).clear 0 (planSigt 0 0 (at_ 0x23 0)) = true) ∧
    ((at_ 0x40 0).ready 0 0x40 0 = true ∧ (at_ 0x40 0).clear 0 (planGseed 0 0 (at_ 0x40 0)) = true) ∧
    ((at_ 0x41 0x800).ready 0 0x41 0x800 = true ∧ (at_ 0x41 0x800).clear 0 (planGexp 0 0x800 (at_ 0x41 0x800)) = true ∧
      gReg ((at_ 0x41 0x800).pan 0) (fld 0x800 15 11) ≠ 0) ∧
    ((at_ 0x42 1).ready 0 0x42 1 = true ∧ (at_ 0x42 1).clear 0 (planGstream 0 1 (at_ 0x42 1)) = true) ∧
    ((at_ 0x43 0x40).ready 0 0x43 0x40 = true ∧ (at_ 0x43 0x40).clear 0 (planRing false 0 0x40 (at_ 0x43 0x40)) = true) ∧
    ((at_ 0x44 0x40).ready 0 0x44 0x40 = true ∧ (at_ 0x44 0x40).clear 0 (planRing true 0 0x40 (at_ 0x44 0x40)) = true) ∧
    ((at_ 0x45 0x2000).ready 0 0x45 0x2000 = true ∧ (at_ 0x45 0x2000).clear 0 (planCfield 0 0x2000 (at_ 0x45 0x2000)) = true) ∧
    ((settlingAt 0x46 0 2).ready 0 0x46 0 = true ∧ (settlingAt 0x46 0 2).clear 0 (planCnoise 0 0 (settlingAt 0x46 0 2)) = true) ∧
    ((settlingAt 0x47 0 3).ready 0 0x47 0 = true ∧ (settlingAt 0x47 0 3).clear 0 (planCdeq 0 0 (settlingAt 0x47 0 3)) = true) ∧
    ((at_ 0x48 0x800).ready 0 0x48 0x800 = true ∧ (at_ 0x48 0x800).clear 0 (planCfuse 0 0x800 (at_ 0x48 0x800)) = true) := by
  decide +kernel

theorem wit_KettleInstructionsQueue :
    ((at_ 0x30 0x44010).ready 0 0x30 0x44010 = true ∧ (at_ 0x30 0x44010).clear 0 (planKcfg 0 0x44010 (at_ 0x30 0x44010)) = true) ∧
    ((at_ 0x31 0).ready 0 0x31 0 = true ∧ (at_ 0x31 0).clear 0 (planKout 0 0 (at_ 0x31 0)) = true) ∧
    ((at_ 0x32 0).ready 0 0x32 0 = true ∧ (at_ 0x32 0).clear 0 (planKload 0 0 (at_ 0x32 0)) = true) ∧
    ((at_ 0x33 0x1000).ready 0 0x33 0x1000 = true ∧ (at_ 0x33 0x1000).clear 0 (planKrun 0 0x1000 (at_ 0x33 0x1000)) = true) ∧
    ((at_ 0x34 0x10000).ready 0 0x34 0x10000 = true ∧ (at_ 0x34 0x10000).clear 0 (planKpass 0 0x10000 (at_ 0x34 0x10000)) = true) := by
  decide +kernel

theorem wit_SkippedAndUndefinedWords :
    (∀ x ∈ [((0x02 : Nat), (0x200001 : BitVec 25)), (0x0C, 0x220806), (0x02, 0x200000)],
      canIssue ((at_ x.1 x.2).pan 0) false = true ∧ (fetched ((at_ x.1 x.2).pan 0)).head? = some (wordOfOp x.1 x.2) ∧
      pReg ((at_ x.1 x.2).pan 0) (bitsOf (wordOfOp x.1 x.2) 24 22) = bitOf (wordOfOp x.1 x.2) 21) ∧
    (planAlu opAdd 0 0x200001 (at_ 0x02 0x200001)).rsv = true ∧
    ((planCmp 0 0x220806 (at_ 0x0C 0x220806)).rsv = false ∧ (planCmp 0 0x220806 (at_ 0x0C 0x220806)).bad = true) ∧
    ((planAlu opAdd 0 0x200000 (at_ 0x02 0x200000)).rsv = false ∧ (planAlu opAdd 0 0x200000 (at_ 0x02 0x200000)).bad = false) ∧
    (canIssue ((at_ 0x7F 0).pan 0) false = true ∧ (fetched ((at_ 0x7F 0).pan 0)).head? = some (BitVec.toNat (0xFE000000 : BitVec 32)) ∧
      listedOps.contains (BitVec.toNat (0xFE000000 : BitVec 32) / 2 ^ 25) = false) ∧
    ((at_ 0x02 1).ready 0 0x02 1 = true ∧ fld 1 5 0 ≠ 0) := by decide +kernel

/-! ### The image, the fabric, the engines -/

/-- An image command in service, at a phase. -/
def loading (n : Nat) : State := { up with img := { load := some ⟨0, none, 64, [], n, false⟩ } }

/-- Pan 0 quiesces, or has been asked to. -/
def quiescing : State := withPan { st := .quiescing, prior := some .running }

theorem wit_ImageRowsRun :
    ((loading 1).img.load = some ⟨0, none, 64, [], 1, false⟩) ∧
    ((loading 2).img.load = some ⟨0, none, 64, [], 2, false⟩ ∧
      (((loading 2).applyPans none).all fun p => ((loading 2).pan p).st == .quiesced ||
        (((loading 2).pan p).st == .unassigned && !(loading 2).sweep.slice.any fun l => l.pan == p)) = true) ∧
    ((loading 3).img.load = some ⟨0, none, 64, [], 3, false⟩ ∧ (loading 3).fabric.sync = none ∧ (loading 3).sweep.testing = []) ∧
    ((quiescing.pan 0).prior.isSome = true ∧ (quiescing.pan 0).st = .quiescing ∧ (quiescing.pan 0).ret = false ∧
      quiescing.portIdle 0 = true ∧ quiescing.sweep.slice = none) ∧
    ((quiescing.pan 0).st ≠ .quiesced ∧ quiescing.loadOwns 0 = false) := by decide +kernel

/-- An item of a route kind in flight to a Pan whose receive mask and waiting items are given. -/
def fab (kind mask : Nat) (waiting : List FabItem) : State :=
  { withPan { st := .running, ctx := some 0, rxMask := mask, rx := [(0, waiting)] } with
    fabric := { inflight := [{ item false with kind := kind }] } }

theorem wit_FabricRowsRun :
    (∃ s y, State.fabric s = { sync := some y } ∧ s.fabric.sync = some y ∧
      (s.fabric.inflight.any fun i => y.pans.contains i.src) = false) ∧
    ((fab 0 1 []).fabric.inflight[0]? = some (item false) ∧ itemBefore (fab 0 1 []).fabric.inflight 0 (item false) = false ∧
      (fab 0 1 []).strayReason (item false) = none ∧ roomFor ((fab 0 1 []).pan 0) (item false) = true) ∧
    ((fab 0 1 (List.replicate 16 (item false))).strayReason (item false) = none ∧
      roomFor ((fab 0 1 (List.replicate 16 (item false))).pan 0) (item false) = false) ∧
    (fab 0 0 []).strayReason (item false) = some 1 ∧
    ((fab 4 1 []).fabric.inflight[0]? = some { item false with kind := 4 } ∧ ({ item false with kind := 4 } : FabItem).kind ≠ 0) ∧
    (∃ s : State, (s.strayOf 0).last = some 0 ∧ (s.strayOf 0).count ≠ 0 ∧ 0 + 1000 ≤ s.cad.toll) ∧
    ((withPan { routePending := [5] }).pan 0).routePending.contains 5 = true :=
  ⟨⟨{ up with fabric := { sync := some ⟨[0]⟩ } }, ⟨[0]⟩, by decide +kernel⟩, by decide +kernel, by decide +kernel,
    by decide +kernel, by decide +kernel,
    ⟨{ up with fabric := { strays := { last := some 0, count := 1 } :: List.replicate 47 {} }, cad := { toll := 1000 } },
      by decide +kernel⟩, by decide +kernel⟩

/-- An entry of an engine queue, and a running Pan with entries in its queues. -/
def entry (op : EngOp) : EngEntry := { op := op, pc := 0, order := 0, ag := List.replicate 4 { count := 1 } }
def engined (f : Pan → Pan) : State := ctx0 (withPan (f { st := .running, ctx := some 0, need := 16 })) fun x =>
  { x with st := .gathering }

/-- A Pan that adds slot 0 to an accumulator on the chip, or in the Stores. -/
def adding (chip : Bool) : State :=
  ctx0 (withPan { st := .running, ctx := some 0, need := 16, cq := [entry .caddItem], addItems := [0] }) fun x =>
    { x with st := .gathering, onChip := chip }

/-- A Pan whose noise is due. -/
def noisy : State :=
  { ctx0 (withPan { st := .running, ctx := some 0, need := 16, cq := [entry .cnoise], noiseIssued := true }) fun x =>
    { x with st := .settling, step := 2 } with cad := { up.cad with toll := 1000 } }

/-- A noise sample that is ready to be added to word 0. -/
def sampled : State :=
  ctx0 (withPan { st := .running, ctx := some 0, need := 16, cq := [entry .cnoise], noiseIssued := true, sampler := { stage := .done } })
    fun x => { x with st := .settling, step := 2, words := 16 }

/-- A tile that waits for its acknowledgement: of an add, or of an expansion. -/
def tiled (add : Bool) : State := engined fun q => { q with commit := { st := .adding, tile := add }, expandTile := !add }

/-- A KLOAD whose shift-in has started, from Pan memory. -/
def shifting : EngEntry := { entry (.kload 0 0 none) with started := true }

theorem wit_EngineRowsRun :
    (((engined fun q => { q with kq := [entry (.kcfg {})] }).pan 0).kq = [] ++ entry (.kcfg {}) :: [] ∧
      engineRuns ((engined fun q => { q with kq := [entry (.kcfg {})] }).pan 0) = true) ∧
    (let q := ((engined fun q => { q with kq := [shifting] }).updPan 0 pull).pan 0
     q.kq.find? (·.started) = some shifting ∧ fed q shifting = true ∧ engineRuns q = true ∧
      ∀ k, k < 128 → failingIn q [] (rowAddr (entAg shifting 0) k).toNat (operandRowBytes q.kcfg q.kcfg.stat) = []) ∧
    (let s := (engined fun q => { q with gq := [entry (.gseed 0)] }).updPan 0 pull
     engQ (s.pan 0) .grainer = entry (.gseed 0) :: [] ∧ (∃ j, s.workOf { pan := 0, pc := 0, ups := [] } (entry (.gseed 0)) = some j) ∧
      failingIn (s.pan 0) [] 0 32 = []) ∧
    (let s := (engined fun q => { q with kq := [entry (.kout {})] }).updPan 0 pull
     engQ (s.pan 0) .kettle = entry (.kout {}) :: [] ∧ engineRuns (s.pan 0) = true) ∧
    (let s := engined fun q => { q with pq := [entry (.sigt 0 5)], routeCache := [(0, 2 ^ 63)] }
     engQ ((s.updPan 0 pull).pan 0) .port = entry (.sigt 0 5) :: [] ∧ s.fabric.sync = none ∧
      s.mayLeave ((s.updPan 0 pull).itemOf 0 0 true (leBytes 4 5)) = true) ∧
    (engQ ((sampled.updPan 0 pull).pan 0) .crystalliser = entry .cnoise :: [] ∧ (sampled.updPan 0 pull).liveCtx 0 = some 0 ∧
      (sampled.ctx 0).st = .settling ∧ (sampled.ctx 0).onChip = true ∧
      ((sampled.updPan 0 pull).pan 0).noiseNext < ((sampled.updPan 0 pull).sliceOf 0 0).2 ∧
      failingIn ((sampled.updPan 0 pull).pan 0) [] 0 (ringW (sampled.ctx 0) / 8) = []) ∧
    (engQ (((adding true).updPan 0 pull).pan 0) .crystalliser = entry .caddItem :: [] ∧
      ((adding true).updPan 0 pull).addReady 0 = some (0, 0)) ∧
    (let q := ((engined fun q => { q with cq := [entry (.cring false 16 (some 0) 1)], rx := [(0, [item true])] }).updPan 0 pull).pan 0
     (inService q .crystalliser).find? (meetsToken q) = some (entry (.cring false 16 (some 0) 1)) ∧ engineRuns q = true) ∧
    ((0 : Nat) < 8 * 0 + 8 ∧ 8 * 0 < 0 + 32) ∧
    (noisy.liveCtx 0 = some 0 ∧ (noisy.pan 0).cq = entry .cnoise :: [] ∧ engineRuns (noisy.pan 0) = true ∧
      (noisy.ctx 0).st = .settling ∧ (noisy.sliceOf 0 0).2 ≤ (noisy.pan 0).noiseNext ∧
      (noisy.pan 0).noiseStart + noiseTime (noisy.ctx 0).words 0 = noisy.cad.toll) ∧
    ((tiled true).liveCtx 0 = some 0 ∧ ((tiled true).pan 0).commit.tile = true) ∧
    ((tiled false).liveCtx 0 = some 0 ∧ ((tiled false).pan 0).commit.tile = false ∧ ((tiled false).pan 0).expandTile = true) := by
  and_intros <;> first | decide +kernel | exact ⟨_, rfl⟩

/-! ### The Stores, the queues, the Ringer -/

/-- The Stores with a key in force, and a stripe of one pseudo-channel. -/
def stored (k : StoreKey) (n : Nat) : State := { up with stores := { key := k, scrub := n, stripe := [0] } }

theorem wit_StoreRequests :
    ((stored .tenant 0).stores.key ≠ .none ∧ (stored .tenant 0).stores.scrub ≠ 1 ∧ 64 + 64 ≤ (stored .tenant 0).storeBytes ∧
      0 < 64 ∧ 64 % 64 = 0) ∧
    ((stored .none 0).stores.key = .none ∨ (stored .none 0).stores.scrub = 1) ∧
    ((stored .tenant 1).stores.key = .none ∨ (stored .tenant 1).stores.scrub = 1) ∧
    storesCondemned (stored .tenant 0).stores 64 64 = false ∧
    storesCondemned ({ stores := { bad := [1], stripe := [0] } } : State).stores 64 64 = true ∧
    ((0 : Nat) < 64 ∧ (stored .tenant 0).storeBytes < (stored .tenant 0).storeBytes + 64) ∧
    ((1 : Nat) ≤ 1 ∧ 1 < 1 + [(7 : Byte)].length) ∧ ((0 : Nat) < 1 ∨ 1 + [(7 : Byte)].length ≤ 0) := by decide +kernel

/-- A queue with one item, read up to it or past it. -/
def queued (r : Nat) : BQueue := { items := [⟨0x10, 0, 1, 0, 0, [], false⟩], w := 1, r := r, nextSeq := 2 }
def withQueue (b : BQueue) : State := { up with queues := b :: up.queues.drop 1 }

theorem wit_QueueRowsRun :
    (0 < (withQueue (queued 0)).queues.length ∧ (withQueue (queued 0)).queuesOpen = true ∧ 5 < (withQueue (queued 0)).queues.length) ∧
    (queueReader 0 (.host 0) = true ∧ ((withQueue (queued 0)).queue 0).en = true ∧
      ((withQueue (queued 0)).queue 0).r < ((withQueue (queued 0)).queue 0).w - 0 ∧
      ((withQueue (queued 0)).queue 0).items[0 - 0]? = some ⟨0x10, 0, 1, 0, 0, [], false⟩) ∧
    (((withQueue (queued 1)).queue 0).w - 0 ≤ ((withQueue (queued 1)).queue 0).r) ∧
    (bitsOf 0x80010000 30 17 = 0 ∧ bitsOf 0x80010000 15 0 ≤ queueCap 0 ∧ ((0 : Nat) = 6 → up.traceOpen = true)) := by decide +kernel

theorem wit_QueuesStayInOrder :
    queueOk 1 (queued 0) ∧ ((queued 0).en = true ∧ (queued 0).items.length = 1) ∧ queueOk 2 (queued 1) ∧
    ((queued 1).en = true ∧ (queued 1).items.length < 2) ∧ (queueOk 2 { queued 0 with en := false }) ∧
    (queueOk 1 { queued 0 with m := some 0 } ∧ ({ queued 0 with m := some 0 } : BQueue).m = some (queued 0).f) ∧
    (queueOk 2 { queued 1 with m := some 0 } ∧ ({ queued 1 with m := some 0 } : BQueue).m = some 0 ∧ (queued 1).f ≤ 0) := by
  simp only [queueOk]; refine ⟨?_, ?_, ?_, ?_, ?_, ?_, ?_⟩ <;> decide +kernel

/-- Thread 3 in a state of Table QUE-5, running on Steward 0 where it runs. -/
def threaded (t : Thread) (cur : Option Nat) : State :=
  { up with ringer := { threads := List.replicate 3 {} ++ [t] ++ List.replicate 252 {}
                        stewards := { cur := cur } :: List.replicate 3 {} } }

/-- One item waits in class A, or is in service under handle 5. -/
def work (h : Option Nat) : WorkItem := ⟨0, 0, 0, 0, 0, [], 0, h, none⟩
def working (l : List WorkItem) : State := { up with ringer := { items := l } }

theorem wit_RingerRowsRun :
    up.ringerOpen = true ∧ (up.thread 3).st ≠ .running ∧
    (runningOn (threaded { st := .running } (some 3)) 0 3 = true ∧ 0 ≤ up.cad.toll ∧ up.cad.toll < 1) ∧
    ((up.stew 0).cur = none ∧ readyHead (threaded { st := .ready } none) 0 = some 3 ∧
      ((threaded { st := .ready } none).stew 0).cur = none ∧ 0 < up.ringer.stewards.length) ∧
    nextItem (working [work none]).ringer.items (1 % 8) = some (work none) ∧
    (((working [work (some 5)]).ringer.items.find? fun i => i.handle == some 5) = some (work (some 5)) ∧ (work (some 5)).cls ≠ 1) ∧
    ((working [work (some 5)]).ringer.items.find? fun i => i.handle == some 6) = none ∧
    (bitsOf (leAt [] 0 4) 21 20 ≠ 3 ∧
      noPlace (working []).ringer.items (bitsOf (leAt [] 0 4) 21 20) (bitsOf (leAt [] 0 4) 19 0) = false ∧
      ∃ n, noPlace (working (List.replicate n (work none))).ringer.items (bitsOf (leAt [] 0 4) 21 20) (bitsOf (leAt [] 0 4) 19 0) = true) ∧
    (((threaded { st := .delayed } none).thread 3).st = .delayed ∧
      ((threaded { st := .delayed } none).thread 3).wake ≤ (threaded { st := .delayed } none).cad.toll) := by
  and_intros <;> first | decide +kernel | exact ⟨4096, by decide +kernel⟩

/-! ### Keyhold -/

/-- KEYREG held by holder 1 with a key for the engines of a mask; a pool that is full, with streams that are due; a curve
engine whose units all work. -/
def keyed (d : Nat) : State :=
  { up with keyhold := { keyreg := { key := List.replicate 32 7, attr := { dest := d, encrypt := true }, holder := some 1 } } }
def sourced : State :=
  { up with keyhold := { credit := 384, streams := List.replicate 49 { inst := true, due := some 0, waitSince := some 0 } }
            cad := { toll := 10000000 } }
def curving : State := { up with keyhold := { curveUnits := List.replicate 9 (some { op := .x25519, tag := 1 }) } }

theorem wit_KeyholdRowsRun :
    (up.keyRuns = true ∧ (keyed 1).keyRuns = true ∧ sourced.keyRuns = true ∧ curving.keyRuns = true) ∧ up.keyregFor 1 = true ∧ (keyed 1).keyregFor 2 = false ∧
    ((keyed 1).keyhold.keyreg.holder = some 1 ∧ 0 < slotCount 4 ∧ mayDeliver (keyed 1).keyhold.keyreg.attr 4 = false) ∧
    (0 < slotCount 0 ∧ mayDeliver (keyed 1).keyhold.keyreg.attr 0 = true ∧ (keyed 1).keyhold.keyreg.attr.lifetime = 0) ∧
    (narrows (keyed 1).keyhold.keyreg.attr (keyed 3).keyhold.keyreg.attr = false ∧
      narrows (keyed 1).keyhold.keyreg.attr (keyed 0).keyhold.keyreg.attr = true) ∧
    up.freeUnit .x25519 = some 0 ∧ curving.freeUnit .x25519 = none ∧
    curving.keyhold.curveUnits.getD 0 none = some { op := .x25519, tag := 1 } ∧
    (384 ≤ sourced.keyhold.credit ∧ sourced.longestDue = some 0) ∧
    ((sourced.stream 0).waitSince = some 0 ∧ 0 + 10000000 * ((sourced.stream 0).raised + 1) ≤ sourced.cad.toll) := by
  decide +kernel

/-! ### The mailbox -/

/-- An image in force that gives context 0 a program and a WEIGHTS partition. -/
def image : Loaded :=
  { header := [], records := [], policy := List.replicate 256 0, layout := List.replicate 4096 0xFF, routes := [(0, [])], programs := [(0, [])]
    consts := [], meas := [], polMeas := [] }

/-- The host's functions reach the device: in a device state, with bus mastering and an image, context 0 as given. -/
def hosted (x : DevState) (c : CtxState) : State :=
  { ctx0 (inState x) fun y => { y with st := c } with
    img := { st := 2, loaded := some image, placed := image.layout }, fns := { bme := true } :: List.replicate 3 {} }

theorem wit_MailboxCommandsRun :
    ((hosted .tenantedIdle .closed).serves 0 .tenantLeave = true ∧ (hosted .running .gathering).serves 0 .tallyFreeze = true ∧
      (hosted .running .tallied).serves 0 .settle = true ∧ (hosted .running .gathering).serves 0 .harvestVoid = true ∧
      (hosted .running .released).serves 0 .harvestClose = true ∧ (hosted .running .closed).serves 0 .quadDissolve = true ∧
      (hosted .tenantedIdle .closed).serves 0 .muffle = true ∧ (hosted .muffled .closed).serves 0 .wake = true ∧
      (hosted .running .closed).serves 0 (.quadForm 15) = true ∧
      (hosted .running .released).serves 0 (.releaseFetch 64 64 4096 64) = true) ∧
    ((hosted .untenanted .closed).serves 0 (.enrollTenant 64 240) = true ∧
      (hosted .running .closed).serves 0 (.weightsLoad 64 4096) = true ∧ (hosted .running .closed).serves 0 (.harvestOpen 64 128) = true ∧
      (hosted .running .opened).serves 0 (.rosterLoad 64 4096) = true ∧ (hosted .running .closed).serves 0 (.debugUnlock 64 192) = true ∧
      (hosted .running .closed).serves 0 (.attest 4096 24576 16 64) = true ∧
      (hosted .running .gathering).serves 0 (.hostIngest 64 4096 1 8192 0) = true ∧
      (hosted .running .gathering).serves 0 (.hostIngest 64 4096 1 0 1) = true ∧
      (hosted .running .tallied).serves 0 (.sharesSubmit 64 4096 1024 8192) = true) ∧
    ((hosted .tenantedIdle .closed).serves 0 (.imageLoad 64 (2 ^ 29)) = true ∧ (hosted .tenantedIdle .closed).imgGate none = none ∧
      (2 : Nat) ^ 29 ≤ 2 ^ 29) ∧
    ((hosted .running .closed).serves 0 (.imagePartial 64 64 0) = true ∧ (hosted .running .closed).imgGate (some 0) = none) := by
  decide +kernel

/-- Function 0 serves a command. -/
def serving (x : DevState) (c : CtxState) (h : HostCmd) : State :=
  { hosted x c with fns := { bme := true, serving := some { cmd := h, seq := 0 } } :: List.replicate 3 {} }

/-- A keyed blob's header, for 16 bytes at offset 0 of WEIGHTS. -/
def blob : Bytes := [0x56, 0x5A, 0x57, 0x42, 1, 0, 1, 1] ++ leBytes 8 1 ++ leBytes 8 0 ++ leBytes 8 16 ++ leBytes 4 1 ++ List.replicate 28 0

/-- Context 0 released, with a result and a certificate. -/
def releasedCtx : State :=
  { serving .running .released (.releaseFetch 64 1 128 1) with
    ctxs := { st := .released, result := [1], cert := [2] } :: List.replicate 3 {} }

theorem wit_MailboxCommandEffects :
    ((∃ v, ((serving .running .closed .settle).fn 0).serving = some v) ∧ 0 < (serving .running .closed .settle).fns.length ∧
      0 < (serving .running .closed .settle).ctxs.length) ∧
    ((serving .tenantedIdle .closed .muffle).dev.st = .tenantedIdle ∧ (serving .tenantedIdle .closed .muffle).img.load = none ∧
      (serving .tenantedIdle .closed .muffle).dev.switch = none ∧ (serving .tenantedIdle .closed .muffle).power.vddc = .good ∧
      ({ serving .tenantedIdle .closed .muffle with power := { up.power with vddc := .off } } : State).power.vddc = .off) ∧
    ((serving .muffled .closed .wake).dev.st = .muffled ∧ (serving .muffled .closed .wake).dev.wake = none ∧
      (serving .muffled .closed .wake).dev.switch = none ∧ (serving .muffled .closed .wake).dev.muffledTamper = false ∧
      (serving .muffled .closed .wake).toc.burning = false) ∧
    (loading 0).img.load = some ⟨0, none, 64, [], 0, false⟩ ∧
    ((serving .running .closed (.harvestOpen 0 128)).car.job = none ∧ hvMode (blockCtx (List.replicate 128 0)) = 0) ∧
    (((serving .running .opened (.rosterLoad 0 64)).ctx 0).quad = false ∧
      ((serving .running .opened (.rosterLoad 0 64)).ctx 0).st = .opened) ∧
    (((serving .running .gathering .tallyFreeze).ctx 0).st = .gathering ∧ ((serving .running .gathering .tallyFreeze).ctx 0).quad = false ∧
      paused ((serving .running .gathering .tallyFreeze).ctx 0) = false ∧
      ctxLive ((serving .running .gathering .harvestVoid).ctx 0).st = true ∧
      hvMode ((serving .running .gathering .harvestVoid).ctx 0) = 0) ∧
    ((serving .running .unmasking .settle).ctx 0).st = .unmasking ∧
    ((releasedCtx.ctx 0).st = .released ∧ (releasedCtx.fn 0).bme = true ∧ (releasedCtx.ctx 0).result ≠ [] ∧ (releasedCtx.ctx 0).cert ≠ [] ∧
      (releasedCtx.ctx 0).result.length ≤ 1 ∧ (releasedCtx.ctx 0).cert.length ≤ 1 ∧
      storesCondemned releasedCtx.stores (releasedCtx.partBase 0 0) (releasedCtx.ctx 0).result.length = false) ∧
    (serving .running .closed (.weightsLoad 64 176)).weightsFail 0 176 blob = none ∧
    ((serving .running .closed (.quadForm 3)).formGate 0 3 = none ∧ (serving .running .closed (.quadForm 3)).car.forming = none) ∧
    (∃ s : State, (s.fn 0).serving = some { cmd := .quadDissolve, seq := 0 } ∧ s.car.formed = true ∧ s.car.job = none ∧
      (s.ctxs.any fun x => x.quad && ctxLive x.st) = false) := by
  and_intros <;> first
    | decide +kernel
    | exact ⟨_, rfl⟩
    | exact ⟨{ serving .running .closed .quadDissolve with car := { formed := true } }, by decide +kernel⟩

/-- Function 0 with an entry, a limit, a cache or a serving of its own. -/
def function (f : Fn) : State := { up with fns := f :: List.replicate 3 {} }
def served : Served := ⟨3, 0x30, 0, []⟩
def awaiting (r : Bool) : Serving := { cmd := .enrollTenant 64 240, seq := 0, awaitDma := true, retried := r }

theorem wit_MailboxRowsRun :
    (up.hostReaches 0 = true ∧ ringBase ≤ ringBase + 4032 ∧ ringBase + 4032 + (List.replicate 64 (1 : Byte)).length ≤ ringBase + 4096 ∧
      List.replicate 64 (1 : Byte) ≠ [] ∧ (ringBase + 4032) % 4 = 0 ∧ (List.replicate 64 (1 : Byte)).length % 4 = 0) ∧
    ((up.fn 0).limit = none ∧ 0 < (63 + 1 + 2 ^ 32 - (up.fn 0).expect) % 2 ^ 32 ∧ (63 + 1 + 2 ^ 32 - (up.fn 0).expect) % 2 ^ 32 ≤ 64) ∧
    64 < (64 % 2 ^ 32 + 1 + 2 ^ 32 - (up.fn 0).expect) % 2 ^ 32 ∧
    ((2 ^ 32 - 1) % 2 ^ 32 + 1 + 2 ^ 32 - (up.fn 0).expect) % 2 ^ 32 = 0 ∧
    (((function { expect := 4, cache := [served] }).fn 0).serving = none ∧ ((function { expect := 4, cache := [served] }).fn 0).parked = [] ∧
      ((function { expect := 4, cache := [served] }).fn 0).cache.find? (fun r => r.seq == 3) = some served ∧
      1 ≤ (((function { expect := 4, cache := [served] }).fn 0).expect + 2 ^ 32 - 3) % 2 ^ 32 ∧
      (((function { expect := 4, cache := [served] }).fn 0).expect + 2 ^ 32 - 3) % 2 ^ 32 ≤ 64) ∧
    ((up.fn 0).serving = none ∧ (up.fn 0).parked = [] ∧ (up.fn 0).cache.find? (fun r => r.seq == 3) = none) ∧
    (∀ r, ((function { serving := some (awaiting r) }).fn 0).serving = some (awaiting r) ∧ (awaiting r).awaitDma = true ∧
      readOf (awaiting r).cmd = some (64, 240) ∧ (awaiting r).retried = r) ∧
    (up.pcieAnswers = true ∧ (0 : Nat) < up.fns.length ∧ 0 < up.queues.length ∧ 0 < up.ctxs.length) ∧
    (ctxLive (up.ctx 0).st = false ∧ ctxLive ((hosted .running .gathering).ctx 0).st = true ∧
      ((hosted .running .gathering).fn 0).serving = none ∧ ((hosted .running .gathering).ctx 0).quad = false) := by
  and_intros <;> decide +kernel

/-! ### The harvest -/

/-- A parameter block of one slot, with K and T. -/
def params (k t : Nat) : Bytes :=
  List.replicate 31 0 ++ [1] ++ leBytes 4 1 ++ leBytes 4 0 ++ leBytes 2 k ++ leBytes 2 t ++ List.replicate 84 0

/-- SHA-256 of 32 zero bytes (FIPS 180-4). -/
def zeroCommit : Bytes :=
  [0x66, 0x68, 0x7a, 0xad, 0xf8, 0x62, 0xbd, 0x77, 0x6c, 0x8f, 0xc1, 0x8b, 0x8e, 0x9f, 0x8e, 0x20, 0x08, 0x97, 0x14, 0x85, 0x6e,
   0xe2, 0x33, 0xb3, 0x90, 0x2a, 0x59, 0x1d, 0x0d, 0x5f, 0x29, 0x25]

/-- A context whose one slot has a ledger byte and a seed commitment. -/
def slotted (st : CtxState) (k t b : Nat) (commit : Bytes) : Ctx :=
  { st := st, block := params k t, roster := List.replicate 136 0 ++ commit ++ List.replicate (4 * k) 0, ledger := [(0, b)], words := 1 }

/-- Pan 0 as given, context 0 as given. -/
def harvest (q : Pan) (c : Ctx) : State := { withPan q with ctxs := c :: List.replicate 3 {} }

def zeroShare (x : Nat) : Share := ⟨0, 0, 0, x, List.replicate 40 0⟩
def stagedSlot : SlotCtx := ⟨0, [], [], [], [], [], 1, 0, 8192, [], none⟩
def own (c : Commit) : Pan := { st := .running, ctx := some 0, need := 16, commit := c }

/-- Slot 0 is being added: its part staged, the Pan's record as given, a data unit of its chunk condemned. -/
def inAdd (c : Commit) : State :=
  { harvest (own c) { slotted .gathering 0 0 1 [] with slots := [stagedSlot], adds := [{ slot := 0, issued := true }] } with
    stores := { bad := [0] } }

/-- Slot 0's secret is to be reconstructed from two shares, T being 1; an attempt may be at work on the first. -/
def recon (t : Nat) (commit : Bytes) (r : Option (List Nat)) : State :=
  harvest { own {} with recon := r.map fun _ => { owner := 0, set_ := [(1, List.replicate 40 0)] } } { slotted .unmasking 2 t 6 commit with
    shares := [zeroShare 1, zeroShare 2], recons := [{ owner := 0, attempts := 1, running := r }] }

/-- What the attempt at work gives. -/
def attempted (s : State) : Option Bytes := (s.pan (s.reconPan 0 0)).recon.bind fun r => joinLimbs r.set_

/-- A mask is to be issued, or to be expanded. -/
def verified : State :=
  harvest (own {}) { slotted .unmasking 0 0 0x12 [] with recons := [{ owner := 0, secret := some (List.replicate 32 0) }] }
def expandsOn : State :=
  harvest { own {} with gq := [entry (.gexp 1)], cq := [entry .gexpLane], seedQ := [⟨[], false, 1⟩] } { slotted .unmasking 0 0 0x12 [] with words := 0 }

/-- The harvest settles at a step. -/
def settles (n : Nat) : State := harvest (own {}) { slotted .settling 0 0 2 [] with step := n, words := 0 }

/-- A step report of step 2. -/
def report : Bytes := leBytes 4 0x100 ++ [2] ++ List.replicate 27 0

theorem wit_HarvestRowsRun :
    (((settles 6).pansOf 0).contains 0 = true ∧ ((settles 6).ctx 0).st = .settling ∧ ((settles 6).ctx 0).step = 6 ∧
      ((settles 6).ctx 0).assay = none) ∧
    (let s := inAdd { st := .done }
     ctxLive (s.ctx 0).st = true ∧ (addEntry (s.ctx 0) 0).issued = true ∧ (slotCtx (s.ctx 0) 0).isSome = true ∧ s.allDone 0 0 = true ∧
      (s.ctx 0).quad = false ∧ 0 < s.ctxs.length ∧ homedHere (s.ctx 0) 0 = true ∧ tallyOk (s.ctx 0) 0 none = true ∧
      tallyOk (s.ctx 0) 0 (some (0, .lasting)) = false) ∧
    (let s := inAdd { st := .backout }
     slotCtx (s.ctx 0) 0 = some stagedSlot ∧ s.chunkLost stagedSlot 0 = true ∧ s.backoutHeld 0 0 = false ∧
      ((s.pansOf 0).any fun p => (s.pan p).commit.slot == 0 && (s.pan p).commit.st == .backout) = true ∧ stagedSlot.last = none) ∧
    ((verified.ctx 0).st = .unmasking ∧ paused (verified.ctx 0) = false ∧ verified.reconstructs 0 = true ∧ verified.sumsMerged 0 = true ∧
      allResolved (verified.ctx 0) = true ∧ verified.seedRoom 0 = true ∧ nextMask (verified.ctx 0) = some (0, 0, List.replicate 32 0) ∧
      hvMode (verified.ctx 0) ≠ 1) ∧
    (up.expandEntry 0 []).1 = none ∧
    ((expandsOn.expandEntry 0 []).1.any fun e =>
      let t := (expandsOn.expandEntry 0 []).2
      ((t.updCtx e.1 fun x => maskDone x e.2 t.power.pos 0).feedSeed e.1).reconstructs e.1) = true ∧
    (((recon 1 [] none).ctx 0).st = .unmasking ∧ (recon 1 [] none).reconstructs 0 = true ∧ (recon 1 [] none).sumsMerged 0 = true ∧
      0 < rosterN ((recon 1 [] none).ctx 0) ∧ isNeeded ((recon 1 [] none).ctx 0) 0 = true ∧
      isResolved ((recon 1 [] none).ctx 0) 0 = false ∧
      (((recon 1 [] none).ctx 0).recons.any fun r => r.running.isSome && (recon 1 [] none).reconRank 0 r.owner == (recon 1 [] none).reconRank 0 0) =
        false ∧
      nextAttempt ((recon 1 [] none).ctx 0) 0 (reconOf ((recon 1 [] none).ctx 0) 0).attempts = some (2, [zeroShare 2])) ∧
    (isNeeded ((recon 3 [] none).ctx 0) 0 = true ∧ isResolved ((recon 3 [] none).ctx 0) 0 = false ∧
      nextAttempt ((recon 3 [] none).ctx 0) 0 (reconOf ((recon 3 [] none).ctx 0) 0).attempts = none) ∧
    (((recon 1 zeroCommit (some [1])).ctx 0).st = .unmasking ∧ (reconOf ((recon 1 zeroCommit (some [1])).ctx 0) 0).running.isSome = true ∧
      tallyOk ((recon 1 zeroCommit (some [1])).ctx 0) 0 none = true ∧
      tallyOk ((recon 1 zeroCommit (some [1])).ctx 0) 0 (some (0, .transient)) = false) ∧
    (attempted (recon 1 zeroCommit (some [1]))).any ((recon 1 zeroCommit (some [1])).verifies 0 0) = true ∧
    ((attempted (recon 1 [1] (some [1]))).any ((recon 1 [1] (some [1])).verifies 0 0) = false ∧
      (nextAttempt ((recon 1 [1] (some [1])).ctx 0) 0 (reconOf ((recon 1 [1] (some [1])).ctx 0) 0).attempts).isSome = true) ∧
    (let s := harvest (own {}) { slotted .gathering 0 0 0 [] with freezing := true }
     (s.ctx 0).st = .gathering ∧ (s.ctx 0).freezing = true ∧ 0 < rosterN (s.ctx 0) ∧ pastFreeze (s.ctx 0) 0 = false ∧
      s.flowHeld 0 0 = false ∧ s.flowItems (flowId 0 0) = [] ∧ tallyOk (s.ctx 0) 0 none = true ∧
      tallyOk (s.ctx 0) 0 (some (7, .lasting)) = false) ∧
    (isAdded (slotted .gathering 0 0 2 []) 0 = true ∧ isAdded (slotted .gathering 0 0 1 []) 0 = false ∧
      homedHere (slotted .gathering 0 0 1 []) 0 = true) ∧
    (let s := harvest (own {}) { slotted .tallied 0 0 2 [] with windowOn := true }
     (s.ctx 0).st = .tallied ∧ (s.ctx 0).windowOn = true ∧ (s.ctx 0).windowLeft = 0 ∧ paused (s.ctx 0) = false) ∧
    (((settles 2).ctx 0).st = .settling ∧ ((settles 2).ctx 0).hold = 0 ∧ 2 ≤ ((settles 2).ctx 0).step ∧ ((settles 2).ctx 0).step ≤ 6 ∧
      (settles 2).reportOk 0 (padTo 32 report) = true ∧ ((settles 2).pansOf 0).contains 0 = true ∧
      (settles 2).reportFits 0 0 (padTo 32 report) = true ∧
      (((settles 2).ctx 0).reports.map fun e => leAt e.2.2 16 4).sum + leAt (padTo 32 report) 16 4 ≤ 2 ^ 31 ∧
      (((settles 2).ctx 0).reports.any fun e => e.1 == (settles 2).power.pos && e.2.1 == 0) = false ∧ ((settles 2).ctx 0).quad = false) ∧
    ((settles 8).settles 0 = true ∧ ((settles 8).ctx 0).step = 8 ∧ (settles 8).resultData 0 = some [] ∧
      ((slotList ((settles 8).ctx 0)).all fun i => tallyOk ((settles 8).ctx 0) i none) = true ∧
      ((slotList ((settles 8).ctx 0)).all fun i => tallyOk ((settles 8).ctx 0) i (some (0, .lasting))) = false) := by
  and_intros <;> decide +kernel

/-! ### The Inlets -/

/-- Port 0 is UP with MAC address 02:00:00:00:00:01, 10.0.0.1 and fe80::1. -/
def netted : State :=
  { up with
    inlets := { ports := { link := 2 } :: List.replicate 3 {} }
    regs := [(.inlMac, 0, 0x1020000000001), (.inlIpv4, 0, 0x0A000001), (.inlIpv60, 0, 0xFE800000), (.inlIpv63, 0, 1), (.inlPctl, 0, 7)] }

/-- A frame with its check sequence, padded to the least length. -/
def fcs (b : Bytes) : Bytes := padTo (max 60 b.length) b ++ leBytes 4 (crc32 (padTo (max 60 b.length) b))

/-- An ARP request (RFC 826), a Neighbour Solicitation (RFC 4861), an echo request (RFC 792), and a PROBE in UDP, to port 0. -/
def arpFrame : Bytes :=
  fcs [255, 255, 255, 255, 255, 255, 2, 0, 0, 0, 0, 2, 8, 6, 0, 1, 8, 0, 6, 4, 0, 1, 2, 0, 0, 0, 0, 2, 10, 0, 0, 2, 0, 0, 0, 0, 0, 0,
    10, 0, 0, 1]
def ndFrame : Bytes :=
  fcs ([51, 51, 255, 0, 0, 1, 2, 0, 0, 0, 0, 2, 134, 221, 96, 0, 0, 0, 0, 24, 58, 255, 254, 128, 0, 0, 0, 0, 0, 0, 0, 0, 0, 0, 0, 0, 0,
    2, 255, 2, 0, 0, 0, 0, 0, 0, 0, 0, 0, 1, 255, 0, 0, 1, 135, 0, 125, 162, 0, 0, 0, 0, 254, 128] ++ List.replicate 13 0 ++ [1])
def echoFrame : Bytes :=
  fcs [2, 0, 0, 0, 0, 1, 2, 0, 0, 0, 0, 2, 8, 0, 69, 0, 0, 28, 0, 0, 0, 0, 64, 1, 102, 223, 10, 0, 0, 2, 10, 0, 0, 1, 8, 0, 247, 253, 0,
    1, 0, 1]
def probeFrame : Bytes :=
  fcs ([2, 0, 0, 0, 0, 1, 2, 0, 0, 0, 0, 2, 8, 0, 69, 0, 0, 92, 0, 0, 0, 0, 64, 17, 102, 143, 10, 0, 0, 2, 10, 0, 0, 1, 16, 0, 160, 40, 0,
    72, 0, 0, 86, 90, 1, 5, 0, 64] ++ List.replicate 58 0)

/-- What port 0 takes from a frame, once it has passed the MAC. -/
def kindOf (f : Bytes) : Option RxKind := (netted.l2Ok 0 f true).map fun e => (netted.rxKind 0 e).1

/-- A chunk 0 of slot 0, with its encapsulated key, and a frame that carries it. -/
def chunkBytes : Bytes := [0x56, 0x5A, 1, 1] ++ List.replicate 43 0 ++ [1, 9] ++ List.replicate 63 0
def chunkFrame (h : Option (Bytes × Bytes × Bytes)) : Frame :=
  { id := 7, port := 0, ctx := 0, slot := 0, share := false, bytes := chunkBytes, hpke := h }

/-- Frame 7 awaits its decision in a context. -/
def chunked (c : Ctx) (h : Option (Bytes × Bytes × Bytes)) : State :=
  { harvest (own {}) c with inlets := { frames := [chunkFrame h] } }

def chunkStep (c : Ctx) (h : Option (Bytes × Bytes × Bytes)) : Nat :=
  match (chunked c h).chunkRows (chunkFrame h) with
  | .refuse .. => 0 | .resend _ => 1 | .setup => 2 | .open_ .. => 3

/-- A share batch of one record for slot 0, sealed under a key of zeros; frame 7 carries it. -/
def batchHead : Bytes := [0x56, 0x5A, 1, 2] ++ List.replicate 36 0 ++ [9] ++ List.replicate 31 0
def batchFrame (ct : Bytes) : Frame :=
  { id := 7, port := 0, ctx := 0, slot := 0, share := true, bytes := batchHead ++ ct, hpke := some ([], List.replicate 12 0, []) }
def batched (ct : Bytes) (c : Ctx) : State := { harvest (own {}) c with inlets := { frames := [batchFrame ct] } }
def oneShare : Bytes := Crypto.gcmSeal [] (Crypto.hpkeNonce (List.replicate 12 0) 0) [] (List.replicate 56 0)

theorem slice_append (h x : Bytes) (o n : Nat) (k : o + n ≤ h.length) : slice (h ++ x) o n = slice h o n := by
  unfold slice
  rw [List.drop_append_of_le_length (by omega), List.take_append_of_le_length (by rw [List.length_drop]; omega)]

theorem batch_type (ct : Bytes) : vfType (batchHead ++ ct) = 2 := rfl

theorem batch_cipher (ct : Bytes) : vfCipher (batchHead ++ ct) = ct := by
  rw [vfCipher, batch_type, if_pos rfl]; exact List.drop_left' rfl

theorem batch_enc (ct : Bytes) : vfEnc (batchHead ++ ct) = slice batchHead 40 32 := by
  rw [vfEnc, batch_type, if_neg (by decide), slice_append batchHead _ 40 32 (by decide)]

theorem batch_opens : Crypto.gcmOpen [] (Crypto.hpkeNonce (List.replicate 12 0) 0) [] (vfCipher (batchFrame oneShare).bytes) =
    some (List.replicate 56 0) := by
  rw [batchFrame, batch_cipher]; exact gcmOpen_gcmSeal _ _ _ _

theorem batchFail_congr (s : State) (f g : Frame) (hc : f.ctx = g.ctx) (hs : f.slot = g.slot) (hh : vfHid f.bytes = vfHid g.bytes)
    (he : vfEnc f.bytes = vfEnc g.bytes) : s.batchFail f = s.batchFail g := by
  unfold State.batchFail State.sameHarvest; rw [hc, hs, hh, he]

theorem batch_passes (ct : Bytes) : (batched ct (slotted .tallied 0 0 2 [])).batchFail (batchFrame ct) = none := by
  have e : (batched ct (slotted .tallied 0 0 2 [])).batchFail (batchFrame []) =
      (harvest (own {}) (slotted .tallied 0 0 2 [])).batchFail (batchFrame []) := rfl
  rw [batchFail_congr _ (batchFrame ct) (batchFrame []) rfl rfl
    ((slice_append batchHead _ 16 16 (by decide)).trans (slice_append batchHead _ 16 16 (by decide)).symm)
    ((batch_enc _).trans (batch_enc _).symm), e]
  decide +kernel

/-- A frame waits on port 0 for the credits that a full queue of ATOMIC items keeps. -/
def crowded : State :=
  { up with ringer := { items := List.replicate 4096 (work none) }
            inlets := { ports := { link := 2, waiting := [chunkFrame none] } :: List.replicate 3 {} } }

theorem wit_InletRowsRun :
    ((netted.port 0).link = 2 ∧ (((((netted.updPort 0 (portNow netted.second)).count .inlRxFrames 0 1).count .inlRxBytes 0 110).retryCredits).port
      0).taken < 100000000) ∧
    (kindOf arpFrame = some .arp ∧ kindOf ndFrame = some .nd ∧ kindOf echoFrame = some .echo ∧ kindOf probeFrame = some .vezil ∧
      ((netted.l2Ok 0 probeFrame true).bind fun e => (netted.udpIn 0 e).map fun v => vfOk [1, 2, 5] v.2) = some true) ∧
    ((chunked {} none).frameOf 7 = some (chunkFrame none) ∧ (chunkFrame none).share = false ∧
      (chunked {} none).frameTurn (chunkFrame none) = true ∧ chunkStep {} none = 0 ∧
      ((chunked {} none).sameHarvest (chunkFrame none) && ctxLive ((chunked {} none).ctx 0).st &&
        !tallyOk ((chunked {} none).ctx 0) 0 none) = false) ∧
    (let s := chunked (slotted .gathering 0 0 2 []) none
     s.frameTurn (chunkFrame none) = true ∧ s.sameHarvest (chunkFrame none) = true ∧ ctxLive (s.ctx 0).st = true ∧
      tallyOk (s.ctx 0) 0 (some (1, .lasting)) = false) ∧
    chunkStep { slotted .gathering 0 0 2 [] with receipts := [(0, [1])] } none = 1 ∧
    (chunkStep (slotted .gathering 0 0 0 []) none = 2 ∧ (chunked (slotted .gathering 0 0 0 []) none).keyhold.keyreg.holder = none) ∧
    chunkStep (slotted .gathering 0 0 0 []) (some ([1], [2], [3])) = 3 ∧
    ((batched [] {}).frameOf 7 = some (batchFrame []) ∧ (batchFrame []).share = true ∧ (batched [] {}).frameTurn (batchFrame []) = true ∧
      ((batched [] {}).batchFail (batchFrame [])).isSome = true) ∧
    ((batched oneShare (slotted .tallied 0 0 2 [])).frameOf 7 = some (batchFrame oneShare) ∧
      (batched oneShare (slotted .tallied 0 0 2 [])).frameTurn (batchFrame oneShare) = true ∧
      (batched oneShare (slotted .tallied 0 0 2 [])).batchFail (batchFrame oneShare) = none ∧
      Crypto.gcmOpen [] (Crypto.hpkeNonce (List.replicate 12 0) 0) [] (vfCipher (batchFrame oneShare).bytes) =
        some (List.replicate 56 0)) ∧
    ((List.replicate 56 (0 : Byte)).length = 56 ∧ tallyOk (slotted .tallied 0 0 2 []) 0 none = true ∧
      tallyOk (slotted .tallied 0 0 2 []) 0 (some (0, .transient)) = false) ∧
    ((netted.port 0).loopbackFail = false ∧ bitOf (netted.reg .inlPctl 0) 0 = true ∧ 9 ≤ netted.dev.bootStep ∧ 0 ≠ (netted.port 0).link) ∧
    (let s : State := { hosted .running .gathering with cad := { running := true, toll := 1000000 } }
     s.second ≠ s.inlets.statsAt ∧ 0 < s.ctxs.length ∧ ctxLive (s.ctx 0).st = true) ∧
    (crowded.retryCredits.port 0).waiting = chunkFrame none :: [] := by
  refine ⟨?_, ?_, ?_, ?_, ?_, ?_, ?_, ?_, ⟨rfl, rfl, batch_passes _, batch_opens⟩, ?_, ?_, ?_, ?_⟩ <;> decide +kernel

/-! ### Carillon -/

/-- A position of a formed Quad of four, link 0 in a state of its own, the others UP. -/
def member (pos st : Nat) : State :=
  { up with power := { up.power with pos := pos }
            car := { formed := true, members := 15, links := [{ st := st, sinceBatch := 1, replay := [⟨1, 0, [], 0⟩] }, { st := 2 }, { st := 2 }] } }

/-- A flit with its check code over the header's upper bits and the payload. -/
def flit (v : Nat) : Bytes :=
  leBytes 3 (crc24 ((leBytes 8 v).drop 3 ++ List.replicate 192 0)) ++ (leBytes 8 v).drop 3 ++ List.replicate 192 0

/-- CRC-24 goes on from where the bytes before left it. -/
def crcFrom (c : Nat) (bs : Bytes) : Nat :=
  bs.foldl (fun c b =>
    (List.range 8).foldl (fun c _ => let c := c * 2; if bitOf c 24 then c ^^^ 0x1864CFB else c) (c ^^^ (b.toNat * 2 ^ 16))) c

theorem crcFrom_append (c : Nat) (a b : Bytes) : crcFrom c (a ++ b) = crcFrom (crcFrom c a) b := List.foldl_append

def z32 : Bytes := List.replicate 32 0

theorem crc_zeros : crc24 (List.replicate 197 0) = 2475555 := by
  have h : List.replicate 197 (0 : Byte) = z32 ++ (z32 ++ (z32 ++ (z32 ++ (z32 ++ (z32 ++ List.replicate 5 0))))) := by decide +kernel
  rw [h]
  show crcFrom 0xB704CE _ = _
  simp only [crcFrom_append]
  rw [show crcFrom 0xB704CE z32 = 7845968 by decide +kernel, show crcFrom 7845968 z32 = 3503260 by decide +kernel,
    show crcFrom 3503260 z32 = 6057803 by decide +kernel, show crcFrom 6057803 z32 = 2045719 by decide +kernel,
    show crcFrom 2045719 z32 = 12875468 by decide +kernel, show crcFrom 12875468 z32 = 16035118 by decide +kernel]
  decide +kernel

theorem crc_first : crc24 ([0, 0, 0, 0, 0x10] ++ List.replicate 192 0) = 1359871 := by
  have h : [0, 0, 0, 0, 0x10] ++ List.replicate 192 (0 : Byte) = [0, 0, 0, 0, 0x10] ++ (z32 ++ (z32 ++ (z32 ++ (z32 ++ (z32 ++ z32))))) := by decide +kernel
  rw [h]
  show crcFrom 0xB704CE _ = _
  simp only [crcFrom_append]
  rw [show crcFrom 0xB704CE [0, 0, 0, 0, 0x10] = 6747507 by decide +kernel, show crcFrom 6747507 z32 = 8970587 by decide +kernel,
    show crcFrom 8970587 z32 = 9526710 by decide +kernel, show crcFrom 9526710 z32 = 5421186 by decide +kernel,
    show crcFrom 5421186 z32 = 10334972 by decide +kernel, show crcFrom 10334972 z32 = 11488247 by decide +kernel]
  decide +kernel

theorem flit_bytes : flit (2 ^ 60) = leBytes 3 1359871 ++ [0, 0, 0, 0, 0x10] ++ List.replicate 192 0 := by
  have h : (leBytes 8 (2 ^ 60)).drop 3 = [0, 0, 0, 0, 0x10] := by decide +kernel
  rw [flit, h, crc_first]

theorem flit_tail : (leBytes 3 1359871 ++ [0, 0, 0, 0, 0x10] ++ List.replicate 192 (0 : Byte)).drop 3 = [0, 0, 0, 0, 0x10] ++ List.replicate 192 0 := by
  decide +kernel

theorem flit_crc : bitsOf (leAt (flit (2 ^ 60)) 0 8) 23 0 = crc24 ((flit (2 ^ 60)).drop 3) := by
  rw [flit_bytes, flit_tail, crc_first]; decide +kernel

theorem wit_CarillonLinkRowsRun :
    ((member 0 1).linksRun = true ∧ ((member 0 1).link 0).st = 1 ∧ 1 = (member 0 1).farOf 0) ∧
    (∃ s : State, (s.link 0).st ≠ 0 ∧ s.car.formed = false ∧ 0 < s.car.links.length) ∧
    (((member 0 2).link 0).st = 2 ∧ (List.replicate 200 (0 : Byte)).length = 200 ∧
      bitsOf (leAt (List.replicate 200 0) 0 8) 23 0 ≠ crc24 ((List.replicate 200 0).drop 3)) ∧
    ((flit (2 ^ 60)).length = 200 ∧ bitsOf (leAt (flit (2 ^ 60)) 0 8) 23 0 = crc24 ((flit (2 ^ 60)).drop 3) ∧
      bitsOf (leAt (flit (2 ^ 60)) 0 8) 63 60 = 1 ∧ bitsOf (leAt (flit (2 ^ 60)) 0 8) 35 28 ≤ 192 ∧
      bitsOf (leAt (flit (2 ^ 60)) 0 8) 27 24 = 0 ∧ (bitsOf (leAt (flit (2 ^ 60)) 0 8) 59 48 + 4096 - ((member 0 2).link 0).rxSeq) % 4096 = 0) ∧
    ((member 0 2).linkUp 0 = true ∧ ((member 0 2).link 0).replay ≠ [] ∧ ((member 0 2).link 0).sinceBatch ≠ 0) ∧
    (member 0 2).cad.toll % 10 = 0 :=
  ⟨by decide +kernel, ⟨{ up with car := { links := [{ st := 2 }] } }, by decide +kernel⟩,
    ⟨by decide +kernel, by decide +kernel, by rw [show (List.replicate 200 (0 : Byte)).drop 3 = List.replicate 197 0 by decide +kernel, crc_zeros]; decide +kernel⟩,
    ⟨by rw [flit_bytes]; decide +kernel, flit_crc, by rw [flit_bytes]; decide +kernel, by rw [flit_bytes]; decide +kernel, by rw [flit_bytes]; decide +kernel,
      by rw [flit_bytes]; decide +kernel⟩,
    by decide +kernel, by decide +kernel⟩

/-- A plain record from a position; and it waits, alone, for its turn. -/
def plainRec (typ src dst : Nat) (b : Bytes) : Bytes := recHeader typ src dst 0 0 0 0 b.length ++ b ++ List.replicate 16 0
def arrived (s : State) (r : Bytes) : State := { s with car := { s.car with inbox := [r] } }

/-- A job of context 0, and it lives at a position: the Treble is position 0. -/
def job : Job := { ctx := 0, key := [1], eph := [] }
def jobbed (pos : Nat) (j : Job) (r : Bytes) : State :=
  { member pos 2 with
    ctxs := { st := .gathering, quad := true, mode := 1 } :: List.replicate 3 {}
    pans := { st := .running, ctx := some 0, need := 16, map := [0], rxMask := 2 ^ 64 - 1 } :: List.replicate 47 {}
    car := { (member pos 2).car with job := some j, inbox := [r] } }

/-- The formation that position 0 has begun. -/
def forming : State := { up with car := { forming := some { mask := 3 } } }

theorem wit_MembershipRowsRun :
    (forming.car.forming = some { mask := 3 } ∧ ({ mask := 3 } : Forming).linksUp = false) ∧
    (let r := plainRec 0x20 1 0 ([0, 0] ++ List.replicate 32 7)
     (recHead r).typ = 0x20 ∧ (arrived forming r).recordTurn r = true ∧ (arrived forming r).car.forming = some { mask := 3 } ∧
      bitOf ({ mask := 3 } : Forming).mask (recHead r).src = true) ∧
    (let r := plainRec 0x21 1 0 [7]
     (recHead r).typ = 0x21 ∧ (arrived (member 0 2) r).recordTurn r = true ∧ (arrived (member 0 2) r).car.formed = true ∧
      bitOf (arrived (member 0 2) r).car.members (recHead r).src = true) ∧
    ((member 0 0).car.formed = true ∧ bitOf (member 0 0).car.members 1 = true ∧ (member 0 0).isTreble = true ∧ 1 ≠ (member 0 0).power.pos ∧
      (((member 0 0).linkTo 1).any (member 0 0).linkUp) = false) ∧
    (bitOf (member 1 0).car.members 1 = true ∧ (member 1 0).isTreble = false ∧ 1 = (member 1 0).power.pos ∧
      (((member 1 0).linkTo (member 1 0).treble).any (member 1 0).linkUp) = false) ∧
    (let r := plainRec 0x22 1 0 []
     (recHead r).typ = 0x22 ∧ (arrived (member 0 2) r).recordTurn r = true ∧ (arrived (member 0 2) r).car.formed = true ∧
      bitOf (arrived (member 0 2) r).car.members (recHead r).src = true) ∧
    (let r := plainRec 0x10 0 1 (List.replicate 49 0)
     (recHead r).typ = 0x10 ∧ (recHead r).epoch = 0 ∧ (arrived (member 1 2) r).recordTurn r = true ∧
      bitOf (arrived (member 1 2) r).car.members (recHead r).src = true ∧ byteAt (plainBody r) 0 = 0 ∧
      (recHead r).src = (arrived (member 1 2) r).treble) ∧
    (let r := plainRec 0x10 1 0 (List.replicate 49 0)
     (jobbed 0 job r).recordTurn r = true ∧ bitOf (jobbed 0 job r).car.members (recHead r).src = true ∧ (jobbed 0 job r).car.job = some job ∧
      job.ctx = (recHead r).ctx ∧ (recHead r).src ≠ (jobbed 0 job r).treble ∧ (jobbed 0 job r).isTreble = true) ∧
    (let r := plainRec 0x10 0 1 (1 :: List.replicate 48 0)
     (jobbed 1 job r).recordTurn r = true ∧ (jobbed 1 job r).car.job = some job ∧ byteAt (plainBody r) 0 = 1 ∧
      (recHead r).src = (jobbed 1 job r).treble) ∧
    (let r := plainRec 0x10 1 0 (2 :: List.replicate 48 0)
     (jobbed 0 job r).recordTurn r = true ∧ byteAt (plainBody r) 0 = 2) := by
  refine ⟨?_, ?_, ?_, ?_, ?_, ?_, ?_, ?_, ?_, ?_⟩ <;> decide +kernel

/-- A record of the job from a position, sealed. -/
def sealedRec (pos : Nat) (j : Job) (typ src tag : Nat) (b : Bytes) : Bytes :=
  recHeader typ src pos j.ctx j.epoch 0 tag b.length ++
    Crypto.gcmSeal (epochKey j j.epoch) (recNonce src pos 0) (recHeader typ src pos j.ctx j.epoch 0 tag b.length) b

theorem turn_of_inbox (s : State) (r : Bytes) (h : s.car.inbox = [r]) : s.recordTurn r = true := by
  simp [State.recordTurn, h]

/-- In the job's state a sealed record is at its turn and opens. -/
theorem sealed_opens (pos typ src tag : Nat) (j : Job) (b : Bytes) (hk : j.key ≠ []) (hc : j.ctx < 256) (hp : pos < 256)
    (hs : src < 256) (he : j.epoch < 256 ^ 4) :
    (jobbed pos j (sealedRec pos j typ src tag b)).recordTurn (sealedRec pos j typ src tag b) = true ∧
    (jobbed pos j (sealedRec pos j typ src tag b)).openRecord (sealedRec pos j typ src tag b) = some b :=
  ⟨turn_of_inbox _ _ rfl, openRecord_sealed (jobbed pos j (sealedRec pos j typ src tag b)) j typ src 0 tag b rfl hk hc hp hs he
    (by decide)⟩

/-- The job's state with a transfer that awaits its completion. -/
def transferring (pos kind peer : Nat) (links : List CarLink) (r : Bytes) : State :=
  { jobbed pos job r with car := { (jobbed pos job r).car with
      links := links, transfers := [{ kind := kind, tag := 5, peer := peer, link := 0, epoch := 1, timing := true }] } }

theorem transferring_opens (typ kind : Nat) (b : Bytes) :
    let r := sealedRec 1 job typ 0 5 b
    (transferring 1 kind 0 (List.replicate 3 { st := 2 }) r).recordTurn r = true ∧
    (transferring 1 kind 0 (List.replicate 3 { st := 2 }) r).openRecord r = some b :=
  sealed_opens 1 typ 0 5 job b (by decide) (by decide) (by decide) (by decide) (by decide)

/-- Descriptors: a posted write of 16 bytes to channel 0 of Pan 0, a read of 32 bytes of Pan 0, a CLEAR of epoch 1. -/
def writeDesc (pos : Nat) : Bytes := [BitVec.ofNat 8 pos] ++ List.replicate 47 0
def readDesc (pos : Nat) : Bytes := [BitVec.ofNat 8 pos] ++ List.replicate 11 0 ++ [32] ++ List.replicate 19 0
def clearDesc : Bytes := List.replicate 16 0 ++ [1] ++ List.replicate 15 0

/-- A body of CLEAR and of EPOCH_DIRTY; the job with its epoch dirty, or its advance wanted. -/
def clearBody : Bytes := [0, 0, 0, 0, 1, 0, 0, 0]
def dirtyBody : Bytes := [24, 0, 1, 0, 0, 0]
def dirty : Job := { job with dirty := true }
def wants : Job := { job with wantAdvance := true }

theorem wit_TransferRowsRun :
    ((jobbed 1 job []).jobOf 0 = some job ∧ descOk 0 (writeDesc 0) = true ∧ (jobbed 1 job []).isTarget (byteAt (writeDesc 0) 0) = true ∧
      descOk 1 (readDesc 0) = true ∧ (jobbed 1 job []).isTarget (byteAt (readDesc 0) 0) = true) ∧
    ((jobbed 1 dirty []).jobOf 0 = some dirty ∧ descOk 2 clearDesc = true ∧ dirty.dirty = true ∧ leAt clearDesc 16 4 = dirty.epoch ∧
      (jobbed 1 dirty []).isTreble = false) ∧
    (let r := sealedRec 1 job 1 0 5 (writeDesc 1)
     ((jobbed 1 job r).recordTurn r = true ∧ (jobbed 1 job r).openRecord r = some (writeDesc 1)) ∧
      (recHead r).typ = 1 ∧ (jobbed 1 job r).car.job = some job ∧ job.key ≠ [] ∧ ctxLive ((jobbed 1 job r).ctx job.ctx).st = true ∧
      (let it : FabItem := { src := 0xFF, srcChan := 0, ctx := some 0, kind := 0, dest := byteAt (writeDesc 1) 1,
                             dchan := byteAt (writeDesc 1) 2, rchan := 0, token := false, data := (writeDesc 1).drop 32 }
       it.dest < 48 ∧ it.dchan < 64 ∧ (jobbed 1 job r).strayReason it = none ∧ (((jobbed 1 job r).takeRecord r).deliverPan it).isSome = true)) ∧
    (∀ x ∈ [(2, 0), (3, 0), (5, 1)],
      let r := sealedRec 1 job x.1 0 5 []
      let s := transferring 1 x.2 0 (List.replicate 3 { st := 2 }) r
      (s.recordTurn r = true ∧ s.openRecord r = some []) ∧ (recHead r).typ = x.1 ∧
        ((s.takeRecord r).transferOf x.2 (recHead r).src (recHead r).tag).isSome = true) ∧
    (let r := sealedRec 1 job 4 0 5 (readDesc 1)
     ((jobbed 1 job r).recordTurn r = true ∧ (jobbed 1 job r).openRecord r = some (readDesc 1)) ∧ (recHead r).typ = 4 ∧
      (jobbed 1 job r).held (byteAt (readDesc 1) 1) (leAt (readDesc 1) 8 4) (leAt (readDesc 1) 12 2) = false ∧
      descOk 1 (readDesc 1) = true ∧ ((jobbed 1 job r).pan (byteAt (readDesc 1) 1)).ctx = some (recHead r).ctx ∧
      ctxLive ((jobbed 1 job r).ctx (recHead r).ctx).st = true ∧
      leAt (readDesc 1) 8 4 + leAt (readDesc 1) 12 2 ≤ panBytes ((jobbed 1 job r).pan (byteAt (readDesc 1) 1)) ∧
      ((upsetsIn [(0, .transient)] (leAt (readDesc 1) 8 4) (leAt (readDesc 1) 12 2)).partition fun u => u.2 == .corrected).2.length ≠ 0 ∧
      ((upsetsIn [(0, .corrected)] (leAt (readDesc 1) 8 4) (leAt (readDesc 1) 12 2)).partition fun u => u.2 == .corrected).2.length = 0 ∧
      ((jobbed 1 job r).pan (byteAt (readDesc 1) 1)).bad = [] ∧
      ({ jobbed 1 job r with sweep := { slice := some { pan := 0, sub := 0, targeted := false } } } : State).held (byteAt (readDesc 1) 1)
        (leAt (readDesc 1) 8 4) (leAt (readDesc 1) 12 2) = true) ∧
    (let r := sealedRec 0 dirty 6 1 0 clearBody
     ((jobbed 0 dirty r).recordTurn r = true ∧ (jobbed 0 dirty r).openRecord r = some clearBody) ∧ (recHead r).typ = 6 ∧
      (jobbed 0 dirty r).car.job = some dirty ∧ (jobbed 0 dirty r).isTreble = true ∧ leAt clearBody 4 4 = dirty.epoch ∧
      dirty.clears.contains ((recHead r).src, byteAt clearBody 0) = false) ∧
    (let r := sealedRec 1 job 0x11 0 0 [2, 0, 0, 0]
     ((jobbed 1 job r).recordTurn r = true ∧ (jobbed 1 job r).openRecord r = some [2, 0, 0, 0]) ∧ (recHead r).typ = 0x11 ∧
      (recHead r).src = (jobbed 1 job r).treble ∧ leAt [2, 0, 0, 0] 0 4 = job.epoch + 1) ∧
    ((jobbed 0 wants []).car.job = some wants ∧ (jobbed 0 wants []).isTreble = true ∧ advanceDue wants = true ∧ wants.key ≠ [] ∧
      ((jobbed 0 wants []).car.transfers.any fun t => t.kind == 0 && t.epoch == wants.epoch) = false) ∧
    (∀ k ∈ [0, 1, 2], (((transferring 1 k 0 (List.replicate 3 {}) []).car.transfers.find? fun t =>
        t.kind == k && t.tag == 5 && (t.timing || (transferring 1 k 0 (List.replicate 3 {}) []).unacked t)).isSome = true ∧ (transferring 1 k 0 (List.replicate 3 {}) []).car.job = some job ∧
      ((transferring 1 k 0 (List.replicate 3 {}) []).pathBut 0 0).filter (fun _ => !false) = none)) ∧
    (let r := sealedRec 0 job 0x10 1 0 dirtyBody
     ((jobbed 0 job r).recordTurn r = true ∧ (jobbed 0 job r).openRecord r = some dirtyBody) ∧ (recHead r).typ = 0x10 ∧
      (recHead r).epoch ≠ 0 ∧ byteAt dirtyBody 0 = ctlCode .epochDirty ∧
      (((jobbed 0 job r).takeRecord r).assemble (256 * (recHead r).src + ctlCode .epochDirty) dirtyBody).1 = some [1, 0, 0, 0]) := by
  refine ⟨?_, ?_, ⟨sealed_opens 1 1 0 5 job (writeDesc 1) (by decide) (by decide) (by decide) (by decide) (by decide), ?_⟩, ?_,
    ⟨sealed_opens 1 4 0 5 job (readDesc 1) (by decide) (by decide) (by decide) (by decide) (by decide), ?_⟩,
    ⟨sealed_opens 0 6 1 0 dirty clearBody (by decide) (by decide) (by decide) (by decide) (by decide), ?_⟩,
    ⟨sealed_opens 1 0x11 0 0 job [2, 0, 0, 0] (by decide) (by decide) (by decide) (by decide) (by decide), ?_⟩, ?_, ?_,
    ⟨sealed_opens 0 0x10 1 0 job dirtyBody (by decide) (by decide) (by decide) (by decide) (by decide), ?_⟩⟩
  · decide +kernel
  · decide +kernel
  · decide +kernel
  · intro x hx
    simp only [List.mem_cons, List.not_mem_nil, or_false] at hx
    rcases hx with rfl | rfl | rfl <;> exact ⟨transferring_opens _ _ _, by decide +kernel⟩
  · decide +kernel
  · decide +kernel
  · decide +kernel
  · decide +kernel
  · decide +kernel
  · decide +kernel

/-- The body of a message that ends in one record. -/
def ctlBody (c : Ctl) : Bytes := [BitVec.ofNat 8 (ctlCode c), 0]

theorem wit_QuadControlRowsRun :
    ((arrived (member 1 2) (recHeader 0x10 0 1 0 1 0 0 0)).recordTurn (recHeader 0x10 0 1 0 1 0 0 0) = true ∧
      (recHead (recHeader 0x10 0 1 0 1 0 0 0)).typ = 0x10 ∧ (recHead (recHeader 0x10 0 1 0 1 0 0 0)).epoch ≠ 0 ∧
      (arrived (member 1 2) (recHeader 0x10 0 1 0 1 0 0 0)).openRecord (recHeader 0x10 0 1 0 1 0 0 0) = none) ∧
    ∀ c ∈ [Ctl.params, .roster, .openAnswer, .staged, .go, .done, .added, .backout, .freezeList, .shareForward, .reveal, .ledgerSeed,
        .maskDone, .partialSum, .stepToken, .stepReport, .gateReport, .releaseCopy, .releaseAck, .commit, .void, .pausedFlag, .ledgerBytes],
      let r := sealedRec 1 job 0x10 0 0 (ctlBody c)
      ((jobbed 1 job r).recordTurn r = true ∧ (jobbed 1 job r).openRecord r = some (ctlBody c)) ∧ (recHead r).typ = 0x10 ∧
        (recHead r).epoch ≠ 0 ∧ byteAt (ctlBody c) 0 = ctlCode c := by
  refine ⟨by decide +kernel, fun c _ => ⟨sealed_opens 1 0x10 0 0 job _ (by decide) (by decide) (by decide) (by decide) (by decide), ?_⟩⟩
  cases c <;> decide +kernel

/-! ### Belfry -/

/-- The device in a state of its own with one session open, number 1. -/
def orderly (x : DevState) : State := { inState x with belfry := { running := true, sessions := [{ id := 1 }] } }

/-- One Pan retired; a pseudo-channel retired. -/
def panGone : State := { orderly .running with pans := { st := .retired } :: List.replicate 47 {} }
def pcGone : State := { orderly .running with keyhold := { tenantKey := some [1] }, stores := { pcs := { st := 2 } :: List.replicate 127 {} } }

theorem wit_BelfryOrdersRun :
    (∀ c ∈ [0x01, 0x02, 0x10, 0x11, 0x12, 0x13, 0x14, 0x15, 0x20, 0x22, 0x24, 0x30, 0x31], (orderly .running).takesOrder 1 7 c = true) ∧
    (1 ≤ 512 ∧ 512 ≤ 512) ∧ (60 < 2 ^ 32 ∧ regFault .govCap 60 = none ∧ ∃ st, regFault .govCap 0 = some st ∧ st ≠ .ok) ∧
    (regFault .govCtl 1 = none ∧ regFault .govVlimit 0x8C78 = none ∧ regFault .govVfixed 0x80 = none) ∧
    ((orderly .running).dev.st ≠ .untenanted ∧ (orderly .running).dev.switch = none) ∧
    (orderly .untenanted).takesOrder 1 7 0x13 = true ∧
    ((orderly .muffled).takesOrder 1 7 0x16 = true ∧ (orderly .muffled).dev.wake = none ∧ (orderly .muffled).dev.switch = none) ∧
    (1 < 2 ∧ 0 + [(0 : Byte)].length ≤ slotBytes ∧ [(0 : Byte)].length ≤ 65528) ∧
    ((orderly .untenanted).takesOrder 1 7 0x21 = true ∧
      ∀ pf v, pf < 4 → ((orderly .untenanted).fn pf).serving = some v → cmdCode v.cmd ≠ 0x04) ∧
    (orderly .untenanted).takesOrder 1 7 0x23 = true ∧
    (panGone.takesOrder 1 7 0x25 = true ∧ (panGone.pan 0).st = .retired) ∧
    (pcGone.takesOrder 1 7 0x25 = true ∧ (pcGone.pc 0).st = 2 ∧ pcGone.tenanted = true) ∧
    ([(0x7000C, 5000)].mapM addressWrite = some [(.inlUdpport, 0, 5000)] ∧
      ([(Reg.inlUdpport, 0, 5000)].findSome? fun w => regFault w.1 w.2.2) = none) := by
  refine ⟨?_, ?_, ?_, ?_, ?_, ?_, ?_, ?_, ⟨?_, fun pf v hp h => ?_⟩, ?_, ?_, ?_, ?_⟩
  case refine_10 => rcases pf with _ | _ | _ | _ | pf <;> cases h
  all_goals decide +kernel

/-- Session 1 has answered request 7. -/
def replied : State := { up with belfry := { running := true, sessions := [{ id := 1, cache := [(7, [1])] }] } }

theorem wit_OrdersRunOnce :
    ((replied.belfry.sessions.find? fun x => x.id == 1) = some { id := 1, cache := [(7, [1])] } ∧ replied.belfry.running = true ∧
      ([(7, [(1 : Byte)])].find? fun e => e.1 == 7) = some (7, [1])) ∧
    (orderly .running).takesOrder 1 7 0x01 = true ∧ up.sessionOpen 1 = false ∧
    (let s := { orderly .running with belfry := { (orderly .running).belfry with waiting := [(1, 6, 0x25)] } }
     (s.belfry.sessions.find? fun x => x.id == 1) = some { id := 1 } ∧ s.orderTurn 0x10 = false) ∧
    ((orderly .untenanted).orderTurn 0x14 = true ∧ (orderly .untenanted).orderRefused 0x14 = true) ∧
    (let s := { orderly .running with belfry := { (orderly .running).belfry with queue := [(1, 6, .health)] } }
     s.belfry.queue = (1, 6, .health) :: [] ∧ s.orderBusy = false) ∧
    (1 < smbusSession ∧ ((orderly .running).ordered 1 7).sessionOpen 1 = true) := by decide +kernel

/-- The TLS key exists, and one anchor is installed. -/
def anchored : State :=
  { up with
    keyhold := { slots := [{ engine := 6, index := 0, key := [1], mask := [], lifetime := 0, ctx := 0 }] }
    belfry := { running := true, install := { anchors := [[1]] } } }

/-- SPDM as far negotiated as a number says. -/
def spdmAt (n : Nat) : State := { up with belfry := { running := true, spdm := n } }

/-- A request of SPDM, zeros behind its header. -/
def spdmMsg (v c n : Nat) : Bytes := [BitVec.ofNat 8 v, BitVec.ofNat 8 c] ++ List.replicate (n - 2) 0

/-- A frame to all at the management port, its check sequence behind. -/
def toAll : Bytes := List.replicate 6 0xFF ++ List.replicate 54 0
def mgmtFrame : Bytes := toAll ++ leBytes 4 (crc32 toAll)
def portUp : State := { up with dev := { up.dev with belfryPort := 2 } }

/-- A repair awaits its place in the record. -/
def repairing : State := { up with belfry := { running := true, pendingRepairs := [[4, 1, 0, 0, 0, 0, 0, 0]] } }

theorem wit_BelfryLocalRowsRun :
    (anchored.tlsUp = true ∧ 1 < smbusSession ∧ anchored.belfry.install.anchors.contains [1] = true ∧ anchored.belfry.sessions.length < 4 ∧
      anchored.sessionOpen 1 = false ∧ (anchored.belfry.waiting.any fun w => w.1 == 1) = false) ∧
    (up.belfry.running = true ∧ up.dev.muffledTamper = false) ∧
    (up.tenanted = false ∧ up.dev.switch = none ∧ up.dev.st ≠ .locked ∧ installOk { anchors := [[1]] } = true) ∧
    ((up.belfry.waiting.any fun w => w.1 == smbusSession) = false ∧ up.dev.st ≠ .held ∧ up.dev.shutDown = false ∧ up.dev.shutting = none) ∧
    ({ up with power := { up.power with smbAlertN := false } } : State).power.smbAlertN = false ∧
    (byteAt [0, 0x80, 2] 0 = 0 ∧ 128 ≤ byteAt [0, 0x80, 2] 1 ∧ byteAt [0, 0x80, 2] 2 ≠ 1) ∧
    (byteAt [0, 0x80, 1, 1, 9] 2 = 1 ∧ byteAt [0, 0x80, 1, 1, 9] 3 % 4 < 2 ∧ byteAt [0, 0x80, 1, 1, 9] 4 ≠ 0 ∧
      byteAt [0, 0x80, 1, 1, 9] 4 ≠ 0xFF) ∧
    up.spdmTakes (spdmMsg 0x10 0x84 4) 0x84 0x10 4 0 = true ∧
    ((spdmAt 1).spdmTakes (spdmMsg 0x12 0xE1 20) 0xE1 0x12 20 1 = true ∧ (spdmAt 1).belfry.spdm = 1) ∧
    ((spdmAt 2).spdmTakes (spdmMsg 0x12 0xE3 32) 0xE3 0x12 32 2 = true ∧ (spdmAt 2).belfry.spdm = 2) ∧
    (spdmAt 3).spdmTakes (spdmMsg 0x12 0x81 4) 0x81 0x12 4 3 = true ∧
    ((spdmAt 3).spdmTakes (spdmMsg 0x12 0x82 8) 0x82 0x12 8 3 = true ∧ byteAt (spdmMsg 0x12 0x82 8) 2 % 16 = 0 ∧
      leAt (spdmMsg 0x12 0x82 8) 4 2 < certChain.length) ∧
    ((spdmAt 3).spdmTakes (spdmMsg 0x12 0x83 36) 0x83 0x12 36 3 = true ∧ byteAt (spdmMsg 0x12 0x83 36) 2 = 0 ∧
      byteAt (spdmMsg 0x12 0x83 36) 3 = 0) ∧
    ((spdmAt 3).spdmTakes (spdmMsg 0x12 0xE0 4) 0xE0 0x12 4 3 = true ∧ bitOf (byteAt (spdmMsg 0x12 0xE0 4) 2) 0 = false ∧
      byteAt (spdmMsg 0x12 0xE0 4) 3 = 0) ∧
    (repairing.belfry.pendingRepairs = [[4, 1, 0, 0, 0, 0, 0, 0]] ∧ repairing.belfry.running = true ∧
      (if (repairMap repairing.belfry.repair).isSome then recordEntries 8 repairing.belfry.repair else []).length + 1 ≤ 131070) ∧
    (up.dev.belfryPort ≠ (2 : Fin 3).val) ∧
    (portUp.belfry.running = true ∧ portUp.dev.belfryPort = 2 ∧ 64 ≤ mgmtFrame.length ∧
      leNat (mgmtFrame.drop (mgmtFrame.length - 4)) = crc32 (mgmtFrame.take (mgmtFrame.length - 4)) ∧
      mgmtFrame.take 6 = List.replicate 6 0xFF) ∧
    (let h : Bytes := [0x56, 0x42, 1, 0x7F] ++ List.replicate 12 0
     (orderly .running).sessionOpen 1 = true ∧ h.length = 16 ∧ slice h 0 3 = [0x56, 0x42, 1] ∧ beAt h 8 4 ≤ 65536 ∧ beAt h 12 4 = 0 ∧
      byteAt h 3 = 0x7F) ∧
    ([] : Bytes).length ≠ 16 := by
  refine ⟨?_, ?_, ?_, ?_, ?_, ?_, ?_, ?_, ?_, ?_, ?_, ⟨?_, ?_, ?_⟩, ?_, ?_, ⟨?_, ?_, ?_⟩, ?_, ⟨?_, ?_, ?_, ?_, ?_⟩, ?_, ?_⟩
  case refine_14 =>
    have h : leAt (spdmMsg 0x12 0x82 8) 4 2 = 0 := by decide +kernel
    simp only [h, certChain, List.length_append, List.length_cons, List.length_nil]
    omega
  case refine_19 =>
    split
    · have h : repairing.belfry.repair = [] := rfl
      simp [h, recordEntries, erased]
    · simp
  all_goals decide +kernel

/-! ### Debug and maintenance -/

/-- Every scope of debug open, on sequencer state of Pan 0, which runs. -/
def debugged (sel addr : Nat) : State :=
  { withPan { st := .running, ctx := some 0, need := 16, map := [0], debugHalt := true } with
    dbg := { scope := 31 }
    regs := [(.dbgSel, 0, sel), (.dbgAddr, 0, addr), (.dbgRoute, 0, 2 ^ 63)]
    fns := { mse := true } :: List.replicate 3 {} }

/-- The same with no scope open. -/
def closed : State := { debugged 0 0 with dbg := {} }

/-- A slice to take: of a target, or of the next position; one under way; a Pan whose self-test runs. -/
def targeted : State := { up with sweep := { targets := [(3, 7)] } }
def slicing : State := { up with sweep := { slice := some { pan := 0, sub := 0, targeted := false } } }
def tested : State := { up with sweep := { testing := [5] } }

/-- A scrub under way; a pseudo-channel whose return scrub is under way; a wake at its last step. -/
def scrubbing : State := { inState .untenanted with stores := { scrub := 1 } }
def returning : State := { up with stores := { returning := [3], scrub := 2 } }
def waking : State := { up with dev := { st := .muffled, wake := some { step := 3, by_ := .device } } }

theorem wit_MaintenanceRowsRun :
    ((debugged 0 0).reaches (.host 0) .bar2 = true ∧ ((debugged 0 0).pan (debugged 0 0).dbgPan).st = .running) ∧
    (bitOf (debugged 256 34).dbg.scope 2 = true ∧ bitOf ((debugged 256 34).reg .dbgSel 0) 8 = true ∧
      (debugged 256 34).reg .dbgAddr 0 ≤ 34) ∧
    (bitOf ((debugged 0 8).reg .dbgSel 0) 8 = false ∧ (debugged 0 8).reg .dbgAddr 0 < panBytes ((debugged 0 8).pan (debugged 0 8).dbgPan) ∧
      (debugged 0 8).reg .dbgAddr 0 % 8 = 0 ∧
      (debugged 0 8).held (debugged 0 8).dbgPan ((debugged 0 8).reg .dbgAddr 0) 8 = false ∧
      failingIn ((debugged 0 8).pan (debugged 0 8).dbgPan) [] ((debugged 0 8).reg .dbgAddr 0) 8 = [] ∧
      failingIn ((debugged 0 8).pan (debugged 0 8).dbgPan) [(1, .lasting)] ((debugged 0 8).reg .dbgAddr 0) 8 = 1 :: [] ∧
      ({ debugged 0 8 with sweep := { slice := some { pan := 0, sub := 0, targeted := false } } } : State).held 0 8 8 = true) ∧
    (bitOf (debugged 0 0).dbg.scope 3 = true ∧ ((debugged 0 0).pan (debugged 0 0).dbgPan).debugHalt = true) ∧
    (bitOf (debugged 0 0).dbg.scope 1 = true ∧ routeBad (List.range 48) ((debugged 0 0).reg .dbgRoute 0) = false ∧
      (debugged 0 0).reg .dbgRoute 0 ≠ 0) ∧
    (closed.reaches (.host 0) .bar2 = true ∧ closed.dbg.scope = 0) ∧
    (targeted.sweepRuns = true ∧ targeted.sweep.slice = none ∧
      (targeted.sweep.targets.find? fun t => !targeted.beingWritten t.1) = some (3, 7)) ∧
    (up.sweepRuns = true ∧ up.sweep.slice = none ∧ (up.sweep.targets.find? fun t => !up.beingWritten t.1) = none ∧
      up.nextPos up.sweep.pos (18432 - up.sweep.pos) = some 0 ∧ up.beingWritten (0 % 48) = false) ∧
    (slicing.sweep.slice = some { pan := 0, sub := 0, targeted := false } ∧ slicing.power.vddc = .good) ∧
    (tested.sweep.testing.contains 5 = true ∧ tested.sweep.failedOnce = [] ∧ tested.dev.switch = none) ∧
    (scrubbing.stores.scrub = 1 ∧ scrubbing.dev.muffledTamper = false ∧ scrubbing.dev.st = .untenanted ∧ scrubbing.dev.switch = none ∧
      scrubbing.dev.shutting = none) ∧
    (returning.stores.returning.contains 3 = true ∧ returning.belfry.waiting = []) ∧
    (waking.dev.wake = some { step := 3, by_ := .device } ∧ waking.power.vddc = .good ∧ waking.sweep.testing = [] ∧
      waking.dev.st = .muffled) := by
  refine ⟨?_, ?_, ?_, ?_, ?_, ?_, ?_, ?_, ?_, ?_, ?_, ?_, ?_⟩ <;> decide +kernel

/-! ### Ill-formed commands, one for each check of WellFormed -/

theorem test_wf_refuses_accesses : ∀ i ∈ [Instr.registerWrite .belfry .bar2 2 4 0 false, .registerWrite .belfry .bar2 0 2 0 false,
    .registerWrite .belfry .bar2 (2 ^ 32) 4 0 false, .registerWrite .belfry .bar2 0 4 (2 ^ 32) false, .readClear .belfry .bar2 4 8,
    .lowHalfRead .belfry .bar2 4, .govVlimitWrite .belfry (2 ^ 32)], i.wf = false := by decide +kernel

theorem test_wf_refuses_readings : ∀ i ∈ [Instr.governorRun (2 ^ 32) 0, .avsTransactionDone true (2 ^ 16), .readingUpdate (2 ^ 32) 0 0,
    .readingUpdate 0 0 (2 ^ 32), .bootStepComplete 6 (2 ^ 128) [], .bootStepComplete 6 0 [(48, 0, ⟨0, 0, 0, false⟩)],
    .bootStepComplete 6 0 [(0, 384, ⟨0, 0, 0, false⟩)], .bootStepComplete 6 0 [(0, 0, ⟨520, 0, 0, false⟩)],
    .sweepSliceEnd [⟨0, 256, 0, false⟩] [] 0 false, .sweepSliceEnd [⟨0, 0, 256, false⟩] [] 0 false], i.wf = false := by decide +kernel

theorem test_wf_refuses_host_commands : ∀ i ∈ [Instr.imageLoad 0 (2 ^ 64) 0 .pending, .imagePartial 0 0 0 256 .pending, .harvestOpen 0 0 (2 ^ 32) .pending,
    .rosterLoad 0 0 (2 ^ 32) .pending, .hostIngest 0 0 0 0 0 256 .pending, .sharesSubmit 0 0 0 (2 ^ 32) 0 .pending, .releaseFetch 0 0 0 0 (2 ^ 32),
    .attest 0 0 0 (2 ^ 32) 0 .pending, .enrollTenant 0 (2 ^ 64) 0 .pending, .weightsLoad 0 0 (2 ^ 32) .pending, .debugUnlock 0 (2 ^ 64) 0 .pending,
    .quadForm 0 256, .mailboxWrite 0 (2 ^ 24) [0] true false, .mailboxWrite 0 0 [] true false, .mbDoorbell 0 (2 ^ 32) true false, .mbResend 0 (2 ^ 32)], i.wf = false := by
  decide +kernel

theorem test_wf_refuses_units : ∀ i ∈ [Instr.addCommit 0 (2 ^ 32) none, .addBackout 0 0 (2 ^ 32) false, .storeAccess 0 (some [0]) 2 0,
    .storeAccess (2 ^ 64) none 0 0, .reconAttemptStart 0 (2 ^ 32), .reconAttemptDone 0 (2 ^ 32) none, .reconAttemptDone 0 0 (some (2 ^ 32, .lasting)), .curveRequest { op := .x25519, tag := 2 ^ 64 },
    .freezeItemServe 0 (2 ^ 32) none, .queueItemProduce 0 [] false false 0 0, .qCtlWrite .belfry 5 (2 ^ 32) 0, .ringerReady 0 0 (2 ^ 64), .ringerDelay 0 0 (2 ^ 64),
    .ringerWait 0 0 8, .ringerGet 0 8, .ringerDone 0 (2 ^ 32), .ringerEnqueue 0 [], .keyregLoad 256 .drbg {},
    .keyregLoad 0 .drbg { dest := 256 }, .keyregLoad 0 .drbg { lifetime := 4 }, .keyregLoad 0 .drbg { ctx := 4 }, .keyregDeliver 256 0 0,
    .keyregAttrChange 256 {}, .keyregRelease 256, .drbgGenerate 0 (2 ^ 32), .tamperTrip 0, .tamperTrip 10, .scrubComplete [128],
    .carillonServiceItem 0 0 0 [0], .transferTimeout 0 (2 ^ 64)], i.wf = false := by decide +kernel

theorem test_wf_refuses_orders : ∀ i ∈ [Instr.health 0 (2 ^ 32), .telemetry 0 0 (2 ^ 32), .powerCap 0 0 (2 ^ 32), .governor 0 0 0 0 (2 ^ 32),
    .shutdown 0 (2 ^ 32), .evict 0 (2 ^ 32), .contextStop 0 0 256, .reset 0 (2 ^ 32), .wakeOrder 0 (2 ^ 32),
    .fwStage 0 0 (2 ^ 32) 0 [], .fwApply 0 (2 ^ 32), .calWrite 0 (2 ^ 32) [],
    .repairWrite 0 (2 ^ 32) [], .recordRead 0 0 256, .unitReturn 0 0 256 0, .unitReturn 0 0 0 (2 ^ 16), .addressSet 0 0 [(0, 2 ^ 32)],
    .installSet 0 0 { ipv4 := 2 ^ 32 }, .installSet 0 0 { plen6 := 256 }, .install { ipv6 := 2 ^ 128 }, .unlistedOrder 0 []], i.wf = false := by decide +kernel

theorem test_wf_refuses_long_data (b : Bytes) (h : b.length = 65537) :
    (Instr.frameReceive 0 b (some 0)).wf = false ∧ (Instr.arpRequest 0 b (some 0)).wf = false ∧
    (Instr.neighborSolicitation 0 b (some 0)).wf = false ∧ (Instr.echoRequest 0 b (some 0)).wf = false ∧
    (Instr.managementPortFrame b).wf = false ∧ (Instr.mailboxWrite 0 0 b true false).wf = false ∧
    (Instr.fwStage 0 0 0 0 b).wf = false ∧ (Instr.calWrite 0 0 b).wf = false ∧ (Instr.repairWrite 0 0 b).wf = false := by
  have h1 : decide (b.length ≤ 65535) = false := by simp [h]
  have h2 : decide (b.length ≤ 4096) = false := by simp [h]
  have h3 : decide (b.length ≤ 65536) = false := by simp [h]
  have h4 (a c : Bool) (h : c = false) : (a && c) = false := by rw [h, Bool.and_false]
  exact ⟨h1, h1, h1, h1, h1, h4 _ _ h2, h4 (fits 32 0 && fits 32 0 && fits 32 0) _ h3, h4 (fits 32 0) _ h3, h4 (fits 32 0) _ h3⟩

theorem test_wf_accepts : ∀ i ∈ [Instr.registerWrite .belfry .bar2 0x10000 4 1 false, .govVlimitWrite .belfry 0x8C78, .tamperTrip 6,
    .storeAccess 0 (some [0, 1]) 2 0, .unlistedOrder 0 (List.replicate 16 0), .health 1 1], i.wf = true := by decide +kernel

/-! ### Small checks against the spec's worked examples -/

/-- CAD, worked example, steps 2, 4 and 5: 290 W at 0.75 V under a cap of 250 W, then 267 W, then 246 W. -/
def capped (v : Nat) : State := { up with cad := { running := true, vset := v }, regs := [(.govCtl, 0, 1), (.govCap, 0, 50)] }

theorem test_governor_steps_down : ((capped 150).govern 290000 70000).cad.vset = 146 ∧ ((capped 146).govern 267000 70000).cad.vset = 142 ∧
    ((capped 142).govern 246000 70000).cad.vset = 142 := by decide +kernel

/-- BOO, worked example: DEV_BOOT reads 0x0050_090A. -/
theorem test_dev_boot_reads :
    ({ up with dev := { up.dev with scrubbed := true, calRejected := true }, power := { up.power with bootSrc := 1, pos := 2 } } :
      State).regView .belfry .devBoot 0 = 0x0050090A := by decide +kernel

/-- BOO, worked example: an entry with Pan index 0x30 is not listed; CAD, worked example: Pan 17, Kettle group, +4 steps is. -/
theorem test_trim_entries : trimOk [0x30, 0, 4, 0] = false ∧ trimOk [0x11, 0, 4, 0] = true := by decide +kernel

/-- PAN, worked example: entry 5 of Pan 12's routes. -/
theorem test_route_fields :
    routeValid 0x801E240000000000 = true ∧ routeKind 0x801E240000000000 = 0 ∧ routeDest 0x801E240000000000 = 30 ∧
      routeDchan 0x801E240000000000 = 9 ∧ leNat [0, 0, 0, 0, 0, 0x24, 0x1E, 0x80] = 0x801E240000000000 := by decide +kernel

/-- FMT, worked example, first table: conversions to S19. -/
theorem test_to_s19 : toS19 true false (fp32Of 0x3F801FFF) = (0x3F800000, fInexact) ∧
    toS19 false false (fp32Of 0x3F801FFF) = (0x3F802000, fInexact) ∧ toS19 false false (fp32Of 0x3F803000) = (0x3F804000, fInexact) ∧
    toS19 false false (fp32Of 0x7F7FFFFF) = (0x7F800000, fOverflow + fInexact) ∧
    toS19 true false (fp32Of 0x7F7FFFFF) = (0x7F7FE000, fInexact) ∧ toS19 false false (fp32Of 0x7F800001) = (0x7FC00000, fInvalid) := by
  decide +kernel

/-- FMT, worked example, first table: 0.3, 245, 250, −3.75, 0.001, 2^−11, −0.0 and a quiet NaN to S8E4. -/
theorem test_to_s8e4 :
    [0x3FD3333333333333, 0x406EA00000000000, 0x406F400000000000, 0xC00E000000000000, 0x3F50624DD2F1A9FC, 0x3F40000000000000,
      0x8000000000000000, 0x7FF8000000000000].map (fun b => toS8 3 8 .nearest (fp64Of b)) =
    [(0x32, fInexact), (0x7F, fInexact), (0x7F, fSaturated + fInexact), (0xCF, 0), (0x01, fUnderflow + fInexact),
      (0x00, fUnderflow + fInexact), (0x00, 0), (0x80, 0)] := by decide +kernel

/-- FMT, worked example, first table: 60,000 and 62,000 to S8E5; 1.3, 0.75, −2.6, −0.1 and 5 to S4; 200.7 and −128.4 to INT8. -/
theorem test_to_small_formats :
    [0x40ED4C0000000000, 0x40EE460000000000].map (fun b => toS8 2 16 .nearest (fp64Of b)) =
      [(0x7F, fInexact), (0x7F, fSaturated + fInexact)] ∧
    [0x3FF4CCCCCCCCCCCD, 0x3FE8000000000000, 0xC004CCCCCCCCCCCD, 0xBFB999999999999A, 0x4014000000000000].map
      (fun b => toS4 .nearest (fp64Of b)) = [(4, fInexact), (2, fInexact), (0xE, fInexact), (0, fInexact), (7, fSaturated + fInexact)] ∧
    [0x4069166666666666, 0xC0600CCCCCCCCCCD].map (fun b => toShortInt 8 .nearest (fp64Of b)) =
      [(0x7F, fSaturated + fInexact), (0x80, fInexact)] := by decide +kernel

/-- FMT, worked example: the block 11.0, −0.9, 0.3 in S4B16; the split of FP32 0x3F80_1801; −3.75 × −3. -/
theorem test_block_split_and_product :
    encodeBlock .s4b16 {} [fp32Of 0x41300000, fp32Of 0xBF666666, fp32Of 0x3E99999A] = (0x81, [6, 9, 0], fInexact) ∧
    (let r := splitHiLo false (fp32Of 0x3F801801)
     r.1 = 0x3F802000 ∧ r.2.1 = 0xB97FE000) ∧
    (toFp32 .nearest false (kProduct (s8Of 3 8 0xCF) (s4Of 0xE)).1).1 = 0x41340000 := by decide +kernel

/-- CRY, worked example, points 6 and 7: the dequantised word 12; INV(2), MUL and a non-canonical input. -/
theorem test_dequantise_and_field : dequantWord 32 {} 0xB5800000 0 0xFFFFFFF9 = (0x36E00000, 0) ∧
    fieldOp 4 2 0 0 = (2 ^ 60, 0) ∧ fieldOp 2 (2 ^ 60) (2 ^ 60) 0 = (2 ^ 59, 0) ∧ fieldOp 0 0xFFFFFFFFFFFFFFFF 0 0 = (7, 1) := by
  decide +kernel

/-- GRN, worked example, points 7 to 9: shares of an owner from x with limbs 0 and 1. -/
def shareAt (x y0 y1 : Nat) : Nat × Bytes := (x, leBytes 8 y0 ++ leBytes 8 y1 ++ List.replicate 24 0)

theorem test_reconstruction :
    limbOf [shareAt 1 1010 20, shareAt 2 1027 37, shareAt 4 1076 83] 0 = 998 ∧
    limbOf [shareAt 2 1027 37, shareAt 4 1076 83, shareAt 5 1110 112] 0 = 1537228672809130304 ∧
    limbOf [shareAt 1 1010 20, shareAt 4 1076 83, shareAt 5 1110 112] 0 = 1000 ∧
    limbOf [shareAt 1 1010 20, shareAt 4 1076 83, shareAt 5 1110 112] 1 = 7 := by decide +kernel

/-- SEQ, worked example: words built from the encodings. -/
theorem test_words : wordOfOp 0x0B 0x060200 = 0x16060200 ∧ wordOfOp 0x53 0x003980 = 0xA6003980 ∧ wordOfOp 0x0C 0x020801 = 0x18020801 ∧
    wordOfOp 0x14 0x800000 = 0x28800000 := by decide +kernel

/-- SEQ, worked example: Pan 0 is at word 9, which holds a faulty word. -/
def faulty (w : Nat) : State := { up with pans := { st := .running, ctx := some 1, need := 16, pc := 9, imem := [(9, w)] } :: List.replicate 47 {} }
def trapOf (w : Nat) (i : Instr) : Option Nat :=
  match exec i (faulty w) with
  | .next t => some (t.regView .belfry .panTrap 0)
  | _ => none

theorem test_trap_order : trapOf 0x1E000000 (.undefinedOpcode 0 0x1E000000) = some 0x00090020 ∧
    trapOf 0x1E600000 (.undefinedOpcode 0 0x1E600000) = some 0x00090020 ∧ trapOf 0x02000001 (.nop 0 1) = some 0x00090021 ∧
    trapOf 0x1802080E (.cmp 0 0x02080E) = some 0x00090021 ∧ trapOf 0x18020806 (.cmp 0 0x020806) = some 0x00090022 := by decide +kernel

/-- SEQ, worked example, words 1 and 7: LDI takes the low half up; CMP NE sets p2. -/
def atWord (w : Nat) (g : List Nat) : State := { up with pans := { st := .running, ctx := some 1, need := 16, imem := [(0, w)], g := g } :: List.replicate 47 {} }

theorem test_ldi_shifts : ∃ t, exec (.ldi 0 0x060000) (atWord 0x16060000 ((List.replicate 32 0).set 6 0x200)) = .next t ∧
    gReg (t.pan 0) 6 = 0x02000000 := ⟨_, rfl, by decide +kernel⟩

theorem test_cmp_sets_p2 : ∃ t, exec (.cmp 0 0x020801) (atWord 0x18020801 ((List.replicate 32 0).set 1 1)) = .next t ∧
    pReg (t.pan 0) 2 = true := ⟨_, rfl, by decide +kernel⟩

/-- LDG, worked example, point 5: 349,652 less the self masks and the pairwise words is 45. -/
theorem test_unmasking : ringSub 16 (ringSub 16 349652 184320) 165287 = 0x002D := by decide +kernel

/-- QUE, worked example, point 5: the first 24 bytes of item 9,202. -/
theorem test_item_layout : (itemBytes 0 { typ := 2, source := 2, seq := 9202, toll := 30150000, status := 0, payload := [2, 3] }).take 24 =
    [2, 0, 2, 0, 0xF2, 0x23, 0, 0, 0x70, 0x0D, 0xCC, 0x01, 0, 0, 0, 0, 0, 0, 0, 0, 2, 3, 0, 0] := by decide +kernel

/-- KHD, worked example: points of the X25519 table, and rejected inputs of the wide unit. -/
theorem test_curve_rejections :
    (xEnd { op := .x25519, point := List.replicate 32 0, tag := 0 }).status = .lowOrder ∧
    (let e := xEnd { op := .x25519, point := 0xED :: List.replicate 30 0xFF ++ [0x7F], tag := 0 }
     e.status = .lowOrder ∧ e.noncanonical = true ∧ e.out = List.replicate 32 0 ∧ e.time = 20) ∧
    (ecdhEnd Crypto.cP384 [1] [0] 3620).status = .notOnCurve ∧
    (ecdhEnd Crypto.cP384 [1] (4 :: beBytes 48 Crypto.cP384.p ++ List.replicate 48 1) 3620).status = .notCanonical := by decide +kernel

/-- STO, worked example: STO_MAP and the placement of an address with pseudo-channel 37 out of the stripe. -/
def striped : State := { up with stores := { stripe := (List.range 128).filter (· != 37) } }

theorem test_stripe : striped.regView .belfry .stoMap 0 = 0x0008EE7F ∧ (stripeList striped.stores.stripe).take 9 = [0, 32, 64, 96, 1, 33, 65, 97, 2] ∧
    striped.pcAt 0x100000040 = 2 := by decide +kernel

/-- FLT, worked example: list entries 5 and 256 of the subarrays, and the two entries appended. -/
theorem test_repairs : subOrder.getD 5 0 = 40 ∧ subOrder.getD 256 0 = 133 ∧ repairEntry 1 12 40 200 7 = [1, 0x0C, 0, 0x28, 0, 0xC8, 7, 0] ∧
    repairEntry 3 12 40 0 0 = [3, 0x0C, 0, 0x28, 0, 0, 0, 0] := by decide +kernel

/-- FIPS 180-4, its example: SHA-256 of "abc". -/
theorem test_sha256 : beNat (Crypto.sha256 (ascii "abc")) = 0xBA7816BF8F01CFEA414140DE5DAE2223B00361A396177A9CB410FF61F20015AD := by
  decide +kernel

end Sys2Proof.Tests
end

/-! Reads of the halves of a 64-bit register (R23): the latches, the registers that such a read clears, and what an
access to one half or to the whole answers. -/
section
namespace Sys2Proof.Machine

open Sys2Proof

/-! ### Latched halves -/

/-- A half just latched is the one a read of the high half takes, whatever was latched before. -/
theorem latchOf_dropLatch_append (s : State) (r : Reg) (i w v : Nat) :
    ({ s with latched := dropLatch s.latched r i w ++ [(r, i, w, v)] } : State).latchOf r i w = some v := by
  have hdropped : (dropLatch s.latched r i w).find? (fun e => e.1 == r && e.2.1 == i && e.2.2.1 == w) = none := by
    rw [List.find?_eq_none]
    intro e he
    simpa only [Bool.not_eq_true', Bool.not_eq_true] using (List.mem_filter.1 he).2
  simp [State.latchOf, List.find?_append, hdropped]

/-- A clear of R15 touches no latch. -/
@[simp] theorem clearRc_latched (s : State) (who : Requester) (r : Reg) (i : Nat) :
    (s.clearRc who r i).latched = s.latched := by
  unfold State.clearRc
  split
  · split <;> rfl
  · rfl

theorem latchOf_clearRc (s : State) (who : Requester) (r : Reg) (i r' i' w) :
    (s.clearRc who r i).latchOf r' i' w = s.latchOf r' i' w := by
  simp [State.latchOf]

/-! ### Read-to-clear registers of 64 bits -/

/-- The read-to-clear registers of 64 bits that are kept in the register store under the instance that the access names;
STO_PCECC is kept under the pseudo-channel that STO_PCSEL selects. -/
def plainWideRc : List Reg := [.carReplay, .carPosted, .inlDrop, .inlReply, .inlFec]

theorem latches_rc_cases {r : Reg} (hlatch : latches r = true) (hrc : (regFields r).any (fun f => f.acc == .rc) = true) :
    r = .stoPcecc ∨ r ∈ plainWideRc := by
  revert hlatch hrc
  cases r <;> decide

/-- Such a register reads as it is stored, is cleared in the store, and has the reset value zero. -/
theorem plainWideRc_spec {r : Reg} (h : r ∈ plainWideRc) (who : Requester) (i : Nat) :
    (∀ s : State, s.regView who r i = s.reg r i) ∧ (∀ s : State, s.clearRc who r i = s.setReg r i 0) ∧
      ∀ s : State, s.resetView who r i = 0 := by
  simp only [plainWideRc, List.mem_cons, List.not_mem_nil, or_false] at h
  rcases h with rfl | rfl | rfl | rfl | rfl <;> exact ⟨fun _ => rfl, fun _ => rfl, fun _ => rfl⟩

/-- The pseudo-channel selected stands when its error counter is cleared, so the counter cleared is the one read. -/
theorem regView_clearRc_stoPcecc (s : State) (who : Requester) (i : Nat) :
    (s.clearRc who .stoPcecc i).regView who .stoPcecc i = 0 := by
  have hview (t : State) : t.regView who .stoPcecc i = t.reg .stoPcecc (t.reg .stoPcsel (ownInst who)) := rfl
  have hclear : s.clearRc who .stoPcecc i = s.setReg .stoPcecc (s.reg .stoPcsel (ownInst who)) 0 := rfl
  have hsel : Reg.stoPcsel ≠ Reg.stoPcecc := by decide
  rw [hview, hclear, reg_setReg_other s 0 (.inl hsel), reg_setReg_same]

/-- A 64-bit read-to-clear register reads as zero in both halves after a read has cleared it, and while its block has
not been started. -/
theorem regNow_clearRc (s : State) (who : Requester) {r : Reg} (i : Nat) (hlatch : latches r = true)
    (hrc : (regFields r).any (fun f => f.acc == .rc) = true) : (s.clearRc who r i).regNow who r i = 0 := by
  obtain ⟨hview, hreset⟩ : (s.clearRc who r i).regView who r i = 0 ∧ (s.clearRc who r i).resetView who r i = 0 := by
    rcases latches_rc_cases hlatch hrc with rfl | h
    · exact ⟨regView_clearRc_stoPcecc s who i, rfl⟩
    · obtain ⟨hview, hclear, hreset⟩ := plainWideRc_spec h who i
      exact ⟨by rw [hview, hclear, reg_setReg_same], hreset _⟩
  unfold State.regNow
  split
  · exact hview
  · exact hreset

/-! ### Accesses -/

theorem latches_width {r : Reg} (h : latches r = true) : (regPlace r).width = 64 := by
  simp only [latches, Bool.and_eq_true, beq_iff_eq] at h
  exact h.1

section
variable {who : Requester} {sp : Space} {off i b : Nat} {r : Reg} {s : State}

/-- A read outside the areas that are no register is one read of a register or of a half, unless its 8 bytes lie over
two registers of 32 bits (R593). -/
theorem readRow_eq_readOne {width : Nat} (hok : s.accessOk who sp off width = true)
    (harea : s.areaRead who sp off width = none) (hone : width = 8 → wideAt who sp off = true) :
    s.readRow who sp off width =
      (s.readOne who sp off width).2.emit (.read (whoNum who) width (s.readOne who sp off width).1) := by
  have hsplit : ¬ (width = 8 ∧ (!wideAt who sp off) = true) := fun ⟨h8, hnarrow⟩ => by simp [hone h8] at hnarrow
  simp only [State.readRow, State.readAccess, hok, harea, if_true, if_neg hsplit]

theorem readOne_half (hreg : findReg who sp off = some (r, i, b)) (hmay : mayRead who r = true)
    (hwidth : (regPlace r).width = 64) :
    s.readOne who sp off 4 = if b = 0 then s.readLow who r i else s.readHigh who r i := by
  simp [State.readOne, hreg, hmay, hwidth]

theorem readOne_eight (hreg : findReg who sp off = some (r, i, b)) (hmay : mayRead who r = true) :
    s.readOne who sp off 8 = s.readWhole who r i := by
  simp [State.readOne, hreg, hmay]

theorem readLow_of_latches (h : latches r = true) :
    s.readLow who r i = (s.regNow who r i % 2 ^ 32,
      ({ s with latched := dropLatch s.latched r i (whoNum who) ++ [(r, i, whoNum who, s.regNow who r i / 2 ^ 32)] } :
        State).clearRc who r i) := by
  simp [State.readLow, h]

theorem readHigh_of_latched {v : Nat} (h : s.latchOf r i (whoNum who) = some v) :
    s.readHigh who r i = (v, { s with latched := dropLatch s.latched r i (whoNum who) }) := by
  simp [State.readHigh, h]

theorem readHigh_of_not_latched (h : s.latchOf r i (whoNum who) = none) :
    s.readHigh who r i = (s.regNow who r i / 2 ^ 32, s) := by
  simp [State.readHigh, h]

end

/-- LOW_HALF_READ is a read of 4 bytes. -/
theorem exec_lowHalfRead (who : Requester) (sp : Space) (off : Nat) (s : State) :
    exec (.lowHalfRead who sp off) s = .next { s.readRow who sp off 4 with pending := s.pending } := rfl

theorem exec_readClear (who : Requester) (sp : Space) (off width : Nat) (s : State) :
    exec (.readClear who sp off width) s = .next { s.readRow who sp off width with pending := s.pending } := rfl

/-- Settles O7: each access is one read of the register or of a half of it, whose answer and state the lemmas above give;
a clear leaves the latches, so the half latched by the low read stands until the high read takes it. -/
theorem lowHalfReadLatches : Obligations.LowHalfReadLatches := by
  unfold Obligations.LowHalfReadLatches
  intro who sp off i b r s hok harea hreg hmay hlatch kept low
  have hhalf := readOne_half (s := s) hreg hmay (latches_width hlatch)
  have hfour := readRow_eq_readOne hok harea (fun h => absurd h (by decide))
  refine ⟨?low, ?latched, ?highLatched, ?highLive, ?whole, regNow_clearRc s who i hlatch⟩
  case low =>
    rintro rfl
    rw [exec_lowHalfRead, hfour, hhalf, if_pos rfl, readLow_of_latches hlatch]
  case latched =>
    rw [latchOf_clearRc]
    exact latchOf_dropLatch_append s r i (whoNum who) _
  case highLatched =>
    rintro v rfl hv
    rw [exec_readClear, hfour, hhalf, if_neg (by decide), readHigh_of_latched hv]
    rfl
  case highLive =>
    rintro rfl hnone
    rw [exec_readClear, hfour, hhalf, if_neg (by decide), readHigh_of_not_latched hnone]
    rfl
  case whole =>
    rintro rfl hok8 harea8
    have hwide : wideAt who sp off = true := by simp [wideAt, hreg, latches_width hlatch]
    rw [exec_readClear, readRow_eq_readOne hok8 harea8 (fun _ => hwide), readOne_eight hreg hmay]
    rfl

end Sys2Proof.Machine
end

/-! The toll counter (R79): the states in which it counts, one tick of it, and what a reset leaves of its block. -/
section
namespace Sys2Proof.Machine

open Sys2Proof

/-- CAD is out of reset but in COLD and in the hold of HELD; a boot that waits for the die to cool has left that hold. -/
theorem cadRuns_iff (s : State) :
    s.cadRuns = true ↔ s.dev.st ≠ .cold ∧ (s.dev.st = .held → s.dev.thermWait = true) := by
  unfold State.cadRuns
  cases s.dev.st <;> simp

theorem cadRuns_of_muffled {s : State} (h : s.dev.st = .muffled) : s.cadRuns = true := by
  simp [cadRuns_iff, h]

/-- A tick is counted by CAD and by the share windows (R372), and changes nothing besides; the queue that `State.done`
keeps is the one it finds. -/
theorem exec_tollTick_of_cadRuns {s : State} (h : s.cadRuns = true) :
    exec .tollTick s =
      .next { s with cad := { s.cad with toll := (s.cad.toll + 1) % 2 ^ 64 }, ctxs := s.ctxs.map windowTick } := by
  change execTollTick s = _
  rw [execTollTick, if_pos h]
  rfl

/-- CAD is a block that every system reset reaches (Table BOO-2). -/
@[simp] theorem systemReset_cad (s : State) (cause : Nat) (pin : Bool) : (s.systemReset cause pin).cad = {} := rfl

/-- Settles O9: the tick, the state of R79 in which it must still count, and the two resets, of the running system and at
power-on, each of which leaves CAD at its reset values. -/
theorem tollTickCounts : Obligations.TollTickCounts := by
  unfold Obligations.TollTickCounts
  intro s
  refine ⟨exec_tollTick_of_cadRuns, cadRuns_of_muffled, fun cause pin => ?systemReset, ?powerOn⟩
  case systemReset => rw [systemReset_cad]
  case powerOn => rfl

end Sys2Proof.Machine
end

/-! A Pan of the state: what its update reads back as, and the operations that leave every Pan alone (trace items and
events, completions, Carillon's control messages, zeros in the Stores, signatures). -/
section
namespace Sys2Proof.Machine

open Sys2Proof

/-! ### Reads of a Pan after an update -/

theorem updAt_eq_modify {α : Type} (l : List α) (i : Nat) (f : α → α) : updAt l i f = l.modify i f := by
  induction l generalizing i with
  | nil => simp [updAt]
  | cons x xs ih => cases i <;> simp [updAt, ih]

@[simp] theorem updPan_length (s : State) (p : Nat) (f : Pan → Pan) : (s.updPan p f).pans.length = s.pans.length := by
  simp [State.updPan, updAt_eq_modify]

theorem pan_updPan_same {s : State} {p : Nat} (hp : p < s.pans.length) (f : Pan → Pan) :
    (s.updPan p f).pan p = f (s.pan p) := by
  simp [State.pan, State.updPan, updAt_eq_modify, List.getD_eq_getElem?_getD, hp]

theorem pan_updPan_other (s : State) {p p' : Nat} (h : p' ≠ p) (f : Pan → Pan) : (s.updPan p f).pan p' = s.pan p' := by
  simp [State.pan, State.updPan, updAt_eq_modify, List.getD_eq_getElem?_getD, h.symm]

theorem pan_congr {s t : State} (h : t.pans = s.pans) (p : Nat) : t.pan p = s.pan p := by simp only [State.pan, h]

/-- What holds of a Pan still holds of it after an update, of it or of another, that keeps it. -/
theorem pan_updPan_keeps {P : Pan → Prop} {f : Pan → Pan} (hf : ∀ q, P q → P (f q)) {s : State} {p : Nat} (p' : Nat)
    (h : P (s.pan p)) : P ((s.updPan p' f).pan p) := by
  by_cases hpp : p = p'
  · subst hpp
    by_cases hp : p < s.pans.length
    · rw [pan_updPan_same hp]
      exact hf _ h
    · have hnone (t : State) (ht : t.pans.length = s.pans.length) : t.pan p = {} :=
        List.getD_eq_default _ _ (by omega)
      rwa [hnone _ (updPan_length ..), ← hnone s rfl]
  · rwa [pan_updPan_other s hpp]

/-- Only a Pan that exists can issue. -/
theorem lt_length_of_canIssue {s : State} {p : Nat} {step : Bool} (h : canIssue (s.pan p) step = true) :
    p < s.pans.length := by
  by_contra hp
  rw [State.pan, List.getD_eq_default _ _ (Nat.le_of_not_lt hp)] at h
  simp [canIssue] at h

/-! ### Items and events -/

@[simp] theorem produce_pans (s : State) (q typ source status : Nat) (payload : Bytes) (bad : Bool) (lag : Nat) :
    (s.produce q typ source status payload bad lag).pans = s.pans := by
  obtain ⟨qs, rg, fs, o, tq, h, -⟩ := produce_spec s q typ source status payload bad lag
  rw [h]
  rfl

@[simp] theorem event_pans (s : State) (q typ source status : Nat) (payload : Bytes) :
    (s.event q typ source status payload).pans = s.pans := by
  obtain ⟨qs, rg, fs, o, tq, al, h, -⟩ := event_spec s q typ source status payload
  rw [h]
  rfl

@[simp] theorem errorEvent_pans (s : State) (c : Option Nat) (status unit cause index arg0 arg1 : Nat) :
    (s.errorEvent c status unit cause index arg0 arg1).pans = s.pans := by
  cases c <;> exact event_pans ..

/-- A trace item is an item or nothing (R455). -/
theorem traceIssue_spec (s : State) (p word : Nat) :
    ∃ qs rg fs o tq, s.traceIssue p word = s.afterItem qs rg fs o tq s.power.smbAlertN ∧ sameRegs rg s.regs := by
  unfold State.traceIssue
  split
  · exact produce_spec ..
  · exact ⟨s.queues, s.regs, s.fns, s.out, s.belfry.telq, rfl, fun _ _ _ => rfl⟩

@[simp] theorem traceIssue_pans (s : State) (p word : Nat) : (s.traceIssue p word).pans = s.pans := by
  obtain ⟨qs, rg, fs, o, tq, h, -⟩ := traceIssue_spec s p word
  rw [h]
  rfl

/-! ### The frame of an instruction -/

/-- A trace item lies within the frame of an instruction. -/
theorem onlyPan_traceIssue (s : State) (p word : Nat) : onlyPan s (s.traceIssue p word) p := by
  obtain ⟨qs, rg, fs, o, tq, h, hregs⟩ := traceIssue_spec s p word
  rw [h]
  refine ⟨fun _ _ => rfl, rfl, rfl, rfl, rfl, rfl, rfl, rfl, rfl, rfl, rfl, rfl, rfl, fun r i hr => ?regs⟩
  case regs => exact congrArg (·.getD (regReset r)) (hregs r i hr)

/-- So does a further update of its Pan. -/
theorem onlyPan.updPan {s t : State} {p : Nat} (h : onlyPan s t p) (f : Pan → Pan) : onlyPan s (t.updPan p f) p := by
  obtain ⟨hother, hrest⟩ := h
  exact ⟨fun p' hp' => (pan_updPan_other t hp' f).trans (hother p' hp'), hrest⟩

/-! ### Completions of the mailbox -/

/-- A fold of operations that leave the Pans alone leaves them alone. -/
theorem foldl_pans {α : Type} {f : State → α → State} (hf : ∀ s a, (f s a).pans = s.pans) (l : List α) (s : State) :
    (l.foldl f s).pans = s.pans :=
  List.foldlRecOn l f (motive := fun t => t.pans = s.pans) rfl fun t ht a _ => (hf t a).trans ht

@[simp] theorem complete_pans (s : State) (pf seq code : Nat) (status : Status) (result : Bytes) :
    (s.complete pf seq code status result).pans = s.pans := by
  unfold State.complete State.cmdDone
  dsimp only
  split <;> simp

@[simp] theorem finishSettle_pans (s : State) (c : Nat) (status : Status) : (s.finishSettle c status).pans = s.pans :=
  foldl_pans (fun _ _ => complete_pans ..) _ _

@[simp] theorem settleDev_pans (s : State) : s.settleDev.pans = s.pans := by
  unfold State.settleDev
  dsimp only
  split
  · split <;> rfl
  · split <;> rfl
  · rfl

@[simp] theorem enterState_pans (s : State) (c : Nat) (new : CtxState) (status : Status) :
    (s.enterState c new status).pans = s.pans := by
  simp [State.enterState, State.harvestStateEvent]

/-! ### Carillon's control messages -/

@[simp] theorem sendFlit_pans (s : State) (k kind : Nat) (payload : Bytes) : (s.sendFlit k kind payload).pans = s.pans := by
  unfold State.sendFlit State.launchFlit
  dsimp only
  split
  · split <;> rfl
  · rfl

@[simp] theorem sendBytes_pans (s : State) (k : Nat) (rec : Bytes) : (s.sendBytes k rec).pans = s.pans := by
  have hflits : ((chunksOf 192 ((rec.length + 191) / 192) rec).zipIdx.foldl
      (fun s x => s.sendFlit k 1 (x.1.take (rec.length - 192 * x.2))) s).pans = s.pans :=
    foldl_pans (fun _ _ => sendFlit_pans ..) _ _
  unfold State.sendBytes State.batchCount State.placeBatch
  dsimp only
  split <;> simp [hflits]

@[simp] theorem sendSealedBy_pans (s : State) (path : Option Nat) (typ dst tag : Nat) (body : Bytes) :
    (s.sendSealedBy path typ dst tag body).pans = s.pans := by
  unfold State.sendSealedBy
  split
  · dsimp only
    split
    · rfl
    · exact sendBytes_pans ..
  · rfl

@[simp] theorem ctl_pans (s : State) (dst : Nat) (c : Ctl) (body : Bytes) : (s.ctl dst c body).pans = s.pans := by
  have hsend : (s.ctlSend (s.pathTo dst) dst (ctlCode c) body).pans = s.pans :=
    foldl_pans (fun _ _ => sendSealedBy_pans ..) _ _
  unfold State.ctl
  dsimp only
  split <;> exact hsend

@[simp] theorem ctlAll_pans (s : State) (c : Ctl) (body : Bytes) : (s.ctlAll c body).pans = s.pans :=
  foldl_pans (fun _ _ => ctl_pans ..) _ _

/-! ### The accumulator -/

@[simp] theorem clearSaved_pans (s : State) (p a n : Nat) : (s.clearSaved p a n).pans = s.pans := by
  unfold State.clearSaved
  split
  · rfl
  · dsimp only
    split
    · split <;> rfl
    · rfl

@[simp] theorem storeZero_pans (s : State) (a n : Nat) : (s.storeZero a n).pans = s.pans := by
  unfold State.storeZero
  split <;> rfl

/-! ### Signatures and keys -/

@[simp] theorem updStream_pans (s : State) (n : Nat) (f : DrbgStream → DrbgStream) : (s.updStream n f).pans = s.pans := rfl

@[simp] theorem noteWait_pans (s : State) (stream : Nat) : (s.noteWait stream).pans = s.pans := by
  unfold State.noteWait
  dsimp only
  split <;> rfl

@[simp] theorem reseedDue_pans (s : State) : s.reseedDue.pans = s.pans := by
  unfold State.reseedDue
  split
  · rfl
  · split <;> rfl

theorem draw_pans {s t : State} {stream n : Nat} {b : Bytes} (h : s.draw stream n = some (b, t)) : t.pans = s.pans := by
  unfold State.draw at h
  dsimp only at h
  split at h
  · cases h
  · cases h
    simp

theorem drawScalar_pans {s t : State} {c : Crypto.Curve} {k : Nat} (h : s.drawScalar c = some (k, t)) :
    t.pans = s.pans := by
  obtain ⟨⟨b, u⟩, hdraw, heq⟩ := Option.map_eq_some_iff.1 h
  cases heq
  exact draw_pans hdraw

theorem ecSign_pans {s t : State} {c : Crypto.Curve} {d : Nat} {msg sig : Bytes}
    (h : s.ecSign c d msg = some (sig, t)) : t.pans = s.pans := by
  unfold State.ecSign at h
  split at h
  · cases h
  next k u hfirst =>
    split at h
    · cases h
      exact drawScalar_pans hfirst
    · split at h
      · cases h
      next k' v hsecond =>
        obtain ⟨sig', -, heq⟩ := Option.map_eq_some_iff.1 h
        cases heq
        exact (drawScalar_pans hsecond).trans (drawScalar_pans hfirst)

theorem signCose_pans {s t : State} {payload cert : Bytes} (h : s.signCose payload = some (cert, t)) :
    t.pans = s.pans := by
  obtain ⟨⟨sig, u⟩, halias, heq⟩ := Option.map_eq_some_iff.1 h
  cases heq
  unfold State.signAlias at halias
  split at halias
  · cases halias
  · obtain ⟨⟨sig', v⟩, hsign, heq⟩ := Option.map_eq_some_iff.1 halias
    cases heq
    exact (count_pans ..).trans (ecSign_pans hsign)

@[simp] theorem endHarvestKeys_pans (s : State) (c : Nat) : (s.endHarvestKeys c).pans = s.pans := by
  unfold State.endHarvestKeys State.dropKeys
  dsimp only
  split <;> rfl

@[simp] theorem endJob_pans (s : State) (c : Nat) : (s.endJob c).pans = s.pans := by
  unfold State.endJob
  split
  · dsimp only
    split <;> rfl
  · rfl

/-- The end of a void, its certificate and keys, is no matter of the Pans (steps 6 and 7 of R382). -/
@[simp] theorem finishVoid_pans (s : State) (c : Nat) : (s.finishVoid c).pans = s.pans := by
  unfold State.finishVoid
  dsimp only
  split
  · rfl
  · split
    · exact noteWait_pans ..
    next cert u hsign => simpa using signCose_pans hsign

end Sys2Proof.Machine
end

/-! Traps (R339, R340): a trap leaves its Pan TRAPPED with the word's pc and the cause's status in PAN_TRAP, and the void
of a live harvest that follows (R382) leaves them there. -/
section
namespace Sys2Proof.Machine

open Sys2Proof

/-- The Pan is TRAPPED, and PAN_TRAP holds a pc and a status code (R340). -/
def trapMarks (pc code : Nat) (q : Pan) : Prop := q.st = .trapped ∧ q.trapPc = pc ∧ q.trapCode = code

section
variable {pc code : Nat} {s : State} {p : Nat}

/-- A quiesce request makes a running Pan QUIESCING and no other (R182, R343). -/
theorem quiescePan_trapMarks (ret : Bool) {q : Pan} (h : trapMarks pc code q) : trapMarks pc code (quiescePan ret q) := by
  obtain ⟨hst, hpc, hcode⟩ := h
  simp [quiescePan, trapMarks, hst, hpc, hcode]

theorem stopped_trapMarks {q : Pan} (h : trapMarks pc code q) : trapMarks pc code (zeroGrainer (stopEngines q)) := h

theorem panZero_trapMarks (a n : Nat) {q : Pan} (h : trapMarks pc code q) : trapMarks pc code (panZero q a n) := h

theorem updPan_trapMarks {f : Pan → Pan} (hf : ∀ q, trapMarks pc code q → trapMarks pc code (f q)) (p' : Nat)
    (h : trapMarks pc code (s.pan p)) : trapMarks pc code ((s.updPan p' f).pan p) :=
  pan_updPan_keeps hf p' h

theorem trapMarks_of_pans {t : State} (hpans : t.pans = s.pans) (h : trapMarks pc code (s.pan p)) :
    trapMarks pc code (t.pan p) := by
  rwa [pan_congr hpans]

theorem returnPans_trapMarks (c : Nat) (h : trapMarks pc code (s.pan p)) : trapMarks pc code ((s.returnPans c).pan p) := by
  unfold State.returnPans
  split
  · exact h
  · refine List.foldlRecOn _ _ (motive := fun t : State => trapMarks pc code (t.pan p)) h fun t ht p' _ => ?_
    split
    · exact ht
    · exact updPan_trapMarks (fun _ => quiescePan_trapMarks true) p' ht

theorem accZero_trapMarks (c : Nat) (h : trapMarks pc code (s.pan p)) : trapMarks pc code ((s.accZero c).pan p) := by
  unfold State.accZero
  dsimp only
  split
  · refine List.foldlRecOn _ _ (motive := fun t : State => trapMarks pc code (t.pan p)) h fun t ht p' _ => ?_
    exact trapMarks_of_pans (clearSaved_pans ..) (updPan_trapMarks (fun _ => panZero_trapMarks _ _) p' ht)
  · exact trapMarks_of_pans (storeZero_pans ..) h

/-- Steps 1 to 5 of R382 stop the engines, return the Pans that run and zero the accumulator; a trapped Pan stays so. -/
theorem voidCore_trapMarks (c : Nat) (cause : Status) (h : trapMarks pc code (s.pan p)) :
    trapMarks pc code ((s.voidCore c cause).pan p) := by
  have hsent : trapMarks pc code
      ((if hvMode (s.ctx c) = 2 && s.car.formed && !s.isTreble then s.sendBytesHome c else s).pan p) := by
    split
    · exact trapMarks_of_pans (ctl_pans ..) h
    · exact h
  refine accZero_trapMarks c (returnPans_trapMarks c ?_)
  exact List.foldlRecOn _ _ (motive := fun t : State => trapMarks pc code (t.pan p)) hsent fun t ht p' _ =>
    updPan_trapMarks (fun _ => stopped_trapMarks) p' ht

theorem voidCtx_trapMarks (c : Nat) (cause : Status) (h : trapMarks pc code (s.pan p)) :
    trapMarks pc code ((s.voidCtx c cause).pan p) := by
  have hlocal {t : State} (ht : trapMarks pc code (t.pan p)) : trapMarks pc code ((t.voidLocal c cause).pan p) := by
    unfold State.voidLocal
    split
    · exact ht
    · exact trapMarks_of_pans (finishVoid_pans ..) (voidCore_trapMarks c cause ht)
  unfold State.voidCtx
  split
  · exact h
  · refine hlocal ?_
    split
    · exact trapMarks_of_pans (ctlAll_pans ..) h
    · exact h

/-- What a trap leaves in the Pan (R340). -/
theorem trap_trapMarks (hp : p < s.pans.length) (pc cause : Nat) :
    trapMarks pc (statusCode (causeStatus cause)) ((s.trap p pc cause).pan p) := by
  have hmarked : trapMarks pc (statusCode (causeStatus cause)) ((s.updPan p fun q => { q with
      st := .trapped, trapPc := pc, trapCode := statusCode (causeStatus cause), blocked := none
      debugHalt := false }).pan p) := by
    rw [pan_updPan_same hp]
    exact ⟨rfl, rfl, rfl⟩
  have hevent := trapMarks_of_pans (errorEvent_pans _ (s.pan p).ctx (statusCode (causeStatus cause)) 1 cause p pc 0) hmarked
  unfold State.trap
  dsimp only
  split
  · exact voidCtx_trapMarks _ _ hevent
  · exact hevent

end

end Sys2Proof.Machine
end

/-! Issue (R331 to R347): what the word at pc comes to where its Pan can issue and the word waits for nothing. -/
section
namespace Sys2Proof.Machine

open Sys2Proof

/-- The state once the issue of a word is traced and counted, before its checks. -/
def State.counted (s : State) (p word : Nat) : State :=
  (s.traceIssue p word).updPan p fun q => { q with pcnt := updAt q.pcnt 3 (· + 1) }

/-- A word waits at issue only where its predicate is true (log entry 61). -/
def State.waits (s : State) (p word : Nat) (k : Plan) : Bool :=
  pReg (s.pan p) (bitsOf word 24 22) != bitOf word 21 &&
    (k.wait || k.gens.any (heldGen (s.pan p)) || k.engines.any fun e => decide (4 ≤ (engQ (s.pan p) e).length))

theorem counted_length (s : State) (p word : Nat) : (s.counted p word).pans.length = s.pans.length := by
  simp [State.counted]

theorem counted_pan {s : State} {p : Nat} (hp : p < s.pans.length) (word : Nat) :
    (s.counted p word).pan p = { s.pan p with pcnt := updAt (s.pan p).pcnt 3 (· + 1) } := by
  rw [State.counted, pan_updPan_same (by simpa using hp), pan_congr (traceIssue_pans ..)]

theorem counted_trap_trapMarks {s : State} {p : Nat} (hp : p < s.pans.length) (word pc cause : Nat) :
    trapMarks pc (statusCode (causeStatus cause)) (((s.counted p word).trap p pc cause).pan p) :=
  trap_trapMarks (by rwa [counted_length]) pc cause

/-- A false predicate lets no word wait. -/
theorem waits_of_skipped {s : State} {p word : Nat} (k : Plan)
    (h : pReg (s.pan p) (bitsOf word 24 22) = bitOf word 21) : s.waits p word k = false := by
  simp [State.waits, h]

section
variable {s : State} {p word : Nat} {step : Bool} {plan : State → Plan}

section
variable (hcan : canIssue (s.pan p) step = true) (hword : (fetched (s.pan p)).head? = some word)
  (hgo : s.waits p word (plan s) = false)
include hcan hword hgo

/-- A set reserved bit traps RESERVED, the predicate unasked. -/
theorem issueWord_of_rsv (hrsv : (plan s).rsv = true) :
    s.issueWord p word step plan = (s.counted p word).trap p (s.pan p).pc 2 := by
  unfold State.waits at hgo
  simp only [State.issueWord, State.counted, hcan, hword, hgo, hrsv, bne_self_eq_false, Bool.not_true, Bool.or_self,
    Bool.false_eq_true, if_false, if_true]

/-- An unlisted value in a word with no reserved bit set traps ENUM, the predicate unasked. -/
theorem issueWord_of_bad (hrsv : (plan s).rsv = false) (hbad : (plan s).bad = true) :
    s.issueWord p word step plan = (s.counted p word).trap p (s.pan p).pc 3 := by
  unfold State.waits at hgo
  simp only [State.issueWord, State.counted, hcan, hword, hgo, hrsv, hbad, bne_self_eq_false, Bool.not_true, Bool.or_self,
    Bool.false_eq_true, if_false, if_true]

end

/-- A well-formed word whose predicate is false moves the sequencer on. -/
theorem issueWord_of_skipped (hcan : canIssue (s.pan p) step = true) (hword : (fetched (s.pan p)).head? = some word)
    (hskip : pReg (s.pan p) (bitsOf word 24 22) = bitOf word 21) (hrsv : (plan s).rsv = false) (hbad : (plan s).bad = false) :
    s.issueWord p word step plan = (s.counted p word).updPan p fun q => flowPan q (fetched (s.pan p)) .next := by
  simp only [State.issueWord, State.counted, hcan, hword, hskip, hrsv, hbad, bne_self_eq_false, Bool.not_true, Bool.not_false,
    Bool.or_self, Bool.false_and, Bool.false_eq_true, if_false, if_true]

/-- An undefined opcode has no plan: it traps OPCODE at once. -/
theorem issueUndefined_eq_trap (hcan : canIssue (s.pan p) step = true) (hword : (fetched (s.pan p)).head? = some word) :
    s.issueUndefined p word step = (s.counted p word).trap p (s.pan p).pc 1 := by
  simp only [State.issueUndefined, State.counted, hcan, hword, bne_self_eq_false, Bool.not_true, Bool.or_self,
    Bool.false_eq_true, if_false]

end

/-- The sequencer's step of a skipped word is the whole of what the word does. -/
theorem skip_spec {s : State} {p : Nat} (hp : p < s.pans.length) (word : Nat) :
    let t := (s.counted p word).updPan p fun q => flowPan q (fetched (s.pan p)) .next
    onlyPan s t p ∧ t.pan p = stepped (s.pan p) (s.pan p) := by
  refine ⟨((onlyPan_traceIssue s p word).updPan _).updPan _, ?_⟩
  rw [pan_updPan_same (by rwa [counted_length]), counted_pan hp]
  rfl

theorem ready_iff {s : State} {p op : Nat} {w : BitVec 25} :
    s.ready p op w = true ↔ canIssue (s.pan p) false = true ∧ (fetched (s.pan p)).head? = some (wordOfOp op w) ∧
      pReg (s.pan p) (bitsOf (wordOfOp op w) 24 22) ≠ bitOf (wordOfOp op w) 21 := by
  simp [State.ready, and_assoc]

/-- An instruction of three registers uses no generator and no engine, and waits for no slice. -/
theorem waits_planAlu (s : State) (p word : Nat) (f : Nat → Nat → Nat) (w : BitVec 25) :
    s.waits p word (planAlu f p w s) = false := by
  simp [State.waits, planAlu]

theorem planAlu_rsv (f : Nat → Nat → Nat) (p : Nat) (w : BitVec 25) (s : State) :
    (planAlu f p w s).rsv = true ↔ fld w 5 0 ≠ 0 := by
  simp [planAlu, rsvBits]

theorem exec_add (p : Fin 48) (w : BitVec 25) (s : State) :
    exec (.add p w) s = .next { s.issueWord p (wordOfOp 0x02 w) false (planAlu opAdd p w) with pending := s.pending } := rfl

theorem exec_undefinedOpcode {word : BitVec 32} (h : listedOps.contains (word.toNat / 2 ^ 25) = false) (p : Fin 48)
    (s : State) : exec (.undefinedOpcode p word) s = .next { s.issueUndefined p word.toNat false with pending := s.pending } := by
  change execUndefinedOpcode p word s = _
  rw [execUndefinedOpcode, h]
  rfl

/-- Settles O39: every instruction's meaning is one issue by its plan; the checks of reserved bits and listed values come
before the predicate's, and a trap's marks outlast the void that it may bring about. -/
theorem skippedAndUndefinedWords : Obligations.SkippedAndUndefinedWords := by
  unfold Obligations.SkippedAndUndefinedWords
  refine ⟨?oneRule, ?whateverPredicate, ?reservedAdd, ?undefined⟩
  case oneRule =>
    intro p w ups s i op plan hrow
    fin_cases hrow <;> rfl
  case whateverPredicate =>
    intro p word s plan hcan hword hskip t
    have hp := lt_length_of_canIssue hcan
    have hgo := waits_of_skipped (plan s) hskip
    refine ⟨fun hrsv => ?reserved, fun hrsv hbad => ?enum, fun hrsv hbad => ?stepOnly⟩
    case reserved =>
      rw [show t = _ from issueWord_of_rsv hcan hword hgo hrsv]
      exact counted_trap_trapMarks hp ..
    case enum =>
      rw [show t = _ from issueWord_of_bad hcan hword hgo hrsv hbad]
      exact counted_trap_trapMarks hp ..
    case stepOnly =>
      rw [show t = _ from issueWord_of_skipped hcan hword hskip hrsv hbad]
      exact skip_spec hp word
  case reservedAdd =>
    intro p w s hready hfld
    obtain ⟨hcan, hword, -⟩ := ready_iff.1 hready
    have htrap := counted_trap_trapMarks (lt_length_of_canIssue hcan) (wordOfOp 0x02 w) (s.pan p).pc 2
    rw [← issueWord_of_rsv hcan hword (waits_planAlu s p _ opAdd w) ((planAlu_rsv ..).2 hfld)] at htrap
    obtain ⟨hst, -, hcode⟩ := htrap
    exact ⟨_, exec_add p w s, hst, hcode⟩
  case undefined =>
    intro p word s hcan hword hunlisted
    have htrap := counted_trap_trapMarks (lt_length_of_canIssue hcan) word.toNat (s.pan p).pc 1
    rw [← issueUndefined_eq_trap hcan hword] at htrap
    exact ⟨_, exec_undefinedOpcode hunlisted p s, htrap⟩

end Sys2Proof.Machine
end

/-! Brine queues (R443 to R448): the three branches of storing an item, and the order of F, R and W that every operation on a
queue keeps. -/
section
namespace Sys2Proof.Machine

open Sys2Proof

/-! ### Storing an item -/

/-- R452: a disabled queue keeps nothing and counts the item. -/
theorem queuePush_of_disabled {b : BQueue} (hen : b.en = false) (cap : Nat) (it : QItem) :
    queuePush b cap it = { b with nextSeq := (b.nextSeq + 1) % 2 ^ 32, lost := satAdd 32 b.lost 1 } := by
  simp [queuePush, hen]

/-- R445: an enabled queue with a free place stores the item at W. -/
theorem queuePush_of_room {b : BQueue} {cap : Nat} (hen : b.en = true) (hroom : b.items.length < cap) (it : QItem) :
    queuePush b cap it =
      { b with nextSeq := (b.nextSeq + 1) % 2 ^ 32, items := b.items ++ [it], w := b.w + 1 } := by
  simp [queuePush, hen, hroom]

/-- R445: an enabled queue without a free place gives up the item at F, and what pointed at it moves on or goes. -/
theorem queuePush_of_full {b : BQueue} {cap : Nat} (hen : b.en = true) (hfull : cap ≤ b.items.length) (it : QItem) :
    queuePush b cap it =
      { b with
        nextSeq := (b.nextSeq + 1) % 2 ^ 32
        items := b.items.tail ++ [it]
        w := b.w + 1
        f := b.f + 1
        r := max b.r (b.f + 1)
        m := if b.m = some b.f then none else b.m
        lost := satAdd 32 b.lost 1 } := by
  simp [queuePush, hen, hfull.not_gt]

/-- An enabled queue advances W by one, with room or without. -/
theorem queuePush_w {b : BQueue} (hen : b.en = true) (cap : Nat) (it : QItem) : (queuePush b cap it).w = b.w + 1 := by
  obtain hroom | hfull := lt_or_ge b.items.length cap
  · rw [queuePush_of_room hen hroom]
  · rw [queuePush_of_full hen hfull]

/-- Every item produced takes its SEQ, whether it is kept or not (R443). -/
theorem queuePush_nextSeq (b : BQueue) (cap : Nat) (it : QItem) :
    (queuePush b cap it).nextSeq = (b.nextSeq + 1) % 2 ^ 32 := by
  cases hen : b.en with
  | false => rw [queuePush_of_disabled hen]
  | true =>
    obtain hroom | hfull := lt_or_ge b.items.length cap
    · rw [queuePush_of_room hen hroom]
    · rw [queuePush_of_full hen hfull]

/-- R at or beyond F moves on from the item given up only where it pointed at that item (R445). -/
theorem max_succ_eq_ite {f r : Nat} (h : f ≤ r) : max r (f + 1) = if r = f then f + 1 else r := by
  split <;> omega

/-! ### The order of F, R and W -/

theorem queueOk_queuePush {cap : Nat} {b : BQueue} (hcap : 0 < cap) (hb : queueOk cap b) (it : QItem) :
    queueOk cap (queuePush b cap it) := by
  obtain ⟨hfr, hrw, hlen, hle, hm⟩ := id hb
  cases hen : b.en with
  | false =>
    rw [queuePush_of_disabled hen]
    exact hb
  | true =>
    obtain hroom | hfull := hle.lt_or_eq
    · rw [queuePush_of_room hen hroom]
      have hkept : (b.items ++ [it]).length = b.w + 1 - b.f := by simp; omega
      exact ⟨hfr, Nat.le_succ_of_le hrw, hkept, hkept.trans_le (by omega), fun k hk => Nat.le_succ_of_le (hm k hk)⟩
    · rw [queuePush_of_full hen hfull.ge]
      have hkept : (b.items.tail ++ [it]).length = b.w + 1 - (b.f + 1) := by simp; omega
      have hr : max b.r (b.f + 1) ≤ b.w + 1 := by omega
      exact ⟨Nat.le_max_right .., hr, hkept, hkept.trans_le (by omega),
        fun k hk => Nat.le_succ_of_le (hm k (Option.ite_none_left_eq_some.1 hk).2)⟩

theorem queueOk_queueMark {cap : Nat} {b : BQueue} (hb : queueOk cap b) : queueOk cap (queueMark b) := by
  obtain ⟨hfr, hrw, hlen, hle, -⟩ := hb
  exact ⟨hfr, hrw, hlen, hle, fun k hk => Option.some.inj hk ▸ hrw⟩

/-- REWIND to a mark that still stands puts R there. -/
theorem queueRewind_of_mark {b : BQueue} {k : Nat} (hm : b.m = some k) (hfk : b.f ≤ k) :
    queueRewind b = { b with r := k, opStatus := statusCode .ok } := by
  simp [queueRewind, hm, hfk]

/-- What REWIND can do: R goes to a valid mark at or beyond F, or else to F, and then no mark is left. -/
theorem queueRewind_cases (b : BQueue) :
    (∃ k, b.m = some k ∧ b.f ≤ k ∧ queueRewind b = { b with r := k, opStatus := statusCode .ok }) ∨
      queueRewind b = { b with r := b.f, m := none, opStatus := statusCode .markLost } := by
  obtain hm | ⟨k, hm⟩ := Option.eq_none_or_eq_some b.m
  · exact .inr (by simp [queueRewind, hm])
  · by_cases hfk : b.f ≤ k
    · exact .inl ⟨k, hm, hfk, queueRewind_of_mark hm hfk⟩
    · exact .inr (by simp [queueRewind, hm, hfk])

@[simp] theorem queueRewind_items (b : BQueue) : (queueRewind b).items = b.items := by
  obtain ⟨k, -, -, h⟩ | h := queueRewind_cases b <;> rw [h]

@[simp] theorem queueRewind_f (b : BQueue) : (queueRewind b).f = b.f := by
  obtain ⟨k, -, -, h⟩ | h := queueRewind_cases b <;> rw [h]

theorem queueOk_queueRewind {cap : Nat} {b : BQueue} (hb : queueOk cap b) : queueOk cap (queueRewind b) := by
  obtain ⟨hfr, hrw, hlen, hle, hm⟩ := hb
  obtain ⟨k, hk, hfk, h⟩ | h := queueRewind_cases b
  · rw [h]
    exact ⟨hfk, hm k hk, hlen, hle, hm⟩
  · rw [h]
    exact ⟨le_rfl, hfr.trans hrw, hlen, hle, nofun⟩

/-- Freeing the places before a position `w` at or beyond F leaves the items from `w` to W − 1. -/
theorem length_drop_of_queueOk {cap : Nat} {b : BQueue} (hb : queueOk cap b) {w : Nat} (hfw : b.f ≤ w) :
    (b.items.drop (w - b.f)).length = b.w - w ∧ (b.items.drop (w - b.f)).length ≤ cap := by
  obtain ⟨-, -, hlen, hle, -⟩ := hb
  rw [List.length_drop]
  omega

theorem queueOk_queueRelease {cap : Nat} {b : BQueue} (hb : queueOk cap b) : queueOk cap (queueRelease b) := by
  obtain ⟨hfr, hrw, -, -, hm⟩ := id hb
  obtain ⟨hlen, hle⟩ := length_drop_of_queueOk hb hfr
  exact ⟨le_rfl, hrw, hlen, hle, fun k hk => hm k (Option.ite_none_left_eq_some.1 hk).2⟩

theorem queueOk_queueReset {cap : Nat} {b : BQueue} (hb : queueOk cap b) (lag : Nat) : queueOk cap (queueReset lag b) := by
  obtain ⟨hfr, hrw, -, -, -⟩ := id hb
  obtain ⟨hlen, hle⟩ := length_drop_of_queueOk hb (Nat.le_max_left b.f (b.w - lag))
  exact ⟨le_rfl, max_le (hfr.trans hrw) (Nat.sub_le ..), hlen, hle, nofun⟩

/-- Settles O45: every operation keeps the order of F, R and W, and storing an item does what its branch says. -/
theorem queuesStayInOrder : Obligations.QueuesStayInOrder := by
  unfold Obligations.QueuesStayInOrder
  intro cap it lag b hcap hb
  refine ⟨queueOk_queuePush hcap hb it, queueOk_queueMark hb, queueOk_queueRewind hb, queueOk_queueRelease hb,
    queueOk_queueReset hb lag, fun hen => queuePush_w hen cap it, fun hen hroom => ?room, fun hen hfull => ?full,
    fun hen => ?disabled, queuePush_nextSeq b cap it, ⟨rfl, rfl, queueRewind_items b, queueRewind_f b⟩, rfl, rfl,
    fun k hk hfk => ?rewind⟩
  case room =>
    rw [queuePush_of_room hen hroom]
    exact ⟨rfl, rfl, rfl, rfl, rfl⟩
  case full =>
    obtain ⟨hfr, -⟩ := hb
    rw [queuePush_of_full hen hfull.ge]
    exact ⟨rfl, rfl, rfl, max_succ_eq_ite hfr, rfl⟩
  case disabled =>
    rw [queuePush_of_disabled hen]
    exact ⟨rfl, rfl⟩
  case rewind => rw [queueRewind_of_mark hk hfk]

end Sys2Proof.Machine
end

/-! The command queue (log entry 1): every meaning answers through `State.done` or leaves the state as it found it, so
a step takes the front command away and touches nothing else of the queue. -/
section
namespace Sys2Proof.Machine

open Sys2Proof

/-- Whatever next state an outcome answers, the commands waiting in it are those waiting in `s`. -/
def keepsQueue (s : State) (o : Host.Outcome State Fault Refusal) : Prop := ∀ t, o = .next t → t.pending = s.pending

@[simp] theorem keepsQueue_done {s u : State} (h : u.pending = s.pending) (t : State) : keepsQueue s (u.done t) := by
  rintro _ ⟨⟩
  exact h

@[simp] theorem keepsQueue_next (s : State) : keepsQueue s (.next s) := by
  rintro _ ⟨⟩
  rfl

@[simp] theorem keepsQueue_fault (s : State) (f : Fault) : keepsQueue s (.fault f) := by
  intro t h
  cases h

/-- Every meaning is `State.done` of what its command makes of the device, outright or in each of its branches but those
that leave the state as it is and the fault of a Store address. -/
theorem exec_keepsQueue (i : Instr) (s : State) : keepsQueue s (exec i s) := by
  cases i
  case queueItemProduce | telemetryTick | avsTransactionDone | haltComplete | kdrainComplete | fenceComplete |
      fencecComplete | recvComplete | waittComplete | engineInstructionComplete | kcfgApply | shiftInDone |
      engineTrap | storeWriteAck | cnoiseComplete | strayEventFlush | sweepSliceStart | storeAccess | keyregLoad |
      keyregDeliver | keyregAttrChange | remaskTick | curveRequest | curveOpComplete | drbgGenerate |
      rngWaitTimeout =>
    simp only [exec, execQueueItemProduce, execTelemetryTick, execAvsTransactionDone, execHaltComplete,
      execKdrainComplete, execFenceComplete, execFencecComplete, execRecvComplete, execWaittComplete,
      execEngineInstructionComplete, execKcfgApply, execShiftInDone, execEngineTrap, execStoreWriteAck,
      execCnoiseComplete, execStrayEventFlush, execSweepSliceStart, execStoreAccess, execKeyregLoad,
      execKeyregDeliver, execKeyregAttrChange, execRemaskTick, execCurveRequest, execCurveOpComplete,
      execDrbgGenerate, execRngWaitTimeout]
    repeat' split
    all_goals simp
  all_goals exact keepsQueue_done rfl _

/-- Settles O2: a step takes the front command away and its meaning keeps the rest, a part of the queue it found. -/
theorem everyStepKeepsTheQueue : Obligations.EveryStepKeepsTheQueue := by
  unfold Obligations.EveryStepKeepsTheQueue
  intro s t hwf hstep
  have hpending : t.pending = s.pending.tail := by
    unfold step at hstep
    split at hstep
    next hnone =>
      cases hstep
      rw [hnone, List.tail_nil]
    next i rest hfront =>
      rw [exec_keepsQueue i _ t hstep, hfront, List.tail_cons]
  refine ⟨hpending, ?_⟩
  rw [State.queueWf, List.all_eq_true] at hwf ⊢
  rw [hpending]
  exact fun i hi => hwf i (List.mem_of_mem_tail hi)

end Sys2Proof.Machine
end

/-! Bit fields: a field of a number, and a number with a field replaced, bit by bit. -/
section
namespace Sys2Proof.Machine

open Sys2Proof

theorem bitOf_eq_testBit (v k : Nat) : bitOf v k = v.testBit k := by
  rw [bitOf, Nat.testBit_eq_decide_div_mod_eq]
  rfl

theorem testBit_bitsOf (v hi lo k : Nat) :
    (bitsOf v hi lo).testBit k = (decide (k < hi + 1 - lo) && v.testBit (lo + k)) := by
  rw [bitsOf, Nat.testBit_mod_two_pow, Nat.testBit_div_two_pow, Nat.add_comm k]

/-- A number in its bits above a field, the field, and the bits below it. -/
theorem eq_split_bits (v : Nat) {hi lo : Nat} (h : lo ≤ hi + 1) :
    v = 2 ^ (hi + 1) * (v / 2 ^ (hi + 1)) + (2 ^ lo * bitsOf v hi lo + v % 2 ^ lo) := by
  have hpow : 2 ^ (hi + 1) = 2 ^ lo * 2 ^ (hi + 1 - lo) := by rw [← Nat.pow_add]; congr 1; omega
  have hfield : v / 2 ^ lo / 2 ^ (hi + 1 - lo) = v / 2 ^ (hi + 1) := by rw [Nat.div_div_eq_div_mul, hpow]
  have hlow := Nat.div_add_mod v (2 ^ lo)
  have hhigh := Nat.div_add_mod (v / 2 ^ lo) (2 ^ (hi + 1 - lo))
  rw [hfield] at hhigh
  calc v = 2 ^ lo * (2 ^ (hi + 1 - lo) * (v / 2 ^ (hi + 1)) + bitsOf v hi lo) + v % 2 ^ lo := by
        rw [bitsOf, hhigh, hlow]
    _ = _ := by rw [Nat.mul_add, ← Nat.mul_assoc, ← hpow, Nat.add_assoc]

/-- The field of `setBits` is the one given, cut to its width; every other bit stands. -/
theorem testBit_setBits (v f k : Nat) {hi lo : Nat} (h : lo ≤ hi + 1) :
    (setBits v hi lo f).testBit k = if lo ≤ k ∧ k ≤ hi then f.testBit (k - lo) else v.testBit k := by
  have hsplit := eq_split_bits v h
  have hpow : 2 ^ (hi + 1) = 2 ^ lo * 2 ^ (hi + 1 - lo) := by rw [← Nat.pow_add]; congr 1; omega
  have hset : setBits v hi lo f =
      2 ^ (hi + 1) * (v / 2 ^ (hi + 1)) + (2 ^ lo * (f % 2 ^ (hi + 1 - lo)) + v % 2 ^ lo) := by
    rw [setBits, Nat.mul_comm (bitsOf v hi lo), Nat.mul_comm (f % _)]
    omega
  have hlow : v % 2 ^ lo < 2 ^ lo := Nat.mod_lt _ (Nat.two_pow_pos lo)
  have hbound {w : Nat} (hw : w < 2 ^ (hi + 1 - lo)) : 2 ^ lo * w + v % 2 ^ lo < 2 ^ (hi + 1) := by
    rw [hpow]
    calc 2 ^ lo * w + v % 2 ^ lo < 2 ^ lo * (w + 1) := by rw [Nat.mul_add]; omega
      _ ≤ 2 ^ lo * 2 ^ (hi + 1 - lo) := Nat.mul_le_mul_left _ hw
  have hv := hbound (w := bitsOf v hi lo) (Nat.mod_lt _ (Nat.two_pow_pos _))
  have hf := hbound (w := f % 2 ^ (hi + 1 - lo)) (Nat.mod_lt _ (Nat.two_pow_pos _))
  rw [hset]
  conv_rhs => rw [hsplit]
  rw [Nat.testBit_two_pow_mul_add _ hf, Nat.testBit_two_pow_mul_add _ hv, Nat.testBit_two_pow_mul_add _ hlow,
    Nat.testBit_two_pow_mul_add _ hlow, Nat.testBit_mod_two_pow]
  by_cases hk : k < lo
  · simp [hk, show ¬ lo ≤ k by omega]
  · by_cases hk' : k ≤ hi
    · simp [hk, hk', show k < hi + 1 by omega, show lo ≤ k by omega, show k - lo < hi + 1 - lo by omega]
    · simp [hk', show ¬ k < hi + 1 by omega]

theorem bitOf_setBits (v f k : Nat) {hi lo : Nat} (h : lo ≤ hi + 1) :
    bitOf (setBits v hi lo f) k = if lo ≤ k ∧ k ≤ hi then bitOf f (k - lo) else bitOf v k := by
  simp only [bitOf_eq_testBit, testBit_setBits v f k h]

/-- Setting one bit, as a sticky flag is set. -/
theorem bitOf_setBits_one (v b k : Nat) : bitOf (setBits v b b 1) k = if k = b then true else bitOf v k := by
  rw [bitOf_setBits v 1 k (Nat.le_succ b)]
  by_cases h : k = b
  · subst h
    simp [bitOf]
  · rw [if_neg h, if_neg (by omega)]

theorem bitsOf_setBits_same (v f : Nat) {hi lo : Nat} (h : lo ≤ hi + 1) :
    bitsOf (setBits v hi lo f) hi lo = f % 2 ^ (hi + 1 - lo) := by
  apply Nat.eq_of_testBit_eq
  intro k
  rw [testBit_bitsOf, testBit_setBits v f _ h, Nat.testBit_mod_two_pow]
  by_cases hk : k < hi + 1 - lo
  · simp [hk, show lo + k ≤ hi by omega]
  · simp [hk]

theorem bitsOf_setBits_other (v f : Nat) {hi lo hi' lo' : Nat} (h : lo ≤ hi + 1) (hdis : hi' < lo ∨ hi < lo') :
    bitsOf (setBits v hi lo f) hi' lo' = bitsOf v hi' lo' := by
  apply Nat.eq_of_testBit_eq
  intro k
  rw [testBit_bitsOf, testBit_bitsOf, testBit_setBits v f _ h]
  by_cases hk : k < hi' + 1 - lo'
  · rw [if_neg (by omega)]
  · simp [hk]

@[simp] theorem bitsOf_mod (v hi lo : Nat) : bitsOf v hi lo % 2 ^ (hi + 1 - lo) = bitsOf v hi lo := Nat.mod_mod ..

/-- Numbers with no bit in common add without a carry. -/
theorem add_eq_or_of_and_eq_zero {a b : Nat} (h : a &&& b = 0) : a + b = a ||| b := by
  have hlt : a + b < 2 ^ (a + b) := Nat.lt_two_pow_self
  have hdisjoint : BitVec.ofNat (a + b) a &&& BitVec.ofNat (a + b) b = 0#(a + b) := by
    rw [← BitVec.ofNat_and, h]
  have hsum := congrArg BitVec.toNat (BitVec.add_eq_or_of_and_eq_zero _ _ hdisjoint)
  rwa [← BitVec.ofNat_add, ← BitVec.ofNat_or, BitVec.toNat_ofNat, BitVec.toNat_ofNat, Nat.mod_eq_of_lt hlt,
    Nat.mod_eq_of_lt (Nat.or_lt_two_pow (by omega) (by omega))] at hsum

/-- Taking away from a number the bits it shares with another leaves its other bits. -/
theorem testBit_sub_and (o w k : Nat) : (o - (o &&& w)).testBit k = (o.testBit k && !w.testBit k) := by
  have hdisjoint : (o &&& w) &&& (o ^^^ (o &&& w)) = 0 := by
    apply Nat.eq_of_testBit_eq
    intro j
    simp only [Nat.testBit_and, Nat.testBit_xor, Nat.zero_testBit]
    cases o.testBit j <;> cases w.testBit j <;> rfl
  have hjoin : (o &&& w) ||| (o ^^^ (o &&& w)) = o := by
    apply Nat.eq_of_testBit_eq
    intro j
    simp only [Nat.testBit_and, Nat.testBit_xor, Nat.testBit_or]
    cases o.testBit j <;> cases w.testBit j <;> rfl
  have hsum := add_eq_or_of_and_eq_zero hdisjoint
  rw [hjoin] at hsum
  rw [show o - (o &&& w) = o ^^^ (o &&& w) by omega, Nat.testBit_xor, Nat.testBit_and]
  cases o.testBit k <;> cases w.testBit k <;> rfl

end Sys2Proof.Machine
end

/-! Register accesses (R15 to R17, R22, R593): what a written field becomes by its access code, a read of a whole register,
a write of a register, and the ordering rule of GOV_VLIMIT. -/
section
namespace Sys2Proof.Machine

open Sys2Proof

/-! ### Access codes -/

section
variable {f : RegField} {old v k : Nat} (h : f.lo ≤ f.hi)
include h

theorem bitsOf_applyFields_rw (hacc : f.acc = .rw) :
    bitsOf (applyFields [f] old v) f.hi f.lo = bitsOf v f.hi f.lo := by
  simp [applyFields, hacc, bitsOf_setBits_same _ _ (Nat.le_succ_of_le h)]

theorem bitOf_applyFields_w1c (hacc : f.acc = .w1c) (hlo : f.lo ≤ k) (hhi : k ≤ f.hi) :
    bitOf (applyFields [f] old v) k = (bitOf old k && !bitOf v k) := by
  have hset : applyFields [f] old v =
      setBits old f.hi f.lo (bitsOf old f.hi f.lo - (bitsOf old f.hi f.lo &&& bitsOf v f.hi f.lo)) := by
    simp [applyFields, hacc]
  have hin : k - f.lo < f.hi + 1 - f.lo := by omega
  rw [hset, bitOf_setBits _ _ _ (Nat.le_succ_of_le h), if_pos ⟨hlo, hhi⟩]
  simp [bitOf_eq_testBit, testBit_sub_and, testBit_bitsOf, hin, Nat.add_sub_cancel' hlo]

theorem bitOf_applyFields_w1s (hacc : f.acc = .w1s) (hlo : f.lo ≤ k) (hhi : k ≤ f.hi) :
    bitOf (applyFields [f] old v) k = (bitOf old k || bitOf v k) := by
  have hset : applyFields [f] old v = setBits old f.hi f.lo (bitsOf old f.hi f.lo ||| bitsOf v f.hi f.lo) := by
    simp [applyFields, hacc]
  have hin : k - f.lo < f.hi + 1 - f.lo := by omega
  rw [hset, bitOf_setBits _ _ _ (Nat.le_succ_of_le h), if_pos ⟨hlo, hhi⟩]
  simp [bitOf_eq_testBit, testBit_bitsOf, hin, Nat.add_sub_cancel' hlo]

/-- Bits outside the field stand, whatever its code. -/
theorem bitOf_applyFields_outside (hout : k < f.lo ∨ f.hi < k) : bitOf (applyFields [f] old v) k = bitOf old k := by
  have hset (x : Nat) : bitOf (setBits old f.hi f.lo x) k = bitOf old k := by
    rw [bitOf_setBits _ _ _ (Nat.le_succ_of_le h), if_neg (by omega)]
  cases hacc : f.acc <;> simp [applyFields, hacc, hset]

end

/-- Settles O5: a write of a field goes bit by bit as its access code says. -/
theorem writeFollowsTheAccessCode : Obligations.WriteFollowsTheAccessCode := by
  unfold Obligations.WriteFollowsTheAccessCode
  rintro _ _ old v f rfl rfl h
  exact ⟨bitsOf_applyFields_rw h, fun hacc k => bitOf_applyFields_w1c h hacc, fun hacc k => bitOf_applyFields_w1s h hacc,
    fun hacc => by simp [applyFields, hacc], fun k => bitOf_applyFields_outside h⟩

/-! ### Whole registers -/

/-- Settles O6: an access of the register's whole width is one read of it, as 8 bytes of a register of 64 bits or as 4 of
one of 32. -/
theorem readReturnsAndClears : Obligations.ReadReturnsAndClears := by
  unfold Obligations.ReadReturnsAndClears
  rintro who sp off width i b r s hok harea hreg hmay hwidth rfl
  have hwhole : s.readOne who sp off width = s.readWhole who r i := by
    simp only [State.readOne, hreg, hmay, Bool.not_true, Bool.false_eq_true, if_false]
    exact if_neg (by omega)
  have hwide : width = 8 → wideAt who sp off = true := by
    rintro rfl
    simp [wideAt, hreg, ← hwidth]
  rw [exec_readClear, readRow_eq_readOne hok harea hwide, hwhole]
  rfl

/-- Settles O4: an access of 4 bytes outside the areas that are no register is one checked write. -/
theorem registerWriteRuns : Obligations.RegisterWriteRuns := by
  unfold Obligations.RegisterWriteRuns
  intro who sp off v b i r s hok harea hreg
  have hwrite : s.writeRow who sp off 4 v false = s.writeReg who r i b 4 (v % 2 ^ 32) := by
    simp [State.writeRow, hok, State.writeAccess, harea, State.writeOne, hreg, -Nat.reducePow]
  rw [← hwrite]
  rfl

/-! ### Addresses of the Inlets -/

/-- A write that moves no address announces none. -/
theorem announceMoved_of_addresses {s t : State} (h : ∀ q, t.addresses q = s.addresses q) : t.announceMoved s = t := by
  unfold State.announceMoved
  refine List.foldlRecOn _ _ (motive := fun u => u = t) rfl fun u hu q _ => ?_
  simp [hu, h q]

/-- The registers that hold a port's addresses. -/
def addressRegs : List Reg := [.inlMac, .inlIpv4, .inlIpv60, .inlIpv61, .inlIpv62, .inlIpv63]

theorem addresses_congr {s t : State} (h : ∀ r ∈ addressRegs, ∀ i, t.reg r i = s.reg r i) (q : Nat) :
    t.addresses q = s.addresses q := by
  simp only [addressRegs, List.forall_mem_cons] at h
  obtain ⟨hmac, hip4, hip0, hip1, hip2, hip3, -⟩ := h
  simp [State.addresses, State.macOf, hmac, hip4, hip0, hip1, hip2, hip3]

/-! ### GOV_VLIMIT -/

theorem rsvNonzero_govVlimit {v : Nat} (hv : v < 2 ^ 32) :
    rsvNonzero .govVlimit (2 ^ 32 - 1) v = (bitsOf v 31 16 != 0) := by
  have hmask : v &&& (2 ^ 32 - 1) = v := by rw [Nat.and_two_pow_sub_one_eq_mod, Nat.mod_eq_of_lt hv]
  rw [rsvNonzero, hmask]
  change (bitsOf v 31 16 != 0 || (false || (false || false))) = _
  simp

/-- Belfry's write after its checks: discarded with UNLISTED, discarded with LIMIT_ORDER, or taken. -/
def State.vlimitTaken (s : State) (v : Nat) : State :=
  if unlisted .govVlimit v then s.setBit .cadErr 0 1
  else if bitsOf v 15 8 < bitsOf v 7 0 then s.setBit .cadErr 0 2
  else s.setReg .govVlimit 0 (setBits (setBits (s.reg .govVlimit 0) 15 8 (bitsOf v 15 8)) 7 0 (bitsOf v 7 0))

/-- The same with RSV_WRITE, which reserved bits set beside it. -/
def State.vlimitWritten (s : State) (v : Nat) : State :=
  if bitsOf v 31 16 ≠ 0 then (s.vlimitTaken v).setBit .cadErr 0 0 else s.vlimitTaken v

theorem putReg_govVlimit (s : State) {v : Nat} (hv : v < 2 ^ 32) :
    s.putReg .belfry .govVlimit 0 0 4 v = s.vlimitWritten v := by
  have hfull : fullValue (regPlace .govVlimit) (s.regView .belfry .govVlimit 0) 0 4 v = (v, 2 ^ 32 - 1) := by
    rw [fullValue, if_neg (by decide)]
    exact congrArg (·, 2 ^ 32 - 1) (Nat.mod_eq_of_lt hv)
  have hcheck : s.checkWrite .belfry .govVlimit 0 v =
      if unlisted .govVlimit v then (false, s.setBit .cadErr 0 1)
      else if bitsOf v 15 8 < bitsOf v 7 0 then (false, s.setBit .cadErr 0 2) else (true, s) := by
    change (if unlisted .govVlimit v then _ else if true && decide (bitsOf v 15 8 < bitsOf v 7 0) then _ else _) = _
    simp only [Bool.true_and, decide_eq_true_eq]
    rfl
  have htake : s.takeWrite .belfry .govVlimit 0 v = s.setReg .govVlimit 0
      (setBits (setBits (s.reg .govVlimit 0) 15 8 (bitsOf v 15 8)) 7 0 (bitsOf v 7 0)) := rfl
  have hflag (t : State) : t.rsvFlag .belfry .govVlimit 0 (2 ^ 32 - 1) v =
      if bitsOf v 31 16 ≠ 0 then t.setBit .cadErr 0 0 else t := by
    rw [State.rsvFlag, rsvNonzero_govVlimit hv]
    simp only [bne_iff_ne, ne_eq, Bool.and_eq_true, show mayRead .belfry .govVlimit = true from rfl, true_and]
    rfl
  have hput : s.putReg .belfry .govVlimit 0 0 4 v =
      ((if (s.checkWrite .belfry .govVlimit 0 v).1 then
        (s.checkWrite .belfry .govVlimit 0 v).2.takeWrite .belfry .govVlimit 0 v
        else (s.checkWrite .belfry .govVlimit 0 v).2).rsvFlag .belfry .govVlimit 0 (2 ^ 32 - 1) v) := by
    simp only [State.putReg, hfull]
    rfl
  rw [hput, hflag, hcheck, State.vlimitWritten, State.vlimitTaken]
  by_cases hlist : unlisted .govVlimit v
  · simp [hlist]
  · by_cases horder : bitsOf v 15 8 < bitsOf v 7 0
    · simp [hlist, horder]
    · simp [hlist, horder, htake]

theorem vlimitWritten_reg_other (s : State) (v i : Nat) {r : Reg} (hlimit : r ≠ .govVlimit) (herr : r ≠ .cadErr) :
    (s.vlimitWritten v).reg r i = s.reg r i := by
  have herrs (t : State) (b : Nat) : (t.setBit .cadErr 0 b).reg r i = t.reg r i := reg_setReg_other t _ (.inl herr)
  have htaken : (s.vlimitTaken v).reg r i = s.reg r i := by
    unfold State.vlimitTaken
    split
    · exact herrs ..
    · split
      · exact herrs ..
      · exact reg_setReg_other s _ (.inl hlimit)
  unfold State.vlimitWritten
  split
  · rw [herrs, htaken]
  · exact htaken

/-- Belfry's row is its write: GOV_VLIMIT and CAD_ERR hold no address of a port. -/
theorem exec_govVlimitWrite {s : State} (hrun : s.belfry.running = true) {v : Nat} (hv : v < 2 ^ 32) :
    exec (.govVlimitWrite .belfry v) s = .next { s.vlimitWritten v with pending := s.pending } := by
  have haddress (q : Nat) : (s.vlimitWritten v).addresses q = s.addresses q := by
    refine addresses_congr (fun r hr i => vlimitWritten_reg_other s v i ?_ ?_) q
    · rintro rfl
      exact absurd hr (by decide)
    · rintro rfl
      exact absurd hr (by decide)
  change s.done (if s.reaches .belfry .bar2 then s.writeReg .belfry .govVlimit 0 0 4 v else s) = _
  rw [if_pos (by exact hrun), State.writeReg, putReg_govVlimit s hv, announceMoved_of_addresses haddress]
  rfl

theorem bitOf_cadErr_setBit (s : State) (b k : Nat) :
    bitOf ((s.setBit .cadErr 0 b).reg .cadErr 0) k = if k = b then true else bitOf (s.reg .cadErr 0) k := by
  rw [State.setBit, reg_setReg_same, bitOf_setBits_one]

/-- RSV_WRITE beside another effect leaves GOV_VLIMIT and the other bits of CAD_ERR. -/
theorem vlimitWritten_keeps (s : State) (v : Nat) :
    (s.vlimitWritten v).reg .govVlimit 0 = (s.vlimitTaken v).reg .govVlimit 0 ∧
      ∀ k ≠ 0, bitOf ((s.vlimitWritten v).reg .cadErr 0) k = bitOf ((s.vlimitTaken v).reg .cadErr 0) k := by
  unfold State.vlimitWritten
  split
  · exact ⟨reg_setReg_other _ _ (.inl (by decide)), fun k hk => by rw [bitOf_cadErr_setBit, if_neg hk]⟩
  · exact ⟨rfl, fun _ _ => rfl⟩

/-- A write that a check discards sets its flag in CAD_ERR and leaves GOV_VLIMIT. -/
theorem vlimitWritten_discarded {s : State} {v b : Nat} (hb : b ≠ 0) (h : s.vlimitTaken v = s.setBit .cadErr 0 b) :
    (s.vlimitWritten v).reg .govVlimit 0 = s.reg .govVlimit 0 ∧ bitOf ((s.vlimitWritten v).reg .cadErr 0) b = true := by
  obtain ⟨hlimit, herr⟩ := vlimitWritten_keeps s v
  rw [hlimit, herr b hb, h, bitOf_cadErr_setBit, if_pos rfl]
  exact ⟨reg_setReg_other _ _ (.inl (by decide)), rfl⟩

/-- Settles O8: the checks come in the order of R16, R17 and R82, and RSV_WRITE is set beside what they make of the
write. -/
theorem govVlimitWriteIsOrdered : Obligations.GovVlimitWriteIsOrdered := by
  unfold Obligations.GovVlimitWriteIsOrdered
  intro v s hrun hv
  have hexec := exec_govVlimitWrite hrun hv
  refine ⟨fun hlist horder => ⟨_, hexec, ?low, ?high, fun hrsv => ?clean⟩, fun hlist horder => ⟨_, hexec, ?order⟩,
    fun hlist => ⟨_, hexec, ?enum⟩, fun hrsv => ⟨_, hexec, ?reserved⟩⟩
  case order =>
    exact vlimitWritten_discarded (by decide) (by simp [State.vlimitTaken, hlist, horder])
  case enum =>
    exact vlimitWritten_discarded (by decide) (by simp [State.vlimitTaken, hlist])
  case reserved =>
    change bitOf ((s.vlimitWritten v).reg .cadErr 0) 0 = true
    rw [State.vlimitWritten, if_pos hrsv, bitOf_cadErr_setBit, if_pos rfl]
  all_goals
    have htaken : s.vlimitTaken v = s.setReg .govVlimit 0
        (setBits (setBits (s.reg .govVlimit 0) 15 8 (bitsOf v 15 8)) 7 0 (bitsOf v 7 0)) := by
      rw [State.vlimitTaken, if_neg (by simp [hlist]), if_neg (Nat.not_lt.2 horder)]
  case low =>
    change bitsOf ((s.vlimitWritten v).reg .govVlimit 0) 7 0 = _
    rw [(vlimitWritten_keeps s v).1, htaken, reg_setReg_same, bitsOf_setBits_same _ _ (by decide), bitsOf_mod]
  case high =>
    change bitsOf ((s.vlimitWritten v).reg .govVlimit 0) 15 8 = _
    rw [(vlimitWritten_keeps s v).1, htaken, reg_setReg_same, bitsOf_setBits_other _ _ (by decide) (.inr (by decide)),
      bitsOf_setBits_same _ _ (by decide), bitsOf_mod]
  case clean =>
    change (s.vlimitWritten v).reg .cadErr 0 = _
    rw [State.vlimitWritten, if_neg (by simp [hrsv]), htaken, reg_setReg_other _ _ (.inl (by decide))]

end Sys2Proof.Machine
end

/-! What an item or an event leaves alone, as a relation of two states. -/
section
namespace Sys2Proof.Machine

open Sys2Proof

/-- `t` is `s` after items and events: queues, Q_EVT, pending interrupts, output, TELQ's copies and SMB_ALERT_N alone may
differ. -/
def eventsOnly (s t : State) : Prop :=
  ∃ qs rg fs o tq al, t = s.afterItem qs rg fs o tq al ∧ sameRegs rg s.regs

theorem eventsOnly.refl (s : State) : eventsOnly s s :=
  ⟨s.queues, s.regs, s.fns, s.out, s.belfry.telq, s.power.smbAlertN, rfl, fun _ _ _ => rfl⟩

theorem eventsOnly.trans {s t u : State} (h : eventsOnly s t) (h' : eventsOnly t u) : eventsOnly s u := by
  obtain ⟨qs, rg, fs, o, tq, al, rfl, hr⟩ := h
  obtain ⟨qs', rg', fs', o', tq', al', rfl, hr'⟩ := h'
  exact ⟨qs', rg', fs', o', tq', al', rfl, fun r i hne => (hr' r i hne).trans (hr r i hne)⟩

theorem eventsOnly_event (s : State) (q typ source status : Nat) (payload : Bytes) :
    eventsOnly s (s.event q typ source status payload) := event_spec s q typ source status payload

theorem eventsOnly_errorEvent (s : State) (c : Option Nat) (status unit cause index arg0 arg1 : Nat) :
    eventsOnly s (s.errorEvent c status unit cause index arg0 arg1) := by
  cases c <;> exact eventsOnly_event ..

/-- A fault is counted and logged, and beyond that raises at most its event (R645, R666). -/
theorem eventsOnly_fault (s : State) (cls unit index status : Nat) (voided : Option Nat) (loc arg : Nat) :
    eventsOnly (s.faultRaw cls unit index status voided loc arg) (s.fault cls unit index status voided loc arg) := by
  unfold State.fault
  dsimp only
  split
  · exact .refl _
  · exact eventsOnly_errorEvent ..

/-- Logging a fault changes the log and the counts of faults alone. -/
theorem faultRaw_spec (s : State) (cls unit index status : Nat) (voided : Option Nat) (loc arg : Nat) :
    ∃ sw, s.faultRaw cls unit index status voided loc arg = { s with sweep := sw } ∧
      sw.written = (s.sweep.written + 1) % 2 ^ 32 := ⟨_, rfl, rfl⟩

section
variable {s t : State} (h : eventsOnly s t)
include h

theorem eventsOnly.cad : t.cad = s.cad := by obtain ⟨qs, rg, fs, o, tq, al, rfl, -⟩ := h; rfl
theorem eventsOnly.dev : t.dev = s.dev := by obtain ⟨qs, rg, fs, o, tq, al, rfl, -⟩ := h; rfl
theorem eventsOnly.toc : t.toc = s.toc := by obtain ⟨qs, rg, fs, o, tq, al, rfl, -⟩ := h; rfl
theorem eventsOnly.pans : t.pans = s.pans := by obtain ⟨qs, rg, fs, o, tq, al, rfl, -⟩ := h; rfl
theorem eventsOnly.ctxs : t.ctxs = s.ctxs := by obtain ⟨qs, rg, fs, o, tq, al, rfl, -⟩ := h; rfl
theorem eventsOnly.sweep : t.sweep = s.sweep := by obtain ⟨qs, rg, fs, o, tq, al, rfl, -⟩ := h; rfl
theorem eventsOnly.keyhold : t.keyhold = s.keyhold := by obtain ⟨qs, rg, fs, o, tq, al, rfl, -⟩ := h; rfl

theorem eventsOnly.power : ∃ alert, t.power = { s.power with smbAlertN := alert } := by
  obtain ⟨qs, rg, fs, o, tq, al, rfl, -⟩ := h
  exact ⟨al, rfl⟩

theorem eventsOnly.reg {r : Reg} (hr : r ≠ .qEvt) (i : Nat) : t.reg r i = s.reg r i := by
  obtain ⟨qs, rg, fs, o, tq, al, rfl, hregs⟩ := h
  exact congrArg (·.getD (regReset r)) (hregs r i hr)

end

end Sys2Proof.Machine
end

/-! The cadence block (R79 to R92): the governor's branches and bounds, AVSBus transactions as they end, readings and
snapshots. -/
section
namespace Sys2Proof.Machine

open Sys2Proof

/-! ### The branches of a run -/

theorem clampV_mem {vmin vmax : Nat} (h : vmin ≤ vmax) (v : Nat) : vmin ≤ clampV vmin vmax v ∧ clampV vmin vmax v ≤ vmax := by
  unfold clampV
  omega

/-- No branch leads out of the limits. -/
theorem govAct_mem {vmin vmax v : Nat} (hlo : vmin ≤ v) (hhi : v ≤ vmax) (b step brake : Nat) (byBrake : Bool) :
    vmin ≤ (govAct b step vmin vmax byBrake v brake).1 ∧ (govAct b step vmin vmax byBrake v brake).1 ≤ vmax := by
  unfold govAct
  split
  · exact ⟨le_rfl, hlo.trans hhi⟩
  · split_ifs
    · exact ⟨hlo, hhi⟩
    · dsimp only
      omega
    · exact ⟨le_rfl, hlo.trans hhi⟩
  · split_ifs
    · exact ⟨hlo, hhi⟩
    · exact ⟨hlo, hhi⟩
    · dsimp only
      omega
  · exact ⟨hlo, hhi⟩

/-! ### The frame of a run -/

/-- Nothing that a run's report or its AVSBus transactions touch: setpoint, brake, toll, Pans and every register but CAD_EVT
and Q_EVT read alike. -/
def sameGovernor (s t : State) : Prop :=
  t.cad.vset = s.cad.vset ∧ t.cad.brake = s.cad.brake ∧ t.cad.toll = s.cad.toll ∧ t.pans = s.pans ∧
    ∀ r i, r ≠ .cadEvt → r ≠ .qEvt → t.reg r i = s.reg r i

theorem sameGovernor.refl (s : State) : sameGovernor s s := ⟨rfl, rfl, rfl, rfl, fun _ _ _ _ => rfl⟩

theorem sameGovernor.trans {s t u : State} (h : sameGovernor s t) (h' : sameGovernor t u) : sameGovernor s u := by
  obtain ⟨hv, hb, ht, hp, hr⟩ := h
  obtain ⟨hv', hb', ht', hp', hr'⟩ := h'
  exact ⟨hv'.trans hv, hb'.trans hb, ht'.trans ht, hp'.trans hp, fun r i hc hq => (hr' r i hc hq).trans (hr r i hc hq)⟩

theorem sameGovernor.ite {p : Prop} [Decidable p] {s t u : State} (ht : sameGovernor s t) (hu : sameGovernor s u) :
    sameGovernor s (if p then t else u) := by
  split
  · exact ht
  · exact hu

theorem sameGovernor_of_eventsOnly {s t : State} (h : eventsOnly s t) : sameGovernor s t := by
  refine ⟨?_, ?_, ?_, h.pans, fun r i _ hq => h.reg hq i⟩ <;> rw [h.cad]

theorem sameGovernor_setBit_cadEvt (s : State) (b : Nat) : sameGovernor s (s.setBit .cadEvt 0 b) :=
  ⟨rfl, rfl, rfl, rfl, fun _ _ hc _ => reg_setReg_other s _ (.inl hc)⟩

theorem sameGovernor_govReport (s : State) (oldBrake power : Nat) (tj : Int) (thr thrP : Bool) :
    sameGovernor s (s.govReport oldBrake power tj thr thrP) := by
  have hevent (t : State) (reason : Nat) : sameGovernor t (t.thermalEvent reason power tj) :=
    sameGovernor_of_eventsOnly (eventsOnly_event ..)
  have hcad (a b c : Bool) :
      sameGovernor s { s with cad := { s.cad with throttleT := a, throttleP := b, hot := c } } :=
    ⟨rfl, rfl, rfl, rfl, fun _ _ _ _ => rfl⟩
  exact (hcad ..).trans ((sameGovernor.ite ((sameGovernor_setBit_cadEvt ..).trans (hevent ..)) (.refl _)).trans
    ((sameGovernor.ite (sameGovernor_setBit_cadEvt ..) (.refl _)).trans (.ite (hevent ..) (.refl _))))

theorem sameGovernor_avsSend (s : State) : sameGovernor s s.avsSend := by
  unfold State.avsSend
  split <;> exact ⟨rfl, rfl, rfl, rfl, fun _ _ _ _ => rfl⟩

theorem sameGovernor_avsQueue (s : State) (l : List AvsTx) : sameGovernor s (s.avsQueue l) := by
  have hcad : sameGovernor s { s with cad := { s.cad with avs := s.cad.avs ++ l } } :=
    ⟨rfl, rfl, rfl, rfl, fun _ _ _ _ => rfl⟩
  unfold State.avsQueue
  dsimp only
  split
  · exact hcad.trans (sameGovernor_avsSend _)
  · exact hcad

/-- The setpoint that a run starts from (R81). -/
def State.govStart (s : State) : Nat :=
  if !s.govEn then s.cad.vset
  else if s.govFixed then clampV s.govVmin s.govVmax s.govVfixed else clampV s.govVmin s.govVmax s.cad.vset

/-- What a run outside AVS fault decides. -/
def State.govDecision (s : State) (power : Nat) (tj : Int) : Nat × Nat :=
  govAct (govBranch s.govEn s.govCap power tj) (govStep s.govCap power tj) s.govVmin s.govVmax s.govFixed s.govStart s.cad.brake

/-- A run outside AVS fault takes its decision, and touches nothing else of the frame. -/
theorem govern_spec {s : State} (hfault : s.cad.avsFault = false) (power : Nat) (tj : Int) :
    ((s.govern power tj).cad.vset, (s.govern power tj).cad.brake) = s.govDecision power tj ∧
      (s.govern power tj).cad.toll = s.cad.toll ∧ (s.govern power tj).pans = s.pans ∧
      ∀ r i, r ≠ .cadEvt → r ≠ .qEvt → (s.govern power tj).reg r i = s.reg r i := by
  obtain ⟨unmet, hv, hb, ht, hp, hr⟩ : ∃ unmet, sameGovernor
      { s with cad := { s.cad with
        vset := (s.govDecision power tj).1, brake := (s.govDecision power tj).2, runBad := false
        lastPower := power, lastTj := tj, capUnmet := unmet } } (s.govern power tj) := by
    unfold State.govDecision State.govStart State.govern
    simp only [hfault, Bool.false_eq_true, if_false]
    exact ⟨_, (sameGovernor_govReport ..).trans (.ite (sameGovernor_avsQueue ..) (.ite (.refl _) (sameGovernor_avsQueue ..)))⟩
  exact ⟨Prod.ext hv hb, ht, hp, hr⟩

theorem exec_governorRun {s : State} (hrun : s.cad.running = true) (htick : s.cad.toll % 1000 = 0) (power : Nat) (tj : Int) :
    exec (.governorRun power tj) s = .next { s.govern power tj with pending := s.pending } := by
  change s.done (if s.cad.running && s.cad.toll % 1000 == 0 then s.govern power tj else s) = _
  rw [if_pos (by simp [hrun, htick])]
  rfl

/-- Settles O11: the run takes its decision, from a start within the limits where EN is set, and no branch leaves them. -/
theorem governorFollowsItsBranches : Obligations.GovernorFollowsItsBranches := by
  unfold Obligations.GovernorFollowsItsBranches
  intro power tj s hrun htick hfault
  obtain ⟨hdecision, htoll, hpans, hregs⟩ := govern_spec hfault power tj
  refine ⟨_, exec_governorRun hrun htick power tj, hdecision, fun hen hlimits => ?between, htoll, hpans, hregs⟩
  case between =>
    have hstart : s.govVmin ≤ s.govStart ∧ s.govStart ≤ s.govVmax := by
      unfold State.govStart
      rw [if_neg (by simp [hen])]
      split <;> exact clampV_mem hlimits _
    have hmem := govAct_mem hstart.1 hstart.2 (govBranch s.govEn s.govCap power tj) (govStep s.govCap power tj) s.cad.brake
      s.govFixed
    have hv : (s.govern power tj).cad.vset = (s.govDecision power tj).1 := congrArg Prod.fst hdecision
    change s.govVmin ≤ (s.govern power tj).cad.vset ∧ (s.govern power tj).cad.vset ≤ s.govVmax
    rw [hv]
    exact hmem

/-- Settles O12: at 95 °C or more the first branch is the one that applies, whatever EN says. -/
theorem emergencyBranch : Obligations.EmergencyBranch := by
  unfold Obligations.EmergencyBranch
  intro power tj s hrun htick hfault hhot
  obtain ⟨hdecision, -⟩ := govern_spec hfault power tj
  have hbranch : s.govDecision power tj = (s.govVmin, max s.cad.brake 2) := by
    rw [State.govDecision, govBranch, if_pos hhot]
    rfl
  rw [hbranch] at hdecision
  exact ⟨_, exec_governorRun hrun htick power tj, congrArg Prod.fst hdecision, congrArg Prod.snd hdecision⟩

/-! ### AVSBus -/

/-- Sending touches what leaves the device alone. -/
@[simp] theorem avsSend_cad (s : State) : s.avsSend.cad = s.cad := by
  unfold State.avsSend
  split <;> rfl

section
variable {s : State} {x : AvsTx} {rest : List AvsTx} (havs : s.cad.avs = x :: rest) {mv : Nat}
include havs

/-- A readback within 15 mV, or another transaction, ends well where the slave answers. -/
theorem exec_avsTransactionDone_good (hwindow : x.kind ≠ 2 ∨ (mv ≤ 5 * x.value + 15 ∧ 5 * x.value ≤ mv + 15)) :
    exec (.avsTransactionDone true mv) s = .next { s.avsGood x rest with pending := s.pending } := by
  change execAvsTransactionDone true mv s = _
  have hmet : (x.kind == 2 && !(decide (mv ≤ 5 * x.value + 15) && decide (5 * x.value ≤ mv + 15))) = false := by
    rcases hwindow with h | h <;> simp [h]
  simp only [execAvsTransactionDone, havs, Bool.true_and, hmet]
  rfl

/-- A transaction without an answer fails for good where it has had its retry, and goes out again where it has not. -/
theorem exec_avsTransactionDone_failed :
    exec (.avsTransactionDone false mv) s = .next { (if x.retried = true then s.avsFails x rest
      else ({ s with cad := { s.cad with avs := avsAgain x false rest } } : State).avsSend) with pending := s.pending } := by
  change execAvsTransactionDone false mv s = _
  simp only [execAvsTransactionDone, havs, Bool.false_and, Bool.false_eq_true, if_false]
  split <;> rfl

/-- A readback outside its window is asked for again behind a second write of its setpoint. -/
theorem exec_avsTransactionDone_missed (hkind : x.kind = 2) (hnew : x.rewritten = false)
    (hout : 5 * x.value + 15 < mv ∨ mv + 15 < 5 * x.value) :
    exec (.avsTransactionDone true mv) s = .next { ({ s with cad := { s.cad with avs := avsAgain x true rest } } :
      State).avsSend with pending := s.pending } := by
  change execAvsTransactionDone true mv s = _
  have hmissed : (x.kind == 2 && !(decide (mv ≤ 5 * x.value + 15) && decide (5 * x.value ≤ mv + 15))) = true := by
    simp [hkind]
    omega
  simp only [execAvsTransactionDone, havs, Bool.true_and, hmissed, hnew]
  rfl

end

/-- AVS fault is entered: VDDC is taken to stand at VMAX, nothing more is sent, the flag and one logged fault are set. -/
theorem avsFault_spec (s : State) :
    s.avsFault.cad.avsFault = true ∧ s.avsFault.cad.vset = s.govVmax ∧ s.avsFault.cad.avs = [] ∧
      bitOf (s.avsFault.reg .cadEvt 0) 2 = true ∧ s.avsFault.sweep.written = (s.sweep.written + 1) % 2 ^ 32 := by
  let t : State := ({ s with cad := { s.cad with
    avsFault := true, vset := s.govVmax, goodRuns := 0, runBad := false, avs := [] } } : State).setBit .cadEvt 0 2
  have hevents : eventsOnly (t.faultRaw 2 6 0 (statusCode .lastingFault) none 0 0) s.avsFault := eventsOnly_fault ..
  have hbit : t.reg .cadEvt 0 = setBits (s.reg .cadEvt 0) 2 2 1 := reg_setReg_same ..
  obtain ⟨sw, hraw, hwritten⟩ := faultRaw_spec t 2 6 0 (statusCode .lastingFault) none 0 0
  rw [hraw] at hevents
  refine ⟨by rw [hevents.cad]; rfl, by rw [hevents.cad]; rfl, by rw [hevents.cad]; rfl, ?_, by rw [hevents.sweep]; exact hwritten⟩
  rw [hevents.reg (by decide)]
  change bitOf (t.reg .cadEvt 0) 2 = true
  rw [hbit, bitOf_setBits_one]
  rfl

/-- Outside AVS fault a transaction that fails for good enters it, the governor running or started. -/
theorem avsFails_of_running {s : State} (rest : List AvsTx) (x : AvsTx) (hfault : s.cad.avsFault = false) :
    ∃ u : State, s.avsFails x rest = u.avsFault ∧ u.govVmax = s.govVmax ∧ u.sweep = s.sweep := by
  by_cases hfirst : x.first
  · exact ⟨{ s with cad := { s.cad with running := true } }, by simp [State.avsFails, hfirst, hfault], rfl, rfl⟩
  · exact ⟨s, by simp [State.avsFails, hfirst, hfault], rfl, rfl⟩

/-- Settles O13: the good end, the retry, the second write and the fault are the four outcomes of a transaction. -/
theorem avsTransactionEnds : Obligations.AvsTransactionEnds := by
  unfold Obligations.AvsTransactionEnds
  intro mv x rest s havs
  refine ⟨fun hfirst hwindow => ?good, fun hfirst hkind => ?retry, fun y rest' hfirst hkind hrest => ?retryWrite,
    fun hkind hnew hout => ?missed, fun hretried hfault => ?fault⟩
  case good =>
    rw [exec_avsTransactionDone_good havs hwindow]
    simp only [State.avsGood, hfirst, Bool.false_and, Bool.false_eq_true, if_false]
    split <;> rfl
  case retry =>
    refine ⟨_, exec_avsTransactionDone_failed havs, ?_⟩
    simp [hfirst, avsAgain, hkind]
  case retryWrite =>
    refine ⟨_, exec_avsTransactionDone_failed havs, ?_⟩
    simp [hfirst, avsAgain, hkind, hrest]
  case missed =>
    refine ⟨_, exec_avsTransactionDone_missed havs hkind hnew hout, ?_⟩
    simp [avsAgain, hkind]
  case fault =>
    refine ⟨_, exec_avsTransactionDone_failed havs, ?_⟩
    rw [if_pos hretried]
    obtain ⟨u, hfails, hvmax, hsweep⟩ := avsFails_of_running rest x hfault
    obtain ⟨hentered, hv, hnone, hbit, hwritten⟩ := avsFault_spec u
    rw [hfails]
    exact ⟨hentered, hv.trans hvmax, hnone, hbit, hwritten.trans (by rw [hsweep])⟩

/-! ### Readings and snapshots -/

/-- Settles O10: each row acts at once where its condition holds. -/
theorem cadenceRowsRun : Obligations.CadenceRowsRun := by
  unfold Obligations.CadenceRowsRun
  refine ⟨fun power tj kettle s hruns => ?reading, fun s hrun hunmet => ?cap, fun s htick => ?snapshot⟩
  case reading =>
    change execReadingUpdate power tj kettle s = _
    rw [execReadingUpdate, if_pos hruns]
    rfl
  case cap =>
    change execThermalCapRepeat s = _
    rw [execThermalCapRepeat, if_pos (by simp [hrun, hunmet])]
    rfl
  case snapshot =>
    change execCounterSnapshot s = _
    rw [execCounterSnapshot, if_pos htick]
    rfl

end Sys2Proof.Machine
end

/-! Resets (R133 to R138): what a system reset clears and leaves, and the rows that lead to it and out of it. -/
section
namespace Sys2Proof.Machine

open Sys2Proof

/-! ### A system reset -/

/-- Closing the sessions ends what Belfry held for them; it is told on each. -/
theorem closeSessions_spec (s : State) : ∃ o, s.closeSessions = { s with
    belfry := { s.belfry with
      sessions := [], queue := [], waiting := s.belfry.waiting.filter fun w => w.1 == smbusSession }
    out := o } := by
  have hfold (l : List Session) (t : State) : ∃ o, l.foldl (fun s x => s.emit (.sessionClosed x.id)) t = { t with out := o } := by
    induction l generalizing t with
    | nil => exact ⟨t.out, rfl⟩
    | cons x l ih => exact ih (t.emit (.sessionClosed x.id))
  obtain ⟨o, h⟩ := hfold s.belfry.sessions _
  exact ⟨o, h⟩

theorem reg_singleton (s : State) (r : Reg) (i v : Nat) (h : s.regs = [(r, i, v)]) : s.reg r i = v := by
  simp [State.reg, regLookup, h]

theorem systemReset_devResetCause (s : State) (cause : Nat) (pin : Bool) :
    (s.systemReset cause pin).reg .devResetCause 0 = 2 ^ cause + b2n (!s.power.thermtripN) * 16 :=
  reg_singleton _ _ _ _ rfl

/-- Settles O14: the blocks that Table BOO-2 names are those of a new state; the others are taken from the state whose
sessions are closed. -/
theorem systemResetClears : Obligations.SystemResetClears := by
  unfold Obligations.SystemResetClears
  intro cause pin s _ htherm
  obtain ⟨o, hclosed⟩ := closeSessions_spec s
  have hcause := systemReset_devResetCause s cause pin
  rw [htherm] at hcause
  refine ⟨?_, rfl, rfl, rfl, rfl, rfl, rfl, hcause, rfl, ?_⟩
  · simp only [State.systemReset, hclosed]
  · simp only [State.systemReset, hclosed, and_self]

/-! ### The rows of resets -/

theorem finishBurn_of_not_burning {s : State} (h : s.toc.burning = false) : s.finishBurn = s := by
  simp [State.finishBurn, h]

/-- Training changes the link's state, with its event, and nothing else. -/
theorem setPcie_spec (s : State) (n : Nat) : eventsOnly { s with dev := { s.dev with pcie := n } } (s.setPcie n) := by
  unfold State.setPcie
  split
  next h =>
    subst h
    exact .refl _
  · exact eventsOnly_event ..

theorem pcieTrain_spec (s : State) : ∃ n, eventsOnly { s with dev := { s.dev with pcie := n } } s.pcieTrain := by
  obtain ⟨trains, h⟩ : ∃ b : Bool, s.pcieTrain = if b then s.setPcie 1 else s := ⟨_, rfl⟩
  cases trains
  · exact ⟨s.dev.pcie, h ▸ .refl _⟩
  · exact ⟨1, h ▸ setPcie_spec s 1⟩

theorem powerOn_of_cold {s : State} (h : s.dev.st = .cold) : s.powerOn = { s.systemReset 0 true with
    power := { (s.systemReset 0 true).power with
      auxOk := true, vddkOk := true, sysRstN := false, smbAlertN := true, why := .none } } := by
  simp [State.powerOn, h]

theorem auxLoss_spec {s : State} (h : s.dev.st ≠ .cold) : s.auxLoss.dev = { st := .cold } ∧
    s.auxLoss.power.auxOk = false ∧ s.auxLoss.belfry.running = false ∧ s.auxLoss.toc.lockedLatch = false := by
  unfold State.auxLoss
  rw [if_neg (by simp [h])]
  exact ⟨rfl, rfl, rfl, rfl⟩

section
variable {s : State} (hst : s.dev.st = .running) (hburn : s.toc.burning = false)
include hst hburn

theorem sysRstAssert_of_running :
    s.sysRstAssert = ({ s with power := { s.power with sysRstN := false } } : State).systemReset 1 true := by
  have hstands : ({ s with power := { s.power with sysRstN := false } } : State).finishBurn = _ :=
    finishBurn_of_not_burning hburn
  unfold State.sysRstAssert
  rw [if_neg (by simp [hst]), hstands]

/-- VDDK's loss is a system reset, the clean-shutdown flag cleared (R121). -/
theorem vddkLoss_of_running (hvddk : s.power.vddkOk = true) (hvbat : s.power.vbatOk = true) (hpin : s.power.sysRstN = true) :
    s.vddkLoss = ({ s with power := { s.power with vddkOk := false }, toc := { s.toc with cleanFlag := false } } :
      State).systemReset 2 true := by
  unfold State.vddkLoss
  rw [if_neg (by simp [hst, hvddk])]
  simp [finishBurn_of_not_burning hburn, hvbat, hpin]

end

/-- SYS_RST_N rises on a cool device without the latch: the boot begins. -/
theorem sysRstRelease_boots {s : State} (hst : s.dev.st = .held) (hwait : s.dev.thermWait = false)
    (hlatch : s.toc.lockedLatch = false) (hpin : s.power.sysRstN = false) (pos smb : Nat) (boot : Bool) :
    s.sysRstRelease pos boot smb true =
      ({ s with power := { s.power with
        sysRstN := true, posPin := pos, bootSrcPin := b2n boot, smbAddrPin := smb, pos := pos, bootSrc := b2n boot
        smbAddr := smb, vddkOk := true } } : State).beginBoot := by
  simp [State.sysRstRelease, hst, hwait, hlatch, hpin]

theorem sysRstRelease_of_latch {s : State} (hst : s.dev.st = .held) (hwait : s.dev.thermWait = false)
    (hlatch : s.toc.lockedLatch = true) (pos smb : Nat) (boot cool : Bool) :
    (s.sysRstRelease pos boot smb cool).dev.st = .locked := by
  simp [State.sysRstRelease, hst, hwait, hlatch]

theorem belfryRelease_of_aux {s : State} (haux : s.power.auxOk = true) (hrun : s.belfry.running = false) :
    s.belfryRelease = match s.fwPick with
      | some n => { s with belfry := { s.belfry with running := true, slot := n, digest := s.fwDigestOf n 1 } }
      | none => s := by
  unfold State.belfryRelease
  rw [if_neg (by simp [haux, hrun])]
  split <;> simp [*]

/-- Settles O15: each row is its operation in the branch that the conditions name. -/
theorem resetRowsRun : Obligations.ResetRowsRun := by
  unfold Obligations.ResetRowsRun
  refine ⟨fun s hst => ?powerOn, fun s hst => ?auxLoss, fun s hst hburn => ?sysRst, fun s hst hburn hvddk hvbat hpin => ?vddk,
    fun pos smb boot s hst hwait hlatch hpin => ?release, fun s hst hwait htrip => ?waitEnd, fun cell s => ?vbat,
    fun s haux hrun => ?belfry⟩
  case powerOn =>
    refine ⟨{ s.powerOn with pending := s.pending }, rfl, ?_⟩
    have hcause := systemReset_devResetCause s 0 true
    rw [powerOn_of_cold hst]
    refine ⟨rfl, rfl, rfl, ?_⟩
    change (s.systemReset 0 true).reg .devResetCause 0 % 2 = 1
    omega
  case auxLoss =>
    obtain ⟨hdev, haux, hbelfry, hlatch⟩ := auxLoss_spec hst
    exact ⟨{ s.auxLoss with pending := s.pending }, rfl, congrArg Device.st hdev, haux, hbelfry, hlatch⟩
  case sysRst =>
    rw [← sysRstAssert_of_running hst hburn]
    rfl
  case vddk =>
    refine ⟨{ s.vddkLoss with pending := s.pending }, rfl, ?_⟩
    rw [vddkLoss_of_running hst hburn hvddk hvbat hpin]
    obtain ⟨o, hclosed⟩ := closeSessions_spec
      { s with power := { s.power with vddkOk := false }, toc := { s.toc with cleanFlag := false } }
    refine ⟨rfl, by simp only [State.systemReset, hclosed, resetPower], by simp only [State.systemReset, hclosed], ?_⟩
    change State.reg (State.systemReset _ 2 true) .devResetCause 0 % 8 = 4
    rw [systemReset_devResetCause]
    omega
  case release =>
    obtain ⟨n, hn⟩ := pcieTrain_spec (s.sysRstRelease pos boot smb true)
    obtain ⟨alert, hpower⟩ := hn.power
    refine ⟨{ (s.sysRstRelease pos boot smb true).pcieTrain with pending := s.pending }, rfl, ?_⟩
    dsimp only
    rw [hpower, hn.dev, sysRstRelease_boots hst hwait hlatch hpin]
    exact ⟨rfl, rfl, rfl, rfl, rfl⟩
  case waitEnd =>
    refine ⟨{ s.beginBoot with pending := s.pending }, ?_, rfl, rfl, ?_⟩
    · change s.done s.thermalWaitEnd = _
      rw [State.thermalWaitEnd, if_pos (by simp [hst, hwait, htrip])]
      rfl
    · simp [State.beginBoot, hwait]
  case vbat =>
    change s.done (s.vbatLoss cell) = _
    have honVddk : ({ s with power := { s.power with vbatOk := cell } } : State).onVddk = s.onVddk := rfl
    rw [State.vbatLoss, honVddk]
    by_cases h : s.onVddk = true
    · rw [if_pos h, if_pos h]
      rfl
    · rw [if_neg h, if_neg h]
      rfl
  case belfry =>
    change s.done s.belfryRelease = _
    rw [belfryRelease_of_aux haux hrun]
    cases s.fwPick <;> rfl

/-- Settles O16: with the latch set neither the sensors nor the straps are asked where the release leads. -/
theorem latchLeadsToLocked : Obligations.LatchLeadsToLocked := by
  unfold Obligations.LatchLeadsToLocked
  intro pos smb boot cool s hst hwait hlatch
  obtain ⟨n, hn⟩ := pcieTrain_spec (s.sysRstRelease pos boot smb cool)
  refine ⟨_, rfl, ?_⟩
  change (s.sysRstRelease pos boot smb cool).pcieTrain.dev.st = .locked
  rw [hn.dev]
  exact sysRstRelease_of_latch hst hwait hlatch pos smb boot cool

end Sys2Proof.Machine
end

/-! The core's supply (R111 to R129), the boot (R138), the endpoint (R144), Tocsin (R499 to R504) and LOCKED (R134). -/
section
namespace Sys2Proof.Machine

open Sys2Proof

/-! ### The core's supply -/

theorem vddcDischarged_of_discharging {s : State} (h : s.power.vddc = .discharging) (hmuf : s.dev.muffling = none) :
    s.vddcDischarged = { s with power := { s.power with vddc := .hold } } := by
  simp [State.vddcDischarged, h, hmuf]

theorem vddcHoldEnd_of_hold {s : State} (h : s.power.vddc = .hold) (hwhy : s.power.why ≠ .shutdown) :
    s.vddcHoldEnd = { s with power := { s.power with vddc := .off, vddcDsch := false, restartDue := s.coreWanted } } := by
  simp [State.vddcHoldEnd, h, hwhy]

theorem vddcGood_of_starting {s : State} (h : s.power.vddc = .starting) (hsw : s.dev.switch = none) (hwake : s.dev.wake = none) :
    s.vddcGood = ({ s with power := { s.power with vddc := .good, tries := 0, why := .none } } : State).avsQueue
      [{ kind := 0, value := 0, first := true }] := by
  have hdev : (({ s with power := { s.power with vddc := .good, tries := 0, why := .none } } : State).avsQueue
      [{ kind := 0, value := 0, first := true }]).dev = s.dev := by
    unfold State.avsQueue State.avsSend
    dsimp only
    split
    · split <;> rfl
    · rfl
  unfold State.vddcGood
  rw [if_neg (by simp [h])]
  simp only [hdev, hsw, hwake]

theorem vddcStartTimeout_first {s : State} (h : s.power.vddc = .starting) (htries : s.power.tries = 0) :
    s.vddcStartTimeout = { s.removeVddc .startRetry with
      power := { (s.removeVddc .startRetry).power with tries := 1 }
      dev := { (s.removeVddc .startRetry).dev with vddcRetry := true } } := by
  simp [State.vddcStartTimeout, h, htries]

theorem vddcDischargeFail_of_running {s : State} (h : s.power.vddc = .discharging) (hst : s.dev.st = .running) :
    s.vddcDischargeFail = ({ s with toc := { s.toc with dischargeFail := true } } : State).fatalLocked 0 s.power.why := by
  simp [State.vddcDischargeFail, h, hst]

/-- A brownout as the row gives it (R121): the fault, the voids, the cause, the core removed. -/
def State.brownedOut (s : State) : State :=
  let t := (s.fault 3 0 0 (statusCode .lastingFault) none 0 0).voidAll .lastingFault
  (({ t with dev := { t.dev with switch := t.dev.switch.map switchRestart } } : State).setBit .devResetCause 0 7).removeVddc .brownout

theorem vddcBrownout_of_good {s : State} (h : s.power.vddc = .good) : s.vddcBrownout = s.brownedOut := by
  unfold State.vddcBrownout
  rw [if_neg (by simp [h])]
  rfl

/-- Settles O17: each row is its operation in the branch that the supply's state names. -/
theorem supplyRowsRun : Obligations.SupplyRowsRun := by
  unfold Obligations.SupplyRowsRun
  refine ⟨fun s hvddc hmuf => ?discharged, fun s hvddc hwhy => ?holdEnd, fun s hdue hvddc => ?restart,
    fun s hvddc hsw hwake => ?good, fun s hvddc htries => ?timeout, fun s hvddc hst => ?fail, fun s hvddc => ?brownout⟩
  case discharged =>
    rw [← vddcDischarged_of_discharging hvddc hmuf]
    rfl
  case holdEnd =>
    rw [← vddcHoldEnd_of_hold hvddc hwhy]
    rfl
  case restart =>
    refine ⟨{ s.startVddc with pending := s.pending }, ?_, rfl, rfl, rfl, rfl⟩
    change s.done s.vddcRestart = _
    rw [State.vddcRestart, if_pos (by simp [hdue, hvddc])]
    rfl
  case good =>
    rw [← vddcGood_of_starting hvddc hsw hwake]
    rfl
  case timeout =>
    rw [← vddcStartTimeout_first hvddc htries]
    rfl
  case fail =>
    rw [← vddcDischargeFail_of_running hvddc hst]
    rfl
  case brownout =>
    change exec .vddcBrownout s = .next { s.brownedOut.after with pending := s.pending }
    rw [← vddcBrownout_of_good hvddc]
    rfl

/-- Settles O18: what the core held is set to its lost value whatever ends on the way there. -/
theorem removingVddcLosesTheCore : Obligations.RemovingVddcLosesTheCore := by
  unfold Obligations.RemovingVddcLosesTheCore
  intro why p s hvddc
  obtain ⟨ctxs, hctxs⟩ : ∃ l : List Ctx, (s.removeVddc why).ctxs = l.map tallyLost := ⟨_, rfl⟩
  obtain ⟨pans, hpans⟩ : ∃ l : List Pan, (s.removeVddc why).pans = l.map corePan := ⟨_, rfl⟩
  have hpan : (s.removeVddc why).pan p = {} ∨ ∃ q, (s.removeVddc why).pan p = corePan q := by
    rw [State.pan, hpans, List.getD_eq_getElem?_getD, List.getElem?_map]
    cases pans[p]? with
    | none => exact .inl rfl
    | some q => exact .inr ⟨q, rfl⟩
  have hempty : ((s.removeVddc why).pan p).mem = [] ∧ ((s.removeVddc why).pan p).imem = [] ∧
      ((s.removeVddc why).pan p).routes = [] ∧ ((s.removeVddc why).pan p).ctx = none := by
    obtain h | ⟨q, h⟩ := hpan <;> rw [h] <;> exact ⟨rfl, rfl, rfl, rfl⟩
  obtain ⟨hmem, himem, hroutes, hctx⟩ := hempty
  refine ⟨rfl, by simp [State.removeVddc, hvddc], by simp [State.removeVddc, hvddc], rfl, ?_, hmem, himem, hroutes, hctx, rfl, rfl⟩
  simp [hctxs, tallyLost]

/-! ### The boot -/

@[simp] theorem errorEvent_dev (s : State) (c : Option Nat) (status unit cause index arg0 arg1 : Nat) :
    (s.errorEvent c status unit cause index arg0 arg1).dev = s.dev := (eventsOnly_errorEvent ..).dev

theorem ite_errorEvent_dev (c : Prop) [Decidable c] (s : State) (h : Option Nat) (status unit cause index arg0 arg1 : Nat) :
    (if c then s.errorEvent h status unit cause index arg0 arg1 else s).dev = s.dev := by
  split
  · exact errorEvent_dev ..
  · rfl

theorem bootStep5_bootStep (s : State) : s.bootStep5.dev.bootStep = 5 := by
  unfold State.bootStep5
  dsimp only
  rw [ite_errorEvent_dev, ite_errorEvent_dev]
  rfl

section
variable {s : State} (hst : s.dev.st = .booting) (hhalt : s.dev.halted = false) (hburn : s.toc.burning = false)
  (htrip : s.power.thermtripN = true) (mask : Nat) (rows : List (Nat × Nat × RowFail))
include hst hhalt hburn htrip

theorem bootStepDone_four (hstep : s.dev.bootStep = 3) : s.bootStepDone 4 mask rows = s.bootStep4 := by
  simp [State.bootStepDone, hst, hhalt, hburn, htrip, hstep]

theorem bootStepDone_five (hstep : s.dev.bootStep = 4) : s.bootStepDone 5 mask rows = s.bootStep5 := by
  simp [State.bootStepDone, hst, hhalt, hburn, htrip, hstep]

end

/-- A step out of its order, but step 8, which has two parts, changes nothing. -/
theorem bootStepDone_outOfOrder {s : State} {n : Nat} (h8 : n ≠ 8) (hn : n ≠ s.dev.bootStep + 1) (mask : Nat)
    (rows : List (Nat × Nat × RowFail)) : s.bootStepDone n mask rows = s := by
  simp [State.bootStepDone, h8, hn]

/-- Settles O19: steps 5 and 4 in their turn, and every step but 8 out of it. -/
theorem bootStepsInOrder : Obligations.BootStepsInOrder := by
  unfold Obligations.BootStepsInOrder
  refine ⟨fun mask rows s hst hhalt hburn htrip hstep => ⟨?five, bootStep5_bootStep s⟩,
    fun mask rows s hst hhalt hburn htrip hstep => ⟨?four, rfl⟩, fun n mask rows s h8 hn => ?out⟩
  case five =>
    rw [← bootStepDone_five hst hhalt hburn htrip mask rows hstep]
    rfl
  case four =>
    rw [← bootStepDone_four hst hhalt hburn htrip mask rows hstep]
    rfl
  case out =>
    change Host.Outcome.next { (s.bootStepDone n mask rows).after with pending := s.pending } = _
    rw [bootStepDone_outOfOrder h8 hn]

/-! ### The endpoint -/

theorem setPcie_dev (s : State) (n : Nat) : (s.setPcie n).dev = { s.dev with pcie := n } := (setPcie_spec s n).dev

/-- Settles O20: the endpoint's rows in the states that let them act. -/
theorem endpointRowsRun : Obligations.EndpointRowsRun := by
  unfold Obligations.EndpointRowsRun
  refine ⟨fun s hst hpcie => ?release, fun s hpcie => ?up, fun s hpcie => ?down, fun s hst => ?assert⟩
  case release =>
    change s.done s.perstRelease = _
    have htrain : s.perstRelease = ({ s with power := { s.power with perstN := true } } : State).setPcie 1 := by
      simp [State.perstRelease, State.pcieTrain, hst, hpcie]
    rw [htrain]
    rfl
  case up =>
    have hup : s.pcieUp = s.setPcie 2 := by simp [State.pcieUp, hpcie]
    refine ⟨{ s.pcieUp with pending := s.pending }, rfl, ?_⟩
    simp [State.pcieAnswers, hup, setPcie_dev]
  case down =>
    have hdown : s.pcieDown = s.setPcie 0 := by simp [State.pcieDown, hpcie]
    rw [← hdown]
    rfl
  case assert =>
    change s.done s.perstAssert = _
    simp only [State.perstAssert, hst]
    rfl

/-! ### Boundary scan -/

/-- Settles O21: the instruction that acts, and the cells that its scan leaves, decide what TDO gives and the pins drive. -/
theorem boundaryScan : Obligations.BoundaryScan := by
  unfold Obligations.BoundaryScan
  intro ins cells s j p
  have hacts (chain : Nat) : scanActs { s.power with jtag := ins.val, chain := chain } = j := rfl
  refine ⟨?row, ?pins⟩
  case row =>
    change execBoundaryScanInstruction ins cells s = _
    have hchain : (if j = 2 ∨ j = 3 then { s.power with jtag := ins.val, chain := cells.val }
        else { s.power with jtag := ins.val }) = p := by
      split <;> simp [p, *]
    rw [← hchain]
    rfl
  case pins =>
    rw [pinsDriven, hacts]
    split
    · rfl
    · split
      next hj => simp [p, hj]
      · rfl

/-! ### LOCKED -/

/-- LOCKED is entered with the core removed where it was on or starting. -/
theorem enterLocked_of_off {s : State} (hgood : s.power.vddc ≠ .good) (hstart : s.power.vddc ≠ .starting) :
    s.enterLocked.keyhold = s.keyhold ∧ s.enterLocked.toc.count = s.toc.count ∧ s.enterLocked.power.vddc = s.power.vddc := by
  unfold State.enterLocked
  split
  next h => exact absurd h hstart
  next h => exact absurd h hgood
  · exact ⟨rfl, rfl, rfl⟩

/-- Settles O23. -/
theorem lockedIsEntered : Obligations.LockedIsEntered := by
  unfold Obligations.LockedIsEntered
  exact fun s => ⟨rfl, rfl, rfl, rfl, rfl, rfl, rfl, enterLocked_of_off⟩

/-! ### Tocsin -/

theorem tamperTrip_responds {s : State} {sensor : Nat} (hwatch : s.sensorWatched sensor = true) (hvddk : s.onVddk = true)
    (hst : s.dev.st ≠ .held) :
    s.tamperTrip sensor = ({ s with toc := tocSense sensor s.toc } : State).tamperRespond sensor := by
  have hon : ({ s with toc := tocSense sensor s.toc } : State).onVddk = true := hvddk
  simp [State.tamperTrip, hwatch, hon, hst]

/-- On VBAT a trip is latched for the next arming. -/
theorem tamperTrip_latches {s : State} {sensor : Nat} (hwatch : s.sensorWatched sensor = true) (hvddk : s.onVddk = false)
    (hlatch : s.toc.latch = none) :
    s.tamperTrip sensor = { s with toc := { tocSense sensor s.toc with
      latch := some sensor, cause := sensor, causeState := 0xF, cleanFlag := false } } := by
  have hon : ({ s with toc := tocSense sensor s.toc } : State).onVddk = false := hvddk
  have hnone : (tocSense sensor s.toc).latch = none := hlatch
  simp [State.tamperTrip, hwatch, hon, hnone]

theorem tamperRespond_vddcEn {s : State} (h : s.toc.burning = false) (sensor : Nat) :
    (s.tamperRespond sensor).power.vddcEn = false := by
  unfold State.tamperRespond
  rw [if_neg (by simp [h])]
  rfl

theorem tamperBurn_of_burning {s : State} (h : s.toc.burning = true) (hst : s.dev.st ≠ .muffled) :
    s.tamperBurn = (({ s with toc := { s.toc with count := min 4096 (s.toc.count + 1), burning := false } } :
      State).enterLocked).tamperEvent s.toc.cause := by
  unfold State.tamperBurn
  rw [if_neg (by simp [h])]
  dsimp only
  rw [if_neg (by simp [hst])]

/-- THERMTRIP with SYS_RST_N high: the line drops, Keyhold is zeroised, VDDC is removed. -/
theorem thermtrip_spec {s : State} (hst : s.dev.st = .running) (hpin : s.power.sysRstN = true) :
    s.thermtrip.power.thermtripN = false ∧ s.thermtrip.power.vddcEn = false ∧ s.thermtrip.toc.therm = true := by
  have hsettle (t : State) : t.settleDev.power = t.power ∧ t.settleDev.toc = t.toc := by
    unfold State.settleDev
    dsimp only
    split
    · split <;> exact ⟨rfl, rfl⟩
    · split <;> exact ⟨rfl, rfl⟩
    · exact ⟨rfl, rfl⟩
  unfold State.thermtrip
  rw [if_neg (by simp [hst, hpin])]
  rw [(hsettle _).1, (hsettle _).2]
  exact ⟨rfl, rfl, rfl⟩

/-- Settles O22. -/
theorem tocsinRowsRun : Obligations.TocsinRowsRun := by
  unfold Obligations.TocsinRowsRun
  refine ⟨fun sensor s hwatch hvddk hst hburn => ⟨?trip, ?off⟩,
    fun sensor s hwatch hvddk hlatch => ?latch, fun s hburn hst => ?burn, fun s hst hstep harmed hburn hlatch hcount => ?arm,
    fun s hst hpin => ⟨rfl, thermtrip_spec hst hpin⟩, fun s hst => ⟨?pass, fun hfailed => ?fail⟩⟩
  case trip =>
    rw [← tamperTrip_responds hwatch hvddk hst]
    rfl
  case off => exact tamperRespond_vddcEn (s := { s with toc := tocSense sensor s.toc }) hburn sensor
  case latch =>
    rw [← tamperTrip_latches hwatch hvddk hlatch]
    rfl
  case burn =>
    rw [← tamperBurn_of_burning hburn hst]
    rfl
  case arm =>
    have harm : s.tocsinArm false false false = { s with toc := { s.toc with
        armed := true, continuity := !s.toc.unbroken, unbroken := true, mesh := false, tamper0 := false, tamper1 := false } } := by
      simp [State.tocsinArm, hst, hstep, harmed, hburn, hlatch, Nat.not_le.2 hcount]
    refine ⟨{ s.tocsinArm false false false with pending := s.pending }, rfl, ?_⟩
    rw [harm]
    exact ⟨rfl, rfl, rfl⟩
  case pass =>
    have hpass : s.katTick true = { s with keyhold := { s.keyhold with katFailed := false } } := by
      simp [State.katTick, hst]
    rw [← hpass]
    rfl
  case fail =>
    have hfail : s.katTick false = s.fatalLocked 5 .fatal := by
      simp [State.katTick, hst, hfailed]
    rw [← hfail]
    rfl

end Sys2Proof.Machine
end

/-! Memory and the register file (R188, Table SEQ-1): what a read returns after a write. -/
section
namespace Sys2Proof.Machine

open Sys2Proof

/-- Settles O1. -/
theorem stepRunsTheFrontCommand : Obligations.StepRunsTheFrontCommand := fun _ _ _ => rfl

/-- Settles O3. -/
theorem resetQueueIsWellFormed : Obligations.ResetQueueIsWellFormed := ⟨rfl, rfl⟩

/-! ### Byte memories -/

/-- Filtering by an address alone keeps what stands at an address that the filter keeps. -/
theorem find?_filter_address {m : List (Nat × Byte)} {keep : Nat → Bool} {j : Nat} (h : keep j = true) :
    (m.filter fun c => keep c.1).find? (fun c => c.1 == j) = m.find? fun c => c.1 == j := by
  rw [List.find?_filter]
  congr 1
  funext c
  by_cases hc : c.1 = j
  · simp [hc, h]
  · simp [hc]

/-- No cell that a filter by address drops is found behind it. -/
theorem find?_filter_dropped {m : List (Nat × Byte)} {keep : Nat → Bool} {j : Nat} (h : keep j = false) :
    (m.filter fun c => keep c.1).find? (fun c => c.1 == j) = none := by
  simp only [List.find?_eq_none, List.mem_filter, beq_iff_eq]
  rintro c ⟨-, hc⟩ rfl
  simp [h] at hc

@[simp] theorem Memory.read_write_same (m : List (Nat × Byte)) (k : Nat) (v : Byte) :
    Memory.read (Memory.write m k v) k = v := by
  have hlow : (m.filter fun c => decide (c.1 < k)).find? (fun c => c.1 == k) = none :=
    find?_filter_dropped (keep := fun a => decide (a < k)) (by simp)
  have hhigh : (m.filter fun c => decide (k < c.1)).find? (fun c => c.1 == k) = none :=
    find?_filter_dropped (keep := fun a => decide (k < a)) (by simp)
  by_cases hv : v = memDefault
  · simp only [Memory.read, Memory.write, hv, List.find?_append, hlow, hhigh]
    rfl
  · simp [Memory.read, Memory.write, hv, List.find?_append, hlow]

theorem Memory.read_write_other (m : List (Nat × Byte)) {j k : Nat} (h : j ≠ k) (v : Byte) :
    Memory.read (Memory.write m k v) j = Memory.read m j := by
  have hcell : (if v = memDefault then [] else [(k, v)]).find? (fun c => c.1 == j) = none := by
    split
    · rfl
    · simp [h.symm]
  simp only [Memory.read, Memory.write, List.find?_append, hcell, Option.or_none]
  rcases Nat.lt_or_gt_of_ne h with hlt | hgt
  · rw [find?_filter_address (keep := fun a => decide (a < k)) (by simpa using hlt),
      find?_filter_dropped (keep := fun a => decide (k < a)) (by simp; omega), Option.or_none]
  · rw [find?_filter_dropped (keep := fun a => decide (a < k)) (by simp; omega),
      find?_filter_address (keep := fun a => decide (k < a)) (by simpa using hgt), Option.none_or]

theorem Memory.read_writeN_outside (bs : Bytes) (m : List (Nat × Byte)) {j k : Nat} (h : j < k ∨ k + bs.length ≤ j) :
    Memory.read (Memory.writeN m k bs) j = Memory.read m j := by
  induction bs generalizing m k with
  | nil => rfl
  | cons b bs ih =>
    rw [List.length_cons] at h
    rw [Memory.writeN, ih _ (by omega), Memory.read_write_other m (by omega)]

theorem Memory.read_writeN_inside (bs : Bytes) (m : List (Nat × Byte)) {j k : Nat} (hlo : k ≤ j) (hhi : j < k + bs.length) :
    Memory.read (Memory.writeN m k bs) j = bs.getD (j - k) 0 := by
  induction bs generalizing m k with
  | nil => simp at hhi; omega
  | cons b bs ih =>
    rw [List.length_cons] at hhi
    rw [Memory.writeN]
    rcases Nat.eq_or_lt_of_le hlo with rfl | hlt
    · rw [Memory.read_writeN_outside bs _ (by omega), Memory.read_write_same]
      simp
    · rw [ih _ hlt (by omega), show j - k = (j - (k + 1)) + 1 by omega, List.getD_cons_succ]

theorem Memory.read_clear_inside (m : List (Nat × Byte)) {lo hi j : Nat} (hlo : lo ≤ j) (hhi : j < hi) :
    Memory.read (Memory.clear m lo hi) j = 0 := by
  rw [Memory.read, Memory.clear,
    find?_filter_dropped (keep := fun a => decide (a < lo) || decide (hi ≤ a)) (by simp; omega)]
  rfl

theorem Memory.read_clear_outside (m : List (Nat × Byte)) {lo hi j : Nat} (h : j < lo ∨ hi ≤ j) :
    Memory.read (Memory.clear m lo hi) j = Memory.read m j := by
  rw [Memory.read, Memory.clear,
    find?_filter_address (keep := fun a => decide (a < lo) || decide (hi ≤ a)) (by simpa using h)]
  rfl

/-- Settles O24. -/
theorem memoryReadsWhatWasWritten : Obligations.MemoryReadsWhatWasWritten := by
  unfold Obligations.MemoryReadsWhatWasWritten
  exact fun m k j v bs => ⟨Memory.read_write_same m k v, fun h => Memory.read_write_other m h v,
    fun hlo hhi => Memory.read_writeN_inside bs m hlo hhi, fun h => Memory.read_writeN_outside bs m h⟩

/-- Settles O25. -/
theorem clearedMemoryReadsZero : Obligations.ClearedMemoryReadsZero := by
  unfold Obligations.ClearedMemoryReadsZero
  exact fun m lo hi j => ⟨fun hlo hhi => Memory.read_clear_inside m hlo hhi, fun h => Memory.read_clear_outside m h⟩

/-! ### Fixed tables -/

/-- An element of a table after one of its elements is set. -/
theorem getD_setAt {α : Type} {n r : Nat} (hr : r < n) (l : List α) (d : α) (i : Nat) (v : α) :
    (setAt n l d i v).getD r d = if r = i then v else l.getD r d := by
  simp [setAt, List.getD_eq_getElem?_getD, hr]

@[simp] theorem setG_zero (q : Pan) (v : Nat) : setG q 0 v = q := rfl

@[simp] theorem setP_zero (q : Pan) (b : Bool) : setP q 0 b = q := rfl

theorem gReg_setG {r : Nat} (hr : r < 32) (q : Pan) (d v : Nat) :
    gReg (setG q d v) r = if r = 0 then 0 else if r = d then v % 2 ^ 64 else gReg q r := by
  by_cases hr0 : r = 0
  · simp [gReg, hr0]
  · by_cases hd : d = 0
    · simp [hd, hr0]
    · simp only [gReg, setG, hr0, hd, if_false, getD_setAt hr]

theorem pReg_setP {r : Nat} (hr : r < 8) (q : Pan) (d : Nat) (b : Bool) :
    pReg (setP q d b) r = (r == 0 || if r = d then b else pReg q r) := by
  by_cases hr0 : r = 0
  · simp [pReg, hr0]
  · by_cases hd : d = 0
    · simp [hd, hr0]
    · simp only [pReg, setP, hd, if_false, getD_setAt hr]
      split
      · rfl
      · simp

/-- Settles O26. -/
theorem registerFile : Obligations.RegisterFile := by
  unfold Obligations.RegisterFile
  refine fun q d r v b _ hr => ⟨gReg_setG hr q d v, fun _ hr8 => pReg_setP hr8 q d b, ?mem, ?p, ?g, rfl, rfl⟩
  case mem => unfold setG; split <;> rfl
  case p => unfold setG; split <;> rfl
  case g => unfold setP; split <;> rfl

end Sys2Proof.Machine
end

/-! Instructions of the Pan sequencer (R331 to R347): what a ready word whose checks all pass does to its Pan. -/
section
namespace Sys2Proof.Machine

open Sys2Proof

/-! ### A word whose checks pass -/

theorem updPan_id (s : State) (p : Nat) : s.updPan p id = s := by
  simp [State.updPan, updAt_eq_modify]

theorem clear_iff {s : State} {p : Nat} {k : Plan} :
    s.clear p k = true ↔ k.rsv = false ∧ k.bad = false ∧ k.cause = none ∧ k.wait = false ∧
      k.gens.any (heldGen (s.pan p)) = false ∧ (k.engines.any fun e => decide (4 ≤ (engQ (s.pan p) e).length)) = false := by
  simp [State.clear, and_assoc]

section
variable {s : State} {p word : Nat} {step : Bool} {plan : State → Plan}
  (hcan : canIssue (s.pan p) step = true) (hword : (fetched (s.pan p)).head? = some word)
  (hpred : pReg (s.pan p) (bitsOf word 24 22) ≠ bitOf word 21)
include hcan hword hpred

/-- A word whose checks pass does what its plan says; then the sequencer moves on. -/
theorem issueWord_of_clear (hclear : s.clear p (plan s) = true) :
    s.issueWord p word step plan =
      ((plan s).act (s.counted p word)).updPan p fun q => flowPan q (fetched (s.pan p)) (plan s).flow := by
  obtain ⟨hrsv, hbad, hcause, hwait, hgens, heng⟩ := clear_iff.1 hclear
  simp only [State.issueWord, State.counted, hcan, hword, hrsv, hbad, hcause, hwait, hgens, heng, bne_iff_ne.2 hpred,
    bne_self_eq_false, Bool.not_true, Bool.or_self, Bool.true_and, Bool.false_eq_true, if_false]

/-- A well-formed word that waits for nothing and has a cause traps with it. -/
theorem issueWord_of_cause {c : Nat} (hrsv : (plan s).rsv = false) (hbad : (plan s).bad = false)
    (hcause : (plan s).cause = some c) (hgo : s.waits p word (plan s) = false) :
    s.issueWord p word step plan =
      (if c = 11 then (plan s).act (s.counted p word) else s.counted p word).trap p (s.pan p).pc c := by
  unfold State.waits at hgo
  rw [bne_iff_ne.2 hpred, Bool.true_and] at hgo
  simp only [State.issueWord, State.counted, hcan, hword, hrsv, hbad, hcause, hgo, bne_iff_ne.2 hpred,
    bne_self_eq_false, Bool.not_true, Bool.or_self, Bool.and_false, Bool.false_eq_true, if_false]

end

/-! ### Effects on one Pan -/

/-- An update of a Pan that has nothing to do with its count of instructions and leaves its pc. -/
def keepsCount (f : Pan → Pan) : Prop :=
  ∀ q, (f q).pc = q.pc ∧ ∀ n, f { q with pcnt := n } = { f q with pcnt := n }

theorem keepsCount_setG (d : Nat) {v : Pan → Nat} (hv : ∀ q n, v { q with pcnt := n } = v q) :
    keepsCount fun q => setG q d (v q) := by
  intro q
  simp only [hv]
  unfold setG
  split <;> exact ⟨rfl, fun _ => rfl⟩

theorem keepsCount_setP (d : Nat) {v : Pan → Bool} (hv : ∀ q n, v { q with pcnt := n } = v q) :
    keepsCount fun q => setP q d (v q) := by
  intro q
  simp only [hv]
  unfold setP
  split <;> exact ⟨rfl, fun _ => rfl⟩

theorem keepsCount_enqueueEng (e : Engine) {op : Pan → EngOp} (hop : ∀ q n, op { q with pcnt := n } = op q) :
    keepsCount fun q => enqueueEng q e (op q) := by
  intro q
  simp only [hop]
  cases e <;> exact ⟨rfl, fun _ => rfl⟩

section
variable {s : State} {p : Nat} (hp : p < s.pans.length) (word : Nat) {f : Pan → Pan}
include hp

/-- The Pan of a word that is counted, has its effect and moves on by a flow. -/
theorem issued_pan (flow : Flow) :
    (((s.counted p word).updPan p f).updPan p fun q => flowPan q (fetched (s.pan p)) flow).pan p =
      flowPan (f { s.pan p with pcnt := updAt (s.pan p).pcnt 3 (· + 1) }) (fetched (s.pan p)) flow := by
  rw [pan_updPan_same (by rwa [updPan_length, counted_length]), pan_updPan_same (by rwa [counted_length]), counted_pan hp]

end

theorem flowPan_next {f : Pan → Pan} (hf : keepsCount f) (q : Pan) :
    flowPan (f { q with pcnt := updAt q.pcnt 3 (· + 1) }) (fetched q) .next = stepped q (f q) := by
  obtain ⟨hpc, hcount⟩ := hf q
  rw [hcount, flowPan, stepped, ← hpc]

theorem flowPan_jump {f : Pan → Pan} (hf : keepsCount f) (q : Pan) (t : Nat) :
    flowPan (f { q with pcnt := updAt q.pcnt 3 (· + 1) }) (fetched q) (.jump t) = jumped q (f q) t := by
  rw [(hf q).2]
  rfl

/-- What an instruction comes to: `exec` answers a state that differs in Pan `p` alone, which is `x`. -/
def answersPan (i : Instr) (s : State) (p : Nat) (x : Pan) : Prop :=
  ∃ t, exec i s = .next t ∧ onlyPan s t p ∧ t.pan p = x

section
variable {i : Instr} {s : State} {p op : Nat} {w : BitVec 25} {plan : State → Plan}
  (hexec : exec i s = .next { s.issueWord p (wordOfOp op w) false plan with pending := s.pending })
  (hready : s.ready p op w = true) (hclear : s.clear p (plan s) = true)
include hexec hready hclear

/-- One issue of a ready word whose checks pass and whose effect is an update of its Pan. -/
theorem answersPan_issue {f : Pan → Pan} (hact : (plan s).act (s.counted p (wordOfOp op w)) = (s.counted p (wordOfOp op w)).updPan p f) :
    answersPan i s p (flowPan (f { s.pan p with pcnt := updAt (s.pan p).pcnt 3 (· + 1) }) (fetched (s.pan p)) (plan s).flow) := by
  obtain ⟨hcan, hword, hpred⟩ := ready_iff.1 hready
  rw [issueWord_of_clear hcan hword hpred hclear, hact] at hexec
  exact ⟨_, hexec, (((onlyPan_traceIssue s p _).updPan _).updPan _).updPan _,
    issued_pan (lt_length_of_canIssue hcan) (wordOfOp op w) (plan s).flow⟩

theorem answersPan_stepped {f : Pan → Pan} (hact : (plan s).act (s.counted p (wordOfOp op w)) = (s.counted p (wordOfOp op w)).updPan p f)
    (hf : keepsCount f) (hflow : (plan s).flow = .next) : answersPan i s p (stepped (s.pan p) (f (s.pan p))) := by
  rw [← flowPan_next hf, ← hflow]
  exact answersPan_issue hexec hready hclear hact

theorem answersPan_jumped {f : Pan → Pan} (hact : (plan s).act (s.counted p (wordOfOp op w)) = (s.counted p (wordOfOp op w)).updPan p f)
    (hf : keepsCount f) {t : Nat} (hflow : (plan s).flow = .jump t) : answersPan i s p (jumped (s.pan p) (f (s.pan p)) t) := by
  rw [← flowPan_jump hf, ← hflow]
  exact answersPan_issue hexec hready hclear hact

theorem answersPan_blocked (hact : (plan s).act = id) {b : Blocked} (hflow : (plan s).flow = .block b) :
    answersPan i s p (blockedBy (s.pan p) b) := by
  have h := answersPan_issue (f := id) hexec hready hclear (by rw [hact, updPan_id]; rfl)
  rwa [hflow] at h

end

/-- A word whose checks fail traps with its cause, from where its Pan stands. -/
theorem exec_traps {i : Instr} {s : State} {p op : Nat} {w : BitVec 25} {plan : State → Plan} {c : Nat}
    (hexec : exec i s = .next { s.issueWord p (wordOfOp op w) false plan with pending := s.pending })
    (hready : s.ready p op w = true) (hrsv : (plan s).rsv = false) (hbad : (plan s).bad = false)
    (hcause : (plan s).cause = some c) (hgo : s.waits p (wordOfOp op w) (plan s) = false)
    (hlen : c = 11 → p < ((plan s).act (s.counted p (wordOfOp op w))).pans.length) :
    ∃ t, exec i s = .next t ∧ trapMarks (s.pan p).pc (statusCode (causeStatus c)) (t.pan p) := by
  obtain ⟨hcan, hword, hpred⟩ := ready_iff.1 hready
  rw [issueWord_of_cause hcan hword hpred hrsv hbad hcause hgo] at hexec
  refine ⟨_, hexec, ?_⟩
  change trapMarks _ _ ((State.trap _ _ _ _).pan p)
  refine trap_trapMarks ?_ ..
  split
  · exact hlen ‹_›
  · rw [counted_length]
    exact lt_length_of_canIssue hcan

/-! ### Three registers -/

theorem clear_planAlu {w : BitVec 25} (h : fld w 5 0 = 0) (s : State) (p : Nat) (f : Nat → Nat → Nat) :
    s.clear p (planAlu f p w s) = true := by
  simp [clear_iff, planAlu, rsvBits, h]

theorem setG_mod (q : Pan) (d v : Nat) : setG q d (v % 2 ^ 64) = setG q d v := by
  simp [setG, -Nat.reducePow]

theorem answersPan_alu {i : Instr} {s : State} {p op : Nat} {w : BitVec 25} {f : Nat → Nat → Nat}
    (hexec : exec i s = .next { s.issueWord p (wordOfOp op w) false (planAlu f p w) with pending := s.pending })
    (hready : s.ready p op w = true) (hfld : fld w 5 0 = 0) :
    answersPan i s p (stepped (s.pan p) (setG (s.pan p) (fld w 20 16)
      (f (gReg (s.pan p) (fld w 15 11)) (gReg (s.pan p) (fld w 10 6)) % 2 ^ 64))) := by
  rw [setG_mod]
  exact answersPan_stepped (f := fun q => setG q (fld w 20 16) (f (gReg q (fld w 15 11)) (gReg q (fld w 10 6))))
    hexec hready (clear_planAlu hfld s p f) rfl (keepsCount_setG _ fun _ _ => rfl) rfl

/-- Settles O27. -/
theorem aluInstructions : Obligations.AluInstructions := by
  unfold Obligations.AluInstructions
  intro p w s hfld x hx hready
  fin_cases hx <;> exact answersPan_alu rfl hready hfld

/-! ### One register, one predicate, flags -/

/-- Items of Table SEQ-6 do not count what a Pan has issued. -/
theorem rdstItem_counted {s : State} {p : Nat} (hp : p < s.pans.length) (word sel : Nat) :
    rdstItem (s.counted p word) p sel = rdstItem s p sel := by
  have hctx (p' : Nat) : ((s.counted p word).pan p').ctx = (s.pan p').ctx :=
    pan_updPan_keeps (P := fun q => q.ctx = (s.pan p').ctx) (f := fun q => { q with pcnt := updAt q.pcnt 3 (· + 1) })
      (fun _ h => h) p
      (congrArg Pan.ctx (pan_congr (traceIssue_pans s p word) p'))
  have hpan := counted_pan hp word
  obtain ⟨-, hctxs, -, hcad, -⟩ := (onlyPan_traceIssue s p word).updPan fun q => { q with pcnt := updAt q.pcnt 3 (· + 1) }
  have hc (c : Nat) : (s.counted p word).ctx c = s.ctx c := congrArg (·.getD c {}) hctxs
  have hpans (c : Nat) : (s.counted p word).pansOf c = s.pansOf c := by simp only [State.pansOf, hctx]
  have hrank : (s.counted p word).panRank p = s.panRank p := by simp only [State.panRank, hctx, hpans]
  have hslice (c : Nat) : (s.counted p word).sliceOf c p = s.sliceOf c p := by simp only [State.sliceOf, hrank, hc]
  have htoll : (s.counted p word).cad.toll = s.cad.toll := congrArg Cad.toll hcad
  simp only [rdstItem, hrank, hslice, hc, htoll, hpan]

/-- Settles O28. -/
theorem registerWritingInstructions : Obligations.RegisterWritingInstructions := by
  unfold Obligations.RegisterWritingInstructions
  refine fun p w s => ⟨fun hready hfld => ?nop, fun hready => ?addi, fun hready => ?ldi, fun hready hfld hsel => ?rdst,
    fun hready hclear => ?agrd⟩
  case nop =>
    have hclear : s.clear p (planNop w s) = true := by simp [clear_iff, planNop, rsvBits, hfld]
    exact answersPan_stepped (i := .nop p w) (f := id) rfl hready hclear (updPan_id _ _).symm (fun _ => ⟨rfl, fun _ => rfl⟩) rfl
  case addi =>
    have hclear : s.clear p (planAddi p w s) = true := by simp [clear_iff, planAddi]
    exact answersPan_stepped (i := .addi p w) rfl hready hclear rfl (keepsCount_setG _ fun _ _ => rfl) rfl
  case ldi =>
    have hclear : s.clear p (planLdi p w s) = true := by simp [clear_iff, planLdi]
    exact answersPan_stepped (i := .ldi p w) rfl hready hclear rfl (keepsCount_setG _ fun _ _ => rfl) rfl
  case rdst =>
    have hclear : s.clear p (planRdst p w s) = true := by simp [clear_iff, planRdst, rsvBits, hfld, hsel]
    have hp := lt_length_of_canIssue (ready_iff.1 hready).1
    rw [← rdstItem_counted hp (wordOfOp 0x15 w)]
    exact answersPan_stepped (i := .rdst p w) rfl hready hclear rfl (keepsCount_setG _ fun _ _ => rfl) rfl
  case agrd => exact answersPan_stepped (i := .agrd p w) rfl hready hclear rfl (keepsCount_setG _ fun _ _ => rfl) rfl

theorem keepsCount_cmp (w : BitVec 25) :
    keepsCount fun q => setP q (fld w 18 16) (cmpHolds (fld w 2 0) (gReg q (fld w 15 11)) (gReg q (fld w 10 6))) :=
  keepsCount_setP _ fun _ _ => rfl

/-- The bits of MASK are bits of the word. -/
theorem fld_fld (w : BitVec 25) (lo : Nat) : bitsOf (fld w 15 0) 15 lo = fld w 15 lo := by
  apply Nat.eq_of_testBit_eq
  intro k
  simp only [fld, testBit_bitsOf, Nat.zero_add, Nat.sub_zero]
  by_cases hk : k < 16 - lo
  · simp [hk, show lo + k < 16 by omega]
  · simp [hk]

/-- CLST clears the flags of its mask. -/
def clst (w : BitVec 25) (q : Pan) : Pan :=
  if fld w 16 16 = 0 then { q with nstat := q.nstat - (q.nstat &&& fld w 15 0) }
  else { q with cstat := q.cstat - (q.cstat &&& fld w 15 0) }

theorem answersPan_clst {p : Fin 48} {w : BitVec 25} {s : State} (hready : s.ready p 0x16 w = true) (hfld : fld w 20 17 = 0)
    (hmask : if fld w 16 16 = 0 then fld w 15 7 = 0 else fld w 15 3 = 0) :
    answersPan (.clst p w) s p (stepped (s.pan p) (clst w (s.pan p))) := by
  have hclear : s.clear p (planClst p w s) = true := by
    split at hmask <;> rename_i hsel <;> simp [clear_iff, planClst, rsvBits, hfld, fld_fld, hmask, hsel]
  refine answersPan_stepped (i := .clst p w) (f := clst w) rfl hready hclear rfl (fun q => ?keeps) rfl
  case keeps =>
    unfold clst
    split <;> exact ⟨rfl, fun _ => rfl⟩

theorem bitOf_sub_and (v m k : Nat) : bitOf (v - (v &&& m)) k = (bitOf v k && !bitOf m k) := by
  simp only [bitOf_eq_testBit, testBit_sub_and]

/-- Settles O29. -/
theorem predicateAndFlagInstructions : Obligations.PredicateAndFlagInstructions := by
  unfold Obligations.PredicateAndFlagInstructions
  refine fun p w s => ⟨fun hready hhi hmid hsel => ?cmp, fun hready hhi hsel hmask => ?nstat, fun hready hhi hsel hmask => ?cstat⟩
  case cmp =>
    have hclear : s.clear p (planCmp p w s) = true := by simp [clear_iff, planCmp, rsvBits, hhi, hmid, hsel]
    exact answersPan_stepped (i := .cmp p w) rfl hready hclear rfl (keepsCount_cmp w) rfl
  case nstat =>
    obtain ⟨t, hexec, honly, hpan⟩ := answersPan_clst hready hhi (by rwa [if_pos hsel])
    rw [clst, if_pos hsel] at hpan
    refine ⟨t, hexec, honly, ?_⟩
    rw [hpan]
    exact ⟨fun k => bitOf_sub_and .., rfl, rfl, rfl⟩
  case cstat =>
    have hsel' : fld w 16 16 ≠ 0 := by omega
    obtain ⟨t, hexec, honly, hpan⟩ := answersPan_clst hready hhi (by rwa [if_neg hsel'])
    rw [clst, if_neg hsel'] at hpan
    refine ⟨t, hexec, honly, ?_⟩
    rw [hpan]
    exact ⟨fun k => bitOf_sub_and .., rfl, rfl, rfl⟩

/-! ### Loads and stores -/

theorem lsCause_none {q : Pan} {a : Nat} (hin : inRange q a 8 = true) (halign : a % 8 = 0) : lsCause q a = none := by
  simp [lsCause, firstCause, hin, halign]

/-- Out of range, or unaligned, both REFUSED. -/
theorem lsCause_some {q : Pan} {a : Nat} (h : inRange q a 8 = false ∨ a % 8 ≠ 0) :
    ∃ c, lsCause q a = some c ∧ c ≠ 11 ∧ statusCode (causeStatus c) = statusCode .refused := by
  by_cases hin : inRange q a 8 = true
  · have halign : a % 8 ≠ 0 := h.resolve_left (by simp [hin])
    exact ⟨6, by simp [lsCause, firstCause, hin, halign], by decide, rfl⟩
  · exact ⟨5, by simp [lsCause, firstCause, hin], by decide, rfl⟩

/-- Settles O31: the cause of either is one of `lsCause`, and its trap outlasts what it brings about. -/
theorem loadAndStoreTrap : Obligations.LoadAndStoreTrap := by
  unfold Obligations.LoadAndStoreTrap
  intro p w ups s x hx hready hbad
  obtain ⟨c, hcause, hne, hcode⟩ := lsCause_some hbad
  rw [← hcode]
  fin_cases hx
  · have hplan : planLd p w ups s = { cause := some c } := by simp only [planLd, hcause]
    exact exec_traps (i := .ld p w ups) (plan := planLd p w ups) rfl hready (by rw [hplan]) (by rw [hplan]) (by rw [hplan])
      (by simp [State.waits, hplan]) fun h => absurd h hne
  · exact exec_traps (i := .st p w) (plan := planSt p w) rfl hready rfl rfl hcause (by simp [State.waits, planSt, hcause])
      fun h => absurd h hne

end Sys2Proof.Machine
end

/-! Loads, stores, control flow and the blocking instructions of the Pan sequencer (R210, R331 to R349). -/
section
namespace Sys2Proof.Machine

open Sys2Proof

/-! ### Loads -/

theorem eventsOnly_unitStateEvent (s : State) (unit index old new suspect : Nat) :
    eventsOnly s (s.unitStateEvent unit index old new suspect) := eventsOnly_event ..

@[simp] theorem fault_pans (s : State) (cls unit index status : Nat) (voided : Option Nat) (loc arg : Nat) :
    (s.fault cls unit index status voided loc arg).pans = s.pans := (eventsOnly_fault ..).pans

@[simp] theorem fault_ctxs (s : State) (cls unit index status : Nat) (voided : Option Nat) (loc arg : Nat) :
    (s.fault cls unit index status voided loc arg).ctxs = s.ctxs := (eventsOnly_fault ..).ctxs

/-- An upset that a read meets leaves every Pan and every context. -/
theorem meetUpset_frame (s : State) (p arg : Nat) (u : Nat × Upset) :
    (s.meetUpset p arg u).pans = s.pans ∧ (s.meetUpset p arg u).ctxs = s.ctxs := by
  unfold State.meetUpset
  split <;> simp

theorem meetUpsets_frame (ups : List (Nat × Upset)) (s : State) (p arg : Nat) :
    (ups.foldl (fun s u => s.meetUpset p arg u) s).pans = s.pans ∧ (ups.foldl (fun s u => s.meetUpset p arg u) s).ctxs = s.ctxs := by
  refine List.foldlRecOn ups _ (motive := fun t : State => t.pans = s.pans ∧ t.ctxs = s.ctxs) ⟨rfl, rfl⟩ fun t ht u _ => ?_
  obtain ⟨hpans, hctxs⟩ := meetUpset_frame t p arg u
  exact ⟨hpans.trans ht.1, hctxs.trans ht.2⟩

theorem addTarget_pans (s : State) (p sub : Nat) : (s.addTarget p sub).pans = s.pans := rfl

theorem setSuspect_length (s : State) (p : Nat) (v : Bool) : (s.setSuspect p v).pans.length = s.pans.length := by
  unfold State.setSuspect
  dsimp only
  split
  · rfl
  · rw [(eventsOnly_unitStateEvent ..).pans, updPan_length]

theorem panLost_length (s : State) (p : Nat) (ws : List Nat) (voided : Option Nat) (arg : Nat) :
    (s.panLost p ws voided arg).pans.length = s.pans.length := by
  unfold State.panLost
  dsimp only
  rw [foldl_pans (fun t w => addTarget_pans t p _), setSuspect_length, fault_pans, bump_pans, updPan_length]

/-- A Pan with 8 bytes of its memory in a register. -/
def loaded (d a : Nat) (q : Pan) : Pan := setG q d (leNat (Memory.readN q.mem a 8))

theorem keepsCount_loaded (d a : Nat) : keepsCount (loaded d a) := keepsCount_setG d fun _ _ => rfl

/-! ### Stores -/

theorem keepsCount_panWrite (a : Nat) {bs : Pan → Bytes} (hbs : ∀ q n, bs { q with pcnt := n } = bs q) :
    keepsCount fun q => panWrite q a (bs q) := by
  intro q
  simp only [hbs]
  exact ⟨rfl, fun _ => rfl⟩

theorem getD_leBytes {n k : Nat} (hk : k < n) (v : Nat) : (leBytes n v).getD k 0 = BitVec.ofNat 8 (v / 256 ^ k) := by
  induction n generalizing k v with
  | zero => omega
  | succ n ih =>
    cases k with
    | zero => simp [leBytes]
    | succ k =>
      rw [leBytes, List.getD_cons_succ, ih (by omega), Nat.div_div_eq_div_mul, Nat.pow_succ, Nat.mul_comm 256]

section
variable {p : Fin 48} {w : BitVec 25} {s : State} (hin : inRange (s.pan p) (lsAddr (s.pan p) w) 8 = true)
  (halign : lsAddr (s.pan p) w % 8 = 0) (hheld : s.held p (lsAddr (s.pan p) w) 8 = false)
include hin halign hheld

/-- The state that a good load leaves, before the sequencer moves on. -/
theorem exec_ld_good {ups : List (Nat × Upset)} (hready : s.ready p 0x0D w = true)
    (hgood : failingIn (s.pan p) ups (lsAddr (s.pan p) w) 8 = []) :
    ∃ t, exec (.ld p w ups) s = .next t ∧ (∀ p', p' ≠ p.val → t.pan p' = s.pan p') ∧ t.ctxs = s.ctxs ∧
      t.pan p = stepped (s.pan p) (setG (s.pan p) (fld w 20 16) (leNat (Memory.readN (s.pan p).mem (lsAddr (s.pan p) w) 8))) ∧
      (upsetsIn ups (lsAddr (s.pan p) w) 8 = [] → onlyPan s t p) := by
  obtain ⟨hcan, hword, hpred⟩ := ready_iff.1 hready
  have hp := lt_length_of_canIssue hcan
  have hclear : s.clear p (planLd p w ups s) = true := by
    simp [clear_iff, planLd, lsCause_none hin halign, hheld, hgood]
  have hissue := issueWord_of_clear hcan hword hpred hclear
  have hflow : (planLd p w ups s).flow = .next := by simp only [planLd, lsCause_none hin halign]
  have hact (t : State) : (planLd p w ups s).act t =
      ((upsetsIn ups (lsAddr (s.pan p) w) 8).foldl (fun t u => t.meetUpset p (s.pan p).pc u) t).updPan p
        (loaded (fld w 20 16) (lsAddr (s.pan p) w)) := by
    simp only [planLd, lsCause_none hin halign, hgood, if_true]
    rfl
  rw [hact, hflow] at hissue
  have hexec : exec (.ld p w ups) s =
    .next { s.issueWord p (wordOfOp 0x0D w) false (planLd p w ups) with pending := s.pending } := rfl
  rw [hissue] at hexec
  obtain ⟨hpans, hctxs⟩ := meetUpsets_frame (upsetsIn ups (lsAddr (s.pan p) w) 8) (s.counted p (wordOfOp 0x0D w)) p (s.pan p).pc
  have honly : onlyPan s (s.counted p (wordOfOp 0x0D w)) p := (onlyPan_traceIssue s p _).updPan _
  have ⟨hother, hctx, _⟩ := honly
  refine ⟨_, hexec, fun p' hp' => ?other, hctxs.trans hctx, ?pan, fun hnone => ?only⟩
  case other =>
    rw [← hother p' hp', ← pan_congr hpans p']
    exact (pan_updPan_other _ hp' _).trans (pan_updPan_other _ hp' _)
  case pan =>
    have hlen : p.val < ((upsetsIn ups (lsAddr (s.pan p) w) 8).foldl (fun t u => t.meetUpset p (s.pan p).pc u)
        (s.counted p (wordOfOp 0x0D w))).pans.length := by
      rwa [hpans, counted_length]
    change _ = stepped _ (loaded _ _ _)
    rw [← flowPan_next (keepsCount_loaded _ _), ← counted_pan hp (wordOfOp 0x0D w), ← pan_congr hpans p, 
      ← pan_updPan_same hlen (loaded (fld w 20 16) (lsAddr (s.pan p) w))]
    exact pan_updPan_same (by rwa [updPan_length]) _
  case only =>
    simp only [hnone, List.foldl_nil]
    exact (honly.updPan _).updPan _

theorem exec_ld_bad {ups : List (Nat × Upset)} (hready : s.ready p 0x0D w = true)
    (hbad : failingIn (s.pan p) ups (lsAddr (s.pan p) w) 8 ≠ []) :
    ∃ t, exec (.ld p w ups) s = .next t ∧ trapMarks (s.pan p).pc (statusCode .uncorrectable) (t.pan p) := by
  have hp := lt_length_of_canIssue (ready_iff.1 hready).1
  refine exec_traps (i := .ld p w ups) (plan := planLd p w ups) (c := 11) rfl hready ?rsv ?bad ?cause ?waits fun _ => ?len
  case rsv | bad => simp only [planLd, lsCause_none hin halign]
  case cause => simp only [planLd, lsCause_none hin halign, hbad, if_false]
  case waits => simp [State.waits, planLd, lsCause_none hin halign, hheld]
  case len =>
    simp only [planLd, lsCause_none hin halign, hbad, if_false]
    rwa [panLost_length, counted_length]

theorem exec_st (hready : s.ready p 0x0E w = true) :
    answersPan (.st p w) s p (stepped (s.pan p) (panWrite (s.pan p) (lsAddr (s.pan p) w) (leBytes 8 (gReg (s.pan p) (fld w 20 16))))) := by
  have hclear : s.clear p (planSt p w s) = true := by simp [clear_iff, planSt, lsCause_none hin halign, hheld]
  exact answersPan_stepped (i := .st p w)
    (f := fun q => panWrite q (lsAddr (s.pan p) w) (leBytes 8 (gReg q (fld w 20 16))))
    rfl hready hclear rfl (keepsCount_panWrite _ fun _ _ => rfl) rfl

end

/-- Settles O30. -/
theorem loadAndStore : Obligations.LoadAndStore := by
  unfold Obligations.LoadAndStore
  intro p w s hin halign hheld
  refine ⟨fun ups hready hgood => exec_ld_good hin halign hheld hready hgood,
    fun ups hready hbad => exec_ld_bad hin halign hheld hready hbad, fun hready => ?store⟩
  obtain ⟨t, hexec, honly, hpan⟩ := exec_st hin halign hheld hready
  have hlen := leBytes_length 8 (gReg (s.pan p) (fld w 20 16))
  refine ⟨t, hexec, honly, ?_⟩
  rw [hpan]
  simp only [stepped, panWrite, and_true]
  refine ⟨fun k hk => ?inside, fun a ha => ?outside⟩
  case inside =>
    rw [Memory.read_writeN_inside _ _ (by omega) (by omega), Nat.add_sub_cancel_left, getD_leBytes hk]
  case outside => exact Memory.read_writeN_outside _ _ (by omega)

/-! ### Control flow -/

/-- One less than a register of 64 bits. -/
theorem addS_neg_one_mod (g : Nat) : addS g (-1) % 2 ^ 64 = (g + (2 ^ 64 - 1)) % 2 ^ 64 := by
  unfold addS unsigned
  omega

theorem addS_neg_one_eq_zero {g : Nat} (h : g < 2 ^ 64) : addS g (-1) = 0 ↔ g = 1 := by
  unfold addS unsigned
  omega

theorem loop_taken {w : BitVec 25} {q : Pan} (h : fld w 20 16 = 0 ∨ gReg q (fld w 20 16) ≠ 1)
    (hlt : gReg q (fld w 20 16) < 2 ^ 64) : addS (gReg q (fld w 20 16)) (-1) ≠ 0 ∨ fld w 20 16 = 0 := by
  rw [Ne, addS_neg_one_eq_zero hlt]
  exact h.symm

theorem loop_over {w : BitVec 25} {q : Pan} (h : gReg q (fld w 20 16) = 1) :
    ¬(addS (gReg q (fld w 20 16)) (-1) ≠ 0 ∨ fld w 20 16 = 0) := by
  rintro (hne | hzero)
  · exact hne ((addS_neg_one_eq_zero (by omega)).2 h)
  · simp [gReg, hzero] at h

/-- An update of a Pan that leaves nothing of its own. -/
theorem keepsCount_id : keepsCount id := fun _ => ⟨rfl, fun _ => rfl⟩

/-- Settles O32. -/
theorem controlFlowInstructions : Obligations.ControlFlowInstructions := by
  unfold Obligations.ControlFlowInstructions
  refine fun p w s => ⟨fun hready hfld => ?jmp, fun hready hfld => ?br, fun hready hhi hlo hin => ?jr,
    fun hready hne hlt => ?loopTaken, fun hready hone => ?loopOver, fun hready hfld => ?synci, fun hready hhi hlo hout => ?jrOut⟩
  case jmp =>
    have hclear : s.clear p (planJmp w s) = true := by simp [clear_iff, planJmp, rsvBits, hfld]
    exact answersPan_jumped (i := .jmp p w) (plan := planJmp w) (f := id) rfl hready hclear (updPan_id _ _).symm keepsCount_id rfl
  case br =>
    have hclear : s.clear p (planBr p w s) = true := by simp [clear_iff, planBr, rsvBits, hfld]
    exact answersPan_jumped (i := .br p w) (plan := planBr p w) (f := id) rfl hready hclear (updPan_id _ _).symm keepsCount_id rfl
  case jr =>
    have hclear : s.clear p (planJr p w s) = true := by simp [clear_iff, planJr, rsvBits, hhi, hlo, firstCause, hin]
    exact answersPan_jumped (i := .jr p w) (plan := planJr p w) (f := id) rfl hready hclear (updPan_id _ _).symm keepsCount_id rfl
  case loopTaken =>
    have hclear : s.clear p (planLoop p w s) = true := by simp [clear_iff, planLoop]
    have hflow : (planLoop p w s).flow = .jump (branchTo (s.pan p).pc w) := if_pos (loop_taken hne hlt)
    rw [← setG_mod _ _ (gReg (s.pan p) (fld w 20 16) + (2 ^ 64 - 1)), ← addS_neg_one_mod, setG_mod]
    exact answersPan_jumped (i := .loop p w) (plan := planLoop p w)
      (f := fun q => setG q (fld w 20 16) (addS (gReg (s.pan p) (fld w 20 16)) (-1))) rfl hready hclear rfl
      (keepsCount_setG _ fun _ _ => rfl) hflow
  case loopOver =>
    have hclear : s.clear p (planLoop p w s) = true := by simp [clear_iff, planLoop]
    have hflow : (planLoop p w s).flow = .next := if_neg (loop_over hone)
    rw [← show addS (gReg (s.pan p) (fld w 20 16)) (-1) = 0 from (addS_neg_one_eq_zero (by omega)).2 hone]
    exact answersPan_stepped (i := .loop p w) (plan := planLoop p w)
      (f := fun q => setG q (fld w 20 16) (addS (gReg (s.pan p) (fld w 20 16)) (-1))) rfl hready hclear rfl
      (keepsCount_setG _ fun _ _ => rfl) hflow
  case synci =>
    have hclear : s.clear p (planSynci w s) = true := by simp [clear_iff, planSynci, rsvBits, hfld]
    exact answersPan_issue (i := .synci p w) (plan := planSynci w) (f := id) rfl hready hclear (updPan_id _ _).symm
  case jrOut =>
    have hcause : (planJr p w s).cause = some 5 := by simp [planJr, firstCause, hout]
    obtain ⟨t, hexec, hst, -⟩ := exec_traps (i := .jr p w) (plan := planJr p w) rfl hready (by simp [planJr, rsvBits, hhi, hlo]) rfl
      hcause (by simp [State.waits, planJr]) fun h => absurd h (by decide)
    exact ⟨t, hexec, hst⟩

/-! ### Instruction memory -/

theorem lookupN_insertN_same {α : Type} (l : List (Nat × α)) (k : Nat) (v : α) : lookupN (insertN l k v) k = some v := by
  induction l with
  | nil => simp [insertN, lookupN]
  | cons x r ih =>
    obtain ⟨a, y⟩ := x
    unfold insertN
    split_ifs with hlt heq
    · simp [lookupN]
    · simp [lookupN]
    · rw [← ih]
      simp [lookupN, show a ≠ k by omega]

theorem lookupN_insertN_other {α : Type} {j k : Nat} (h : j ≠ k) (l : List (Nat × α)) (v : α) :
    lookupN (insertN l k v) j = lookupN l j := by
  induction l with
  | nil => simp [insertN, lookupN, h.symm]
  | cons x r ih =>
    obtain ⟨a, y⟩ := x
    unfold insertN
    split_ifs with hlt heq
    · simp [lookupN, h.symm]
    · subst heq
      simp [lookupN, h.symm]
    · by_cases ha : a = j
      · simp [lookupN, ha]
      · simpa [lookupN, ha] using ih

theorem lookupN_eraseN_same {α : Type} (l : List (Nat × α)) (k : Nat) : lookupN (eraseN l k) k = none := by
  simp [lookupN, eraseN]

theorem lookupN_eraseN_other {α : Type} {j k : Nat} (h : j ≠ k) (l : List (Nat × α)) :
    lookupN (eraseN l k) j = lookupN l j := by
  unfold lookupN eraseN
  rw [List.find?_filter]
  congr 2
  funext x
  by_cases hx : x.1 = j
  · simp [hx, h]
  · simp [hx]

theorem imemWord_setImem_same (q : Pan) {i : Nat} (hi : i < 16384) (v : Nat) : imemWord (setImem q i v) i = v := by
  unfold imemWord setImem
  rw [Nat.mod_eq_of_lt hi]
  dsimp only
  split
  · rw [lookupN_eraseN_same]
    exact (‹v = 0›).symm
  · rw [lookupN_insertN_same]
    rfl

theorem imemWord_setImem_other (q : Pan) {i j : Nat} (hj : j < 16384) (h : j ≠ i) (v : Nat) :
    imemWord (setImem q i v) j = imemWord q j := by
  unfold imemWord setImem
  rw [Nat.mod_eq_of_lt hj]
  dsimp only
  split
  · rw [lookupN_eraseN_other h]
  · rw [lookupN_insertN_other h]

/-- Settles O33. -/
theorem storeInstructionWord : Obligations.StoreInstructionWord := by
  unfold Obligations.StoreInstructionWord
  intro p w s hready hhi hlo hin
  have hclear : s.clear p (planSti p w s) = true := by simp [clear_iff, planSti, rsvBits, hhi, hlo, firstCause, hin]
  obtain ⟨t, hexec, honly, hpan⟩ := answersPan_stepped (i := .sti p w) (plan := planSti p w)
    (f := fun q => setImem q (gReg (s.pan p) (fld w 15 11)) (gReg q (fld w 10 6) % 2 ^ 32)) rfl hready hclear rfl
    (fun q => ⟨rfl, fun _ => rfl⟩) rfl
  refine ⟨t, hexec, honly, ?_⟩
  rw [hpan]
  exact ⟨imemWord_setImem_same _ hin _, fun i hi hne => imemWord_setImem_other _ hi hne _, rfl, rfl, rfl⟩

end Sys2Proof.Machine
end

/-! Blocking instructions, address generators and the engines' queues (R332, R334, R336, R349). -/
section
namespace Sys2Proof.Machine

open Sys2Proof

/-! ### Blocking instructions -/

theorem answersPan_fencec {p : Fin 48} {w : BitVec 25} {s : State} (hready : s.ready p 0x51 w = true) (hfld : fld w 15 0 = 0)
    (hlive : s.quadLive p = false) :
    answersPan (.fencec p w) s p (stepped (s.pan p) (setG (s.pan p) (fld w 20 16) 0)) := by
  have hplan : planFencec p w s = { rsv := rsvBits w [(15, 0)], act := fun s => s.updPan p fun q => setG q (fld w 20 16) 0 } := by
    simp only [planFencec, hlive, Bool.false_eq_true, if_false]
  have hclear : s.clear p (planFencec p w s) = true := by simp [hplan, clear_iff, rsvBits, hfld]
  exact answersPan_stepped (i := .fencec p w) (plan := planFencec p w) (f := fun q => setG q (fld w 20 16) 0) rfl hready hclear
    (by rw [hplan]) (keepsCount_setG _ fun _ _ => rfl) (by rw [hplan])

/-- Settles O34. -/
theorem blockingInstructions : Obligations.BlockingInstructions := by
  unfold Obligations.BlockingInstructions
  refine fun p w s => ⟨fun x hx hready hfld => ?haltFence, fun hready hfld hroom => ?kdrain, fun hready hclear => ?recv,
    fun hready hclear => ?waitt, fun hready hfld hlive => ?fencec, fun hready hfld hlive => answersPan_fencec hready hfld hlive⟩
  case haltFence =>
    have hhalt : s.clear p (planHalt w s) = true := by simp [clear_iff, planHalt, rsvBits, hfld]
    fin_cases hx
    · exact answersPan_blocked (i := .halt p w) (plan := planHalt w) rfl hready hhalt rfl rfl
    · exact answersPan_blocked (i := .fence p w) (plan := planFence w) rfl hready hhalt rfl rfl
  case kdrain =>
    have hclear : s.clear p (planKdrain w s) = true := by simp [clear_iff, planKdrain, rsvBits, hfld, engQ, Nat.not_le.2 hroom]
    exact answersPan_blocked (i := .kdrain p w) (plan := planKdrain w) rfl hready hclear rfl rfl
  case recv => exact answersPan_blocked (i := .recv p w) (plan := planRecv p w) rfl hready hclear rfl rfl
  case waitt => exact answersPan_blocked (i := .waitt p w) (plan := planWaitt p w) rfl hready hclear rfl rfl
  case fencec =>
    have hplan : planFencec p w s = { rsv := rsvBits w [(15, 0)], flow := .block (.fencec (fld w 20 16)) } := by
      simp only [planFencec, hlive, if_true]
    have hclear : s.clear p (planFencec p w s) = true := by simp [hplan, clear_iff, rsvBits, hfld]
    exact answersPan_blocked (i := .fencec p w) (plan := planFencec p w) rfl hready hclear (by rw [hplan]) (by rw [hplan])

section
variable {s : State} {p : Fin 48} (hst : (s.pan p).st = .running)
include hst

theorem blockedOn_of_running {b : Blocked} (hb : (s.pan p).blocked = some b) : blockedOn (s.pan p) = some b := by
  simp [blockedOn, hst, hb]

theorem exec_haltComplete (hb : (s.pan p).blocked = some .halt) (hidle : enginesIdle (s.pan p) = true) :
    exec (.haltComplete p) s = s.done (s.updPan p fun q => { unblock q with st := .halted }) := by
  change execHaltComplete p s = _
  simp only [execHaltComplete, blockedOn_of_running hst hb, hidle, if_true]

theorem exec_kdrainComplete (hb : (s.pan p).blocked = some .kdrain) (hq : (s.pan p).kq = []) :
    exec (.kdrainComplete p) s = s.done (s.updPan p unblock) := by
  change execKdrainComplete p s = _
  simp only [execKdrainComplete, blockedOn_of_running hst hb, hq, List.any_nil, Bool.false_eq_true, if_false]

theorem exec_fenceComplete (hb : (s.pan p).blocked = some .fence) (hidle : enginesIdle (s.pan p) = true)
    (hport : s.portIdle p = true) : exec (.fenceComplete p) s = s.done (s.updPan p unblock) := by
  change execFenceComplete p s = _
  simp only [execFenceComplete, blockedOn_of_running hst hb, hidle, hport, Bool.and_self, if_true]

theorem exec_fencecComplete {d : Nat} (hb : (s.pan p).blocked = some (.fencec d)) (hopen : s.writesOpen p = false) :
    exec (.fencecComplete p) s = s.done (s.updPan p fun q => unblock (setG q d (statusCode
      (if s.car.job.any (·.dirty) && s.quadLive p then .postedFail else .ok)))) := by
  change execFencecComplete p s = _
  simp only [execFencecComplete, blockedOn_of_running hst hb, hopen, Bool.false_and, Bool.false_eq_true, if_false]
  cases hjob : s.car.job with
  | none => rfl
  | some j => rfl

theorem exec_waittComplete {c d : Nat} {it : FabItem} {rest : List FabItem} (hb : (s.pan p).blocked = some (.waitt c d))
    (hport : (s.pan p).pq = []) (hrx : rxOf (s.pan p) c = it :: rest) (htoken : it.token = true) :
    exec (.waittComplete p) s = s.done (s.updPan p fun q => unblock (setG (setRx q c rest) d (leAt it.data 0 4))) := by
  change execWaittComplete p s = _
  simp only [execWaittComplete, blockedOn_of_running hst hb, hrx, portTurn, hport, List.isEmpty_nil, htoken, Bool.not_true,
    Bool.false_eq_true, if_false]

theorem exec_recvComplete {c g d : Nat} {it : FabItem} {rest : List FabItem} (hb : (s.pan p).blocked = some (.recv c g d))
    (hport : (s.pan p).pq = []) (hrx : rxOf (s.pan p) c = it :: rest) (htoken : it.token = false)
    (hheld : s.held p (rowAddr (agOf (s.pan p) g) 0).toNat (padTo (128 * flitsOf it.data) it.data).length = false) :
    exec (.recvComplete p) s = s.done (s.updPan p fun q =>
      unblock (setG (setAg (setRx (panWrite q (rowAddr (agOf (s.pan p) g) 0).toNat
        (padTo (128 * flitsOf it.data) it.data)) c rest) g (advAg (agOf q g) 1)) d (flitsOf it.data))) := by
  change execRecvComplete p s = _
  simp only [execRecvComplete, blockedOn_of_running hst hb, hrx, portTurn, hport, List.isEmpty_nil, htoken, hheld, Bool.not_true,
    Bool.false_eq_true, if_false]

end

/-- Settles O35: each at its own condition. -/
theorem blockingInstructionsEnd : Obligations.BlockingInstructionsEnd := by
  unfold Obligations.BlockingInstructionsEnd
  exact fun p s hst => ⟨exec_haltComplete hst, exec_kdrainComplete hst, exec_fenceComplete hst,
    fun _ => exec_fencecComplete hst, fun _ _ _ _ => exec_waittComplete hst, fun _ _ _ _ _ => exec_recvComplete hst⟩

/-! ### Address generators -/

theorem keepsCount_setAg (n : Nat) {a : Pan → AddrGen} (ha : ∀ q c, a { q with pcnt := c } = a q) :
    keepsCount fun q => setAg q n (a q) := by
  intro q
  simp only [ha]
  exact ⟨rfl, fun _ => rfl⟩

/-- Settles O36. -/
theorem generatorInstructions : Obligations.GeneratorInstructions := by
  unfold Obligations.GeneratorInstructions
  refine fun p w s => ⟨fun hready hclear => ?agset, fun hready hclear => ?agscl, fun hready hclear => ?agadv⟩
  case agset =>
    exact answersPan_stepped (i := .agset p w) (plan := planAgset p w) rfl hready hclear rfl (keepsCount_setAg _ fun _ _ => rfl) rfl
  case agscl =>
    exact answersPan_stepped (i := .agscl p w) (plan := planAgscl p w) rfl hready hclear rfl (keepsCount_setAg _ fun _ _ => rfl) rfl
  case agadv =>
    exact answersPan_stepped (i := .agadv p w) (plan := planAgadv p w) rfl hready hclear rfl (keepsCount_setAg _ fun _ _ => rfl) rfl

/-! ### Engine queues -/

theorem startKload_spec (q : Pan) :
    (startKload q).kq.map (·.op) = q.kq.map (·.op) ∧ (startKload q).mem = q.mem := by
  unfold startKload
  dsimp only
  split
  · exact ⟨rfl, rfl⟩
  · rename_i e rest hkq
    split
    · split <;> simp [hkq]
    · split
      · exact ⟨rfl, rfl⟩
      · rename_i f rest' hrest
        split
        · split <;> simp [hkq]
        · exact ⟨rfl, rfl⟩
    · exact ⟨rfl, rfl⟩

section
variable {i : Instr} {s : State} {p op : Nat} {w : BitVec 25} {plan : State → Plan}
  (hexec : exec i s = .next { s.issueWord p (wordOfOp op w) false plan with pending := s.pending })
  (hready : s.ready p op w = true) (hclear : s.clear p (plan s) = true)
include hexec hready hclear

/-- A word that joins an engine's queue. -/
theorem answersPan_enqueued {e : Engine} {eng : Pan → EngOp}
    (hact : (plan s).act (s.counted p (wordOfOp op w)) = (s.counted p (wordOfOp op w)).updPan p fun q => enqueueEng q e (eng q))
    (hflow : (plan s).flow = .next) (heng : ∀ q n, eng { q with pcnt := n } = eng q) :
    answersPan i s p (stepped (s.pan p) (enqueueEng (s.pan p) e (eng (s.pan p)))) :=
  answersPan_stepped hexec hready hclear hact (keepsCount_enqueueEng e heng) hflow

end

theorem counted_cad (s : State) (p word : Nat) : (s.counted p word).cad = s.cad := by
  obtain ⟨-, -, -, hcad, -⟩ := onlyPan_traceIssue s p word
  exact hcad

/-- CADD and CSUB: the operation that joins the Crystalliser's queue. -/
def ringEngOp (sub : Bool) (w : BitVec 25) (q : Pan) : EngOp :=
  if fld w 18 17 = 2 then .caddItem
  else .cring sub (16 * 2 ^ fld w 20 19) (if fld w 18 17 = 1 then some (fld w 16 11) else none) (gReg q (fld w 10 6))

theorem planRing_act (sub : Bool) (p : Nat) (w : BitVec 25) (s t : State) :
    (planRing sub p w s).act t = t.updPan p fun q => enqueueEng q .crystalliser (ringEngOp sub w (s.pan p)) := rfl

/-- CSUB takes no item from the port. -/
theorem ringEngOp_csub {p : Nat} {w : BitVec 25} {s : State} (hclear : s.clear p (planRing true p w s) = true) (q : Pan) :
    ringEngOp true w q =
      .cring true (16 * 2 ^ fld w 20 19) (if fld w 18 17 = 1 then some (fld w 16 11) else none) (gReg q (fld w 10 6)) := by
  obtain ⟨-, hbad, -⟩ := clear_iff.1 hclear
  have hsrc : fld w 18 17 ≠ 2 := by
    intro h
    simp [planRing, h] at hbad
  exact if_neg hsrc

/-- Settles O37. -/
theorem engineInstructionsQueue : Obligations.EngineInstructionsQueue := by
  unfold Obligations.EngineInstructionsQueue
  refine fun p w s => ⟨fun hready hclear => ?send, fun hready hclear => ?sigt, fun hready hclear => ?gseed,
    fun hready hclear hne => ?gexp, fun hready hclear => ?gstream, fun hready hclear => ?cadd, fun hready hclear => ?csub,
    fun hready hclear => ?cfield, fun hready hclear => ?cnoise, fun hready hclear => ?cdeq, fun hready hclear => ?cfuse⟩
  case send =>
    exact answersPan_enqueued (i := .send p w) (plan := planSend p w)
      (eng := fun _ => .send (fld w 20 15) (fld w 14 13) (fld w 12 9 + 1)) rfl hready hclear rfl rfl fun _ _ => rfl
  case sigt =>
    exact answersPan_enqueued (i := .sigt p w) (plan := planSigt p w)
      (eng := fun q => .sigt (fld w 20 15) (gReg q (fld w 14 10) % 2 ^ 32)) rfl hready hclear rfl rfl fun _ _ => rfl
  case gseed =>
    exact answersPan_enqueued (i := .gseed p w) (plan := planGseed p w)
      (eng := fun _ => .gseed (gReg (s.pan p) (fld w 15 11))) rfl hready hclear rfl rfl fun _ _ => rfl
  case gexp =>
    have hact : (planGexp p w s).act (s.counted p (wordOfOp 0x41 w)) = (s.counted p (wordOfOp 0x41 w)).updPan p fun q =>
      { enqueueEng { enqueueEng q .grainer (.gexp (gReg (s.pan p) (fld w 15 11))) with issueOrder := q.issueOrder }
          .crystalliser .gexpLane with issueOrder := q.issueOrder + 1 } := if_neg hne
    obtain ⟨t, hexec, honly, hpan⟩ := answersPan_issue (i := .gexp p w) (plan := planGexp p w) rfl hready hclear hact
    refine ⟨t, hexec, honly, ?_⟩
    rw [hpan, show (planGexp p w s).flow = .next from rfl]
    simp [flowPan, enqueueEng, setEngQ, engQ]
  case gstream =>
    exact answersPan_enqueued (i := .gstream p w) (plan := planGstream p w)
      (eng := fun _ => .gstream (fld w 20 19 == 1) (if fld w 18 18 = 1 then none else some (fld w 17 16)) (fld w 15 10)
        (gReg (s.pan p) (fld w 9 5)) (bitsOf (gReg (s.pan p) (fld w 4 0)) 63 32) (bitsOf (gReg (s.pan p) (fld w 4 0)) 31 0))
      rfl hready hclear (by simp [planGstream]) rfl fun _ _ => rfl
  case cadd =>
    exact answersPan_enqueued (i := .cadd p w) (plan := planRing false p w) (eng := fun _ => ringEngOp false w (s.pan p))
      rfl hready hclear (planRing_act ..) rfl fun _ _ => rfl
  case csub =>
    rw [← ringEngOp_csub hclear]
    exact answersPan_enqueued (i := .csub p w) (plan := planRing true p w) (eng := fun _ => ringEngOp true w (s.pan p))
      rfl hready hclear (planRing_act ..) rfl fun _ _ => rfl
  case cfield =>
    exact answersPan_enqueued (i := .cfield p w) (plan := planCfield p w)
      (eng := fun _ => .cfield (fld w 20 18) (gReg (s.pan p) (fld w 17 13))) rfl hready hclear rfl rfl fun _ _ => rfl
  case cnoise =>
    rw [← counted_cad s p (wordOfOp 0x46 w)]
    exact answersPan_stepped (i := .cnoise p w) (plan := planCnoise p w)
      (f := fun q => { enqueueEng q .crystalliser .cnoise with
        noiseIssued := true, noiseStart := (s.counted p (wordOfOp 0x46 w)).cad.toll })
      rfl hready hclear rfl (fun q => ⟨rfl, fun _ => rfl⟩) rfl
  case cdeq =>
    exact answersPan_enqueued (i := .cdeq p w) (plan := planCdeq p w) (eng := fun _ => .cdeq (nmodeOf (fld w 7 0)))
      rfl hready hclear rfl rfl fun _ _ => rfl
  case cfuse =>
    exact answersPan_enqueued (i := .cfuse p w) (plan := planCfuse p w)
      (eng := fun _ => .cfuse (fld w 20 17) (fld w 16 16 == 1) (gReg (s.pan p) (fld w 15 11)) (nmodeOf (fld w 7 0)))
      rfl hready hclear rfl rfl fun _ _ => rfl

/-- Issue leaves the Kettle's queue to the word's own effect. -/
theorem flowPan_kettle (q : Pan) (buf : List Nat) (f : Flow) :
    (flowPan q buf f).kq = q.kq ∧ (flowPan q buf f).mem = q.mem ∧ (flowPan q buf f).kcfgIssue = q.kcfgIssue ∧
      (flowPan q buf f).koutIssue = q.koutIssue ∧ (flowPan q buf f).kcfg = q.kcfg := by
  cases f <;> exact ⟨rfl, rfl, rfl, rfl, rfl⟩

theorem enqueueEng_kettle_ops (q : Pan) (op : EngOp) :
    (enqueueEng q .kettle op).kq.map (·.op) = q.kq.map (·.op) ++ [op] := by
  simp [enqueueEng, setEngQ, engQ]

theorem eq_some_getD_of_isNone {α : Type} {o : Option α} (h : o.isNone = false) (d : α) : o = some (o.getD d) := by
  cases o with
  | none => simp at h
  | some x => rfl

section
variable {i : Instr} {s : State} {p op : Nat} {w : BitVec 25} {plan : State → Plan}
  (hexec : exec i s = .next { s.issueWord p (wordOfOp op w) false plan with pending := s.pending })
  (hready : s.ready p op w = true) (hclear : s.clear p (plan s) = true)
include hexec hready hclear

/-- A word that joins the Kettle's queue, and starts what can start. -/
theorem exec_startKload {f : Pan → Pan} {eng : EngOp}
    (hact : (plan s).act (s.counted p (wordOfOp op w)) = (s.counted p (wordOfOp op w)).updPan p fun q => startKload (f q))
    (hkq : ∀ q, (f q).kq = (enqueueEng q .kettle eng).kq) (hmem : ∀ q, (f q).mem = q.mem) :
    ∃ t, exec i s = .next t ∧ onlyPan s t p ∧ (t.pan p).kq.map (·.op) = (s.pan p).kq.map (·.op) ++ [eng] ∧
      (t.pan p).mem = (s.pan p).mem := by
  obtain ⟨t, hexec, honly, hpan⟩ := answersPan_issue hexec hready hclear hact
  refine ⟨t, hexec, honly, ?_⟩
  obtain ⟨hfkq, hfmem, -⟩ := flowPan_kettle (startKload (f { s.pan p with pcnt := updAt (s.pan p).pcnt 3 (· + 1) }))
    (fetched (s.pan p)) (plan s).flow
  rw [hpan, hfkq, hfmem, (startKload_spec _).1, (startKload_spec _).2, hkq, hmem, enqueueEng_kettle_ops]
  exact ⟨rfl, rfl⟩

end

/-- The configuration that a KCFG word gives. -/
def kcfgOf (w : BitVec 25) : KCfg :=
  { stat := (fmtOf (fld w 20 17)).getD .s19, str := (fmtOf (fld w 16 13)).getD .s19, openMode := fld w 12 11 == 1,
    passes := bitsOf (fld w 7 0) 5 4, ftz := bitOf (fld w 7 0) 2 }

/-- The output stage that a KOUT word gives. -/
def koutOf (w : BitVec 25) : KOut :=
  { fmt := (fmtOf (fld w 20 17)).getD .fp32, fused := fld w 16 15, fusedFmt := (fmtOf (fld w 14 11)).getD .fp32,
    stats := fld w 10 9, nm := nmodeOf (fld w 7 0) }

section
variable {p : Fin 48} {w : BitVec 25} {s : State}

theorem exec_kcfg (hready : s.ready p 0x30 w = true) (hclear : s.clear p (planKcfg p w s) = true) :
    ∃ t, exec (.kcfg p w) s = .next t ∧ onlyPan s t p ∧ (t.pan p).kq.map (·.op) = (s.pan p).kq.map (·.op) ++ [.kcfg (kcfgOf w)] ∧
      (t.pan p).kcfgIssue = kcfgOf w ∧ (t.pan p).kcfg = (s.pan p).kcfg := by
  obtain ⟨t, hexec, honly, hpan⟩ := answersPan_issue (i := .kcfg p w) (plan := planKcfg p w) (f := fun q =>
    { enqueueEng q .kettle (.kcfg (kcfgOf w)) with
      kcfgIssue := kcfgOf w, bankIssue := if kcfgDiffers q.kcfgIssue (kcfgOf w) then [false, false] else q.bankIssue })
    rfl hready hclear rfl
  refine ⟨t, hexec, honly, ?_⟩
  rw [hpan]
  exact ⟨enqueueEng_kettle_ops .., rfl, rfl⟩

theorem exec_kout (hready : s.ready p 0x31 w = true) (hclear : s.clear p (planKout p w s) = true) :
    ∃ t, exec (.kout p w) s = .next t ∧ onlyPan s t p ∧ (t.pan p).kq.map (·.op) = (s.pan p).kq.map (·.op) ++ [.kout (koutOf w)] ∧
      (t.pan p).koutIssue = koutOf w := by
  obtain ⟨t, hexec, honly, hpan⟩ := answersPan_issue (i := .kout p w) (plan := planKout p w) (f := fun q =>
    { enqueueEng q .kettle (.kout (koutOf w)) with koutIssue := koutOf w }) rfl hready hclear rfl
  refine ⟨t, hexec, honly, ?_⟩
  rw [hpan]
  exact ⟨enqueueEng_kettle_ops .., rfl⟩

/-- A KCFG word that passes its checks names two listed formats. -/
theorem kcfg_formats (hclear : s.clear p (planKcfg p w s) = true) :
    fmtOf (fld w 20 17) = some (kcfgOf w).stat ∧ fmtOf (fld w 16 13) = some (kcfgOf w).str := by
  obtain ⟨-, hbad, -⟩ := clear_iff.1 hclear
  simp only [planKcfg, Bool.or_eq_false_iff] at hbad
  obtain ⟨⟨⟨⟨hstat, hstr⟩, -⟩, -⟩, -⟩ := hbad
  exact ⟨eq_some_getD_of_isNone hstat _, eq_some_getD_of_isNone hstr _⟩

/-- So does a KOUT word of one. -/
theorem kout_format (hclear : s.clear p (planKout p w s) = true) : fmtOf (fld w 20 17) = some (koutOf w).fmt := by
  obtain ⟨-, hbad, -⟩ := clear_iff.1 hclear
  simp only [planKout, Bool.or_eq_false_iff] at hbad
  obtain ⟨⟨⟨⟨hfmt, -⟩, -⟩, -⟩, -⟩ := hbad
  exact eq_some_getD_of_isNone hfmt _

end

/-- Settles O38. -/
theorem kettleInstructionsQueue : Obligations.KettleInstructionsQueue := by
  unfold Obligations.KettleInstructionsQueue
  refine fun p w s => ⟨fun hready hclear => ?kcfg, fun hready hclear => ?kout, fun hready hclear => ?kload,
    fun hready hclear => ?krun, fun hready hclear => ?kpass⟩
  case kcfg =>
    obtain ⟨t, hexec, honly, hops, hissue, hkcfg⟩ := exec_kcfg hready hclear
    obtain ⟨hstat, hstr⟩ := kcfg_formats hclear
    exact ⟨t, kcfgOf w, hexec, honly, hops, hissue, hstat, hstr, hkcfg⟩
  case kout =>
    obtain ⟨t, hexec, honly, hops, hissue⟩ := exec_kout hready hclear
    exact ⟨t, koutOf w, hexec, honly, hops, hissue, kout_format hclear, rfl⟩
  case kload =>
    have hchan : (fld w 16 16 == 1) = true ↔ fld w 16 16 = 1 := by simp
    simp only [← hchan]
    exact exec_startKload (i := .kload p w) (plan := planKload p w) (f := fun q =>
      { enqueueEng q .kettle (.kload (fld w 20 20) (fld w 18 17) (if (fld w 16 16 == 1) = true then some (fld w 15 10) else none))
        with bankIssue := updAt q.bankIssue (fld w 20 20) fun _ => true })
      rfl hready hclear rfl (fun _ => rfl) fun _ => rfl
  case krun =>
    obtain ⟨t, hexec, honly, hops, -⟩ := exec_startKload (i := .krun p w) (plan := planKrun p w) (f := fun q =>
      enqueueEng q .kettle _) rfl hready hclear rfl (fun _ => rfl) fun _ => rfl
    exact ⟨t, _, _, hexec, honly, hops, by simp⟩
  case kpass =>
    obtain ⟨t, hexec, honly, hops, hmem⟩ := exec_startKload (i := .kpass p w) (plan := planKpass p w) (f := fun q =>
      enqueueEng q .kettle _) rfl hready hclear rfl (fun _ => rfl) fun _ => rfl
    exact ⟨t, _, hexec, honly, hops, hmem⟩

end Sys2Proof.Machine
end

/-! The image and the Change fabric (R172 to R194, R199 to R207): the branch that each row takes. -/
section
namespace Sys2Proof.Machine

open Sys2Proof

/-! ### How a row answers -/

/-- A row answers what its operation comes to, with the queue of waiting commands as it stands. -/
theorem answers {i : Instr} {s t u : State} (hexec : exec i s = s.done t) (h : t = u) :
    exec i s = .next { u with pending := s.pending } := by
  rw [hexec, h]
  rfl

/-- So does a row whose operation may have let something go on. -/
theorem answersAfter {i : Instr} {s t u : State} (hexec : exec i s = s.done t.after) (h : t = u) :
    exec i s = .next { u.after with pending := s.pending } := answers hexec (congrArg State.after h)

/-! ### The end of a mailbox command -/

theorem eventsOnly_updFn (s : State) (pf : Nat) (f : Fn → Fn) : eventsOnly s (s.updFn pf f) :=
  ⟨s.queues, s.regs, (s.updFn pf f).fns, s.out, s.belfry.telq, s.power.smbAlertN, rfl, fun _ _ _ => rfl⟩

theorem eventsOnly_emit (s : State) (o : Out) : eventsOnly s (s.emit o) :=
  ⟨s.queues, s.regs, s.fns, (s.emit o).out, s.belfry.telq, s.power.smbAlertN, rfl, fun _ _ _ => rfl⟩

theorem eventsOnly_cmdDone (s : State) (pf seq code status : Nat) (result : Bytes) :
    eventsOnly s (s.cmdDone pf seq code status result) := by
  unfold State.cmdDone
  dsimp only
  split
  · exact (eventsOnly_emit ..).trans (eventsOnly_event ..)
  · exact eventsOnly_event ..

/-- A command that ends touches its function, its items and their registers alone. -/
theorem eventsOnly_complete (s : State) (pf seq code : Nat) (status : Status) (result : Bytes) :
    eventsOnly s (s.complete pf seq code status result) := by
  unfold State.complete
  exact (eventsOnly_updFn s pf _).trans (eventsOnly_cmdDone ..)

theorem eventsOnly_finish (s : State) (pf : Nat) (status : Status) (result : Bytes) :
    eventsOnly s (s.finish pf status result) := by
  unfold State.finish
  split
  · exact .refl s
  · exact (eventsOnly_updFn s pf _).trans (eventsOnly_complete ..)

theorem eventsOnly.img {s t : State} (h : eventsOnly s t) : t.img = s.img := by obtain ⟨qs, rg, fs, o, tq, al, rfl, -⟩ := h; rfl

theorem endLoad_spec (s : State) (pf : Nat) (st : Status) (d sec : Nat) (orphan : Bool) :
    (s.endLoad pf st d sec orphan).img = { s.img with
      st := restState s.img, load := none, next := none, status := statusCode st, detail := d, section_ := sec } ∧
    (s.endLoad pf st d sec orphan).pans = s.pans := by
  unfold State.endLoad
  dsimp only
  split
  · exact ⟨rfl, rfl⟩
  · exact ⟨(eventsOnly_finish ..).img, (eventsOnly_finish ..).pans⟩

/-! ### The image -/

section
variable {s : State} {ld : ImgLoad} (hload : s.img.load = some ld)
include hload

theorem imageApply_writes (hphase : ld.phase = 2) (hready : ((s.applyPans ld.partialCtx).all fun p =>
      (s.pan p).st == .quiesced || ((s.pan p).st == .unassigned && !s.sweep.slice.any fun l => l.pan == p)) = true) :
    s.imageApply =
      (let t := match ld.partialCtx with | none => s.writeFull ld.file | some c => s.writePartial c ld.file
       { t with img := { t.img with load := some { ld with phase := 3 } } }) := by
  simp only [State.imageApply, hload, hphase, hready, if_true] <;> rfl

theorem imageApply_publishes (hphase : ld.phase = 3) (hsync : s.fabric.sync = none) (htest : s.sweep.testing = []) :
    s.imageApply = s.publish ld := by
  simp [State.imageApply, hload, hphase, hsync, htest]

theorem imageStaged_checks (hphase : ld.phase = 1) :
    s.imageStaged = match s.imageFail ld with
      | some e => s.endLoad ld.pf e.status e.detail e.sec ld.orphan
      | none =>
        let t := (s.applyPans ld.partialCtx).foldl (fun (s : State) p => s.updPan p (quiescePan false)) s
        { t with img := { t.img with load := some { ld with phase := 2 } } } := by
  simp only [State.imageStaged, hload, hphase, ne_eq, not_true, if_false] <;> rfl

end

theorem panQuiesced_spec {s : State} {p : Nat} (hprior : (s.pan p).prior.isSome = true) (hst : (s.pan p).st = .quiescing)
    (hret : (s.pan p).ret = false) (hport : s.portIdle p = true) (hslice : s.sweep.slice = none) :
    s.panQuiesced p =
      let t := s.updPan p fun q => { q with st := .quiesced }
      if (s.pan p).retiring then t.retireNow p else t := by
  have hprior' : (s.pan p).prior.isNone = false := by simpa using hprior
  simp [State.panQuiesced, hprior', hst, hret, hport, hslice]

theorem quiesceTimeout_spec {s : State} {p : Nat} (hprior : (s.pan p).prior.isSome = true) (hst : (s.pan p).st ≠ .quiesced)
    (howns : s.loadOwns p = false) : s.quiesceTimeout p = s.updPan p fun q => { unquiescePan q with ret := false } := by
  have hprior' : (s.pan p).prior.isNone = false := by simpa using hprior
  simp [State.quiesceTimeout, hprior', hst, howns]

/-- Settles O40. -/
theorem imageRowsRun : Obligations.ImageRowsRun := by
  unfold Obligations.ImageRowsRun
  refine ⟨fun ld s hload hphase => ?staged, fun pf st d sec orphan s => ?ended, fun ld s hload hphase hready => ?writes,
    fun ld s hload hphase hsync htest => ?publishes, fun p s hprior hst hret hport hslice => ?quiesced,
    fun p s hprior hst howns => ?timeout⟩
  case staged => exact answersAfter (i := .imageStaged) rfl (imageStaged_checks hload hphase)
  case ended =>
    obtain ⟨himg, hpans⟩ := endLoad_spec s pf st d sec orphan
    rw [himg]
    exact ⟨rfl, rfl, rfl, rfl, hpans⟩
  case writes => exact answersAfter (i := .imageApply) rfl (imageApply_writes hload hphase hready)
  case publishes => exact answersAfter (i := .imageApply) rfl (imageApply_publishes hload hphase hsync htest)
  case quiesced => exact answersAfter (i := .panQuiesced p) rfl (panQuiesced_spec hprior hst hret hport hslice)
  case timeout => exact answersAfter (i := .quiesceTimeout p) rfl (quiesceTimeout_spec hprior hst howns)

/-! ### The fabric -/

theorem foldl_fabric {α : Type} {f : State → α → State} (hf : ∀ s a, (f s a).fabric = s.fabric) (l : List α) (s : State) :
    (l.foldl f s).fabric = s.fabric :=
  List.foldlRecOn l f (motive := fun t => t.fabric = s.fabric) rfl fun t ht a _ => (hf t a).trans ht

/-- A port that a ROUTE_SYNC reopens. -/
def synced (s : State) (p : Nat) : State :=
  s.updPan p fun q => { q with routeCache := q.routes, routePending := [], rxMask := s.rxMaskOf p }

theorem syncDone_fabric {s : State} {y : RouteSync} (hsync : s.fabric.sync = some y)
    (hidle : (s.fabric.inflight.any fun i => y.pans.contains i.src) = false) :
    s.syncDone.fabric = { s.fabric with sync := none, syncCount := (s.fabric.syncCount + 1) % 2 ^ 32 } := by
  simp only [State.syncDone, hsync, hidle, Bool.false_eq_true, if_false]
  exact congrArg (fun fb : Fabric => { fb with sync := none, syncCount := (fb.syncCount + 1) % 2 ^ 32 })
    (foldl_fabric (f := synced) (fun _ _ => rfl) y.pans s)

/-- The device once the n-th item in flight has left the fabric. -/
def took (s : State) (n : Nat) : State := { s with fabric := { s.fabric with inflight := s.fabric.inflight.eraseIdx n } }

section
variable {s : State} {n : Nat} {it : FabItem} (hit : s.fabric.inflight[n]? = some it)
  (hturn : itemBefore s.fabric.inflight n it = false)
include hit hturn

/-- An item in its turn is taken at its destination Pan or at its shared port. -/
theorem deliver_spec :
    s.deliver n = if it.kind = 0 then ((took s n).deliverPan it).getD s else (took s n).portTakes it := by
  simp only [State.deliver, hit, hturn, Bool.false_eq_true, if_false]
  rfl

end

section
variable {s : State} {it : FabItem}

theorem deliverPan_stray {r : Nat} (h : s.strayReason it = some r) : s.deliverPan it = some (s.strayAt it.dest it r) := by
  simp only [State.deliverPan, h]

theorem deliverPan_room (h : s.strayReason it = none) (hroom : roomFor (s.pan it.dest) it = true) :
    s.deliverPan it = some (s.updPan it.dest fun q => pull (setRx q it.dchan (rxOf q it.dchan ++ [it]))) := by
  simp only [State.deliverPan, h, hroom, if_true]

theorem deliverPan_full (h : s.strayReason it = none) (hroom : roomFor (s.pan it.dest) it = false) :
    s.deliverPan it = none := by
  simp only [State.deliverPan, h, hroom, Bool.false_eq_true, if_false]

end

theorem exec_strayEventFlush {p : Fin 48} {t : Nat} {s : State} (hlast : (s.strayOf p).last = some t)
    (hcount : (s.strayOf p).count ≠ 0) (htime : t + 1000 ≤ s.cad.toll) :
    exec (.strayEventFlush p) s = s.done ((s.strayEvent p (s.strayOf p).reason (s.strayOf p).src (s.strayOf p).schan
      (s.strayOf p).dchan (s.strayOf p).count).updStray p fun x => { x with last := some s.cad.toll, count := 0 }) := by
  change execStrayEventFlush p s = _
  simp only [execStrayEventFlush, hlast, hcount, Nat.not_lt.2 htime, or_self, if_false]

theorem onlyPan_refl (s : State) (p : Nat) : onlyPan s s p :=
  ⟨fun _ _ => rfl, rfl, rfl, rfl, rfl, rfl, rfl, rfl, rfl, rfl, rfl, rfl, rfl, fun _ _ _ => rfl⟩

/-- A Pan whose port takes up the route of a channel, where one waits. -/
def pickUp (chan : Fin 64) (q : Pan) : Pan :=
  if q.routePending.contains chan then
    let r := (lookupN q.routes chan).getD 0
    { q with routePending := q.routePending.filter (· != chan)
             routeCache := if r = 0 then eraseN q.routeCache chan else insertN q.routeCache chan r }
  else q

/-- A port takes up a written route. -/
theorem exec_routePickup {p : Fin 48} {n : Fin 64} {s : State} (h : (s.pan p).routePending.contains n.val = true) :
    ∃ t, exec (.routePickup p n) s = .next t ∧ onlyPan s t p ∧
      (t.pan p).routePending = (s.pan p).routePending.filter (· != n.val) ∧ (t.pan p).routes = (s.pan p).routes ∧
      (t.pan p).routeCache = (if (lookupN (s.pan p).routes n).getD 0 = 0 then eraseN (s.pan p).routeCache n
        else insertN (s.pan p).routeCache n ((lookupN (s.pan p).routes n).getD 0)) := by
  have hp : p < s.pans.length := by
    by_contra hp
    rw [State.pan, List.getD_eq_default _ _ (Nat.le_of_not_lt hp)] at h
    simp at h
  refine ⟨_, rfl, onlyPan.updPan (onlyPan_refl s p) (pickUp n), ?_⟩
  change (State.pan (s.updPan p (pickUp n)) p).routePending = _ ∧ (State.pan (s.updPan p (pickUp n)) p).routes = _ ∧
    (State.pan (s.updPan p (pickUp n)) p).routeCache = _
  rw [pan_updPan_same hp, pickUp, if_pos h]
  exact ⟨rfl, rfl, rfl⟩

/-- Settles O41. -/
theorem fabricRowsRun : Obligations.FabricRowsRun := by
  unfold Obligations.FabricRowsRun
  refine ⟨fun y s hsync hidle => ⟨rfl, syncDone_fabric hsync hidle⟩, fun n it s hit hturn => ?item,
    fun p t s hlast hcount htime => exec_strayEventFlush hlast hcount htime, fun p n s h => exec_routePickup h⟩
  have hdeliver := deliver_spec hit hturn
  refine ⟨fun hkind hok hroom => ?joins, fun hkind hok hroom => ?waits, fun r hkind hstray => ?stray, fun hkind => ?port⟩
  case joins =>
    exact answersAfter (i := .itemDeliver n) rfl
      ((hdeliver.trans (if_pos hkind)).trans (congrArg (Option.getD · s) (deliverPan_room (s := took s n) hok hroom)))
  case waits =>
    exact answersAfter (i := .itemDeliver n) rfl
      ((hdeliver.trans (if_pos hkind)).trans (congrArg (Option.getD · s) (deliverPan_full (s := took s n) hok hroom)))
  case stray =>
    exact answersAfter (i := .itemDeliver n) rfl
      ((hdeliver.trans (if_pos hkind)).trans (congrArg (Option.getD · s) (deliverPan_stray (s := took s n) hstray)))
  case port => exact answersAfter (i := .itemDeliver n) rfl (hdeliver.trans (if_neg hkind))

end Sys2Proof.Machine
end

/-! The engines' work (R242 to R291, R332, R341): what a step of it answers, and the rows that end it. -/
section
namespace Sys2Proof.Machine

open Sys2Proof

/-! ### Updates of one Pan -/

theorem updPan_updPan (s : State) (p : Nat) (f g : Pan → Pan) : (s.updPan p f).updPan p g = s.updPan p fun q => g (f q) := by
  simp only [State.updPan, updAt_eq_modify, List.modify_modify_eq]
  rfl

/-- An update is what it makes of the Pan as it stands. -/
theorem updPan_congr {s : State} {p : Nat} {f g : Pan → Pan} (h : f (s.pan p) = g (s.pan p)) : s.updPan p f = s.updPan p g := by
  have hpans : updAt s.pans p f = updAt s.pans p g := by
    rw [updAt_eq_modify, updAt_eq_modify]
    apply List.ext_getElem?
    intro i
    rw [List.getElem?_modify, List.getElem?_modify]
    by_cases hi : p = i
    · subst hi
      cases hp : s.pans[p]? with
      | none => rfl
      | some q =>
        have hq : s.pan p = q := by simp [State.pan, List.getD_eq_getElem?_getD, hp]
        rw [hq] at h
        simpa using h
    · simp [hi]
  simp only [State.updPan, hpans]

/-! ### Steps of work -/

theorem run_bind_ok {α β : Type} {x : Work α} {f : α → Work β} {s t : State} {a : α} (h : x.run s = (.ok a, t)) :
    (x >>= f).run s = (f a).run t := by
  change StateT.bind x (ExceptT.bindCont f) s = _
  have h' : (x : StateM State (Except Stop α)) s = (.ok a, t) := h
  unfold StateT.bind
  rw [h']
  rfl

theorem run_bind_error {α β : Type} {x : Work α} {f : α → Work β} {s t : State} {e : Stop} (h : x.run s = (.error e, t)) :
    (x >>= f).run s = (.error e, t) := by
  change StateT.bind x (ExceptT.bindCont f) s = _
  have h' : (x : StateM State (Except Stop α)) s = (.error e, t) := h
  unfold StateT.bind
  rw [h']
  rfl

theorem run_get_bind {β : Type} (f : State → Work β) (s : State) : (get >>= f : Work β).run s = (f s).run s := rfl

section
variable {u : Probe} {a : Int} {n : Nat} {s : State} (hheld : s.held u.pan a.toNat n = false)
include hheld

theorem rd_good (hgood : failingIn (s.pan u.pan) u.ups a.toNat n = []) :
    (rd u a n).run s = (.ok (Memory.readN (s.pan u.pan).mem a.toNat n),
      (upsetsIn u.ups a.toNat n).foldl (fun s e => s.meetUpset u.pan u.pc e) s) := by
  unfold rd
  rw [run_get_bind]
  dsimp only
  rw [hheld, hgood]
  rfl

theorem rd_lost (hlost : failingIn (s.pan u.pan) u.ups a.toNat n ≠ []) :
    (rd u a n).run s = (.error (.lost (failingIn (s.pan u.pan) u.ups a.toNat n)),
      (upsetsIn u.ups a.toNat n).foldl (fun s e => s.meetUpset u.pan u.pc e) s) := by
  unfold rd
  rw [run_get_bind]
  dsimp only
  rw [hheld]
  cases hf : failingIn (s.pan u.pan) u.ups a.toNat n with
  | nil => exact absurd hf hlost
  | cons w ws => rfl

theorem wr_run {bs : Bytes} (hlen : bs.length = n) : (wr u a bs).run s = (.ok (), s.updPan u.pan fun q => panWrite q a.toNat bs) := by
  unfold wr
  rw [run_get_bind]
  dsimp only
  rw [hlen, hheld]
  rfl

end

theorem held_of_no_slice {s : State} (h : s.sweep.slice = none) (p a n : Nat) : s.held p a n = false := by
  simp [State.held, h]

theorem runRows_one_ok {f : Nat → Work Unit} {k : Nat} {s t : State} (h : (f k).run s = (.ok (), t)) :
    runRows f k 1 s = (k + 1, none, t) := by
  simp only [runRows, h]

theorem runRows_one_lost {f : Nat → Work Unit} {k : Nat} {s t : State} {ws : List Nat} (h : (f k).run s = (.error (.lost ws), t)) :
    runRows f k 1 s = (k, some (.lost ws), t) := by
  simp only [runRows, h]

/-! ### Reads leave what later reads see -/

/-- What reads that meet upsets keep; without upsets they keep everything. -/
def readOnly (ups : List (Nat × Upset)) (s t : State) : Prop :=
  t.pans = s.pans ∧ t.ctxs = s.ctxs ∧ t.sweep.slice = s.sweep.slice ∧ (ups = [] → t = s)

theorem readOnly.refl (ups : List (Nat × Upset)) (s : State) : readOnly ups s s := ⟨rfl, rfl, rfl, fun _ => rfl⟩

theorem readOnly.trans {ups : List (Nat × Upset)} {s t x : State} (h : readOnly ups s t) (h' : readOnly ups t x) : readOnly ups s x := by
  obtain ⟨hp, hc, hs, hn⟩ := h
  obtain ⟨hp', hc', hs', hn'⟩ := h'
  exact ⟨hp'.trans hp, hc'.trans hc, hs'.trans hs, fun h => (hn' h).trans (hn h)⟩

theorem meetUpset_slice (s : State) (p arg : Nat) (x : Nat × Upset) : (s.meetUpset p arg x).sweep.slice = s.sweep.slice := by
  unfold State.meetUpset
  split
  · rfl
  · rw [(eventsOnly_fault ..).sweep]
    rfl
  · rfl

theorem readOnly_meetUpsets (ups : List (Nat × Upset)) (a n : Nat) (s : State) (p arg : Nat) :
    readOnly ups s ((upsetsIn ups a n).foldl (fun s e => s.meetUpset p arg e) s) := by
  obtain ⟨hpans, hctxs⟩ := meetUpsets_frame (upsetsIn ups a n) s p arg
  refine ⟨hpans, hctxs, ?slice, fun h => ?none⟩
  case slice =>
    exact List.foldlRecOn (upsetsIn ups a n) _ (motive := fun t : State => t.sweep.slice = s.sweep.slice) rfl
      fun t ht x _ => (meetUpset_slice t p arg x).trans ht
  case none => rw [h]; rfl

/-! ### A shift-in -/

/-- The columns of a shift-in: rows of Pan memory with their scales, or pieces of channel data (R242, R243). -/
def column (q : Pan) (e : EngEntry) (g : Nat) (chan : Bool) (n sc k : Nat) : Bytes × Bytes :=
  if chan then (slice e.got (k * (n + sc)) n, slice e.got (k * (n + sc) + n) sc)
  else (Memory.readN q.mem (rowAddr (entAg e g) k).toNat n,
    if sc = 0 then [] else Memory.readN q.mem (scaleAddr (entAg e g) k).toNat sc)

/-- A column can be read: its channel data has come, or no word of its rows fails twice. -/
def columnGood (q : Pan) (ups : List (Nat × Upset)) (e : EngEntry) (g : Nat) (chan : Bool) (n sc k : Nat) : Prop :=
  if chan then (k + 1) * (n + sc) ≤ e.got.length
  else failingIn q ups (rowAddr (entAg e g) k).toNat n = [] ∧ failingIn q ups (scaleAddr (entAg e g) k).toNat sc = []

section
variable {u : Probe} {e : EngEntry} {g n sc : Nat} {chan : Bool}

theorem operandRow_run {s : State} {k : Nat} (hslice : s.sweep.slice = none)
    (hgood : columnGood (s.pan u.pan) u.ups e g chan n sc k) :
    ∃ t, readOnly u.ups s t ∧
      (operandRow u (entAg e g) chan e.got k n sc).run s = (.ok (column (s.pan u.pan) e g chan n sc k), t) := by
  unfold columnGood at hgood
  unfold operandRow column
  cases chan with
  | true =>
    simp only [if_true] at hgood ⊢
    refine ⟨s, .refl _ s, ?_⟩
    rw [if_neg (Nat.not_lt.2 hgood)]
    rfl
  | false =>
    simp only [Bool.false_eq_true, if_false] at hgood ⊢
    obtain ⟨hrow, hscale⟩ := hgood
    have hro := readOnly_meetUpsets u.ups (rowAddr (entAg e g) k).toNat n s u.pan u.pc
    rw [run_bind_ok (rd_good (held_of_no_slice hslice ..) hrow)]
    by_cases hsc : sc = 0
    · simp only [hsc, if_true]
      exact ⟨_, hro, rfl⟩
    · simp only [hsc, if_false]
      have hpan := pan_congr hro.1 u.pan
      rw [run_bind_ok (rd_good (held_of_no_slice (hro.2.2.1.trans hslice) ..) (by rwa [hpan]))]
      exact ⟨_, hro.trans (readOnly_meetUpsets ..), by rw [hpan]; rfl⟩

theorem loadCols_run (c : KCfg) (hn : operandRowBytes c c.stat = n) (hsc : scaleRowBytes c c.stat = sc) (m : Nat) :
    ∀ (k : Nat) (s : State), s.sweep.slice = none →
      (∀ i, i < m → columnGood (s.pan u.pan) u.ups e g chan n sc (k + i)) →
      ∃ t, readOnly u.ups s t ∧ (loadCols u c e g chan k m).run s =
        (.ok ((List.range m).map fun i => column (s.pan u.pan) e g chan n sc (k + i)), t) := by
  induction m with
  | zero => exact fun k s _ _ => ⟨s, .refl _ s, rfl⟩
  | succ m ih =>
    intro k s hslice hgood
    obtain ⟨t, hro, hrun⟩ := operandRow_run hslice (hgood 0 (by omega))
    rw [Nat.add_zero] at hrun
    have hpan := pan_congr hro.1 u.pan
    obtain ⟨x, hro', hrun'⟩ := ih (k + 1) t (hro.2.2.1.trans hslice) fun i hi => by
      rw [hpan, Nat.add_assoc, Nat.add_comm 1]
      exact hgood (i + 1) (by omega)
    refine ⟨x, hro.trans hro', ?_⟩
    rw [loadCols, hn, hsc, run_bind_ok hrun, run_bind_ok hrun', hpan, List.range_succ_eq_map]
    simp only [List.map_cons, List.map_map, Function.comp_def, Nat.succ_eq_add_one, Nat.add_assoc, Nat.add_comm 1]
    rfl

end

/-- The Pan whose bank a shift-in has filled. -/
def shiftedIn (e : EngEntry) (b : Nat) (bank : Bank × Nat) (y : Pan) : Pan :=
  startKload (countWork (advGens (orNstat { y with
    banks := updAt y.banks b fun _ => bank.1, kq := y.kq.filter fun f => f.order != e.order } bank.2) e) 0 128)

theorem shiftIn_run {u : Probe} {e : EngEntry} {b g : Nat} {ch : Bool} {s : State} (hslice : s.sweep.slice = none)
    (hgood : ∀ k, k < 128 → columnGood (s.pan u.pan) u.ups e g ch (operandRowBytes (s.pan u.pan).kcfg (s.pan u.pan).kcfg.stat)
      (scaleRowBytes (s.pan u.pan).kcfg (s.pan u.pan).kcfg.stat) k) :
    ∃ x, readOnly u.ups s x ∧ (shiftIn u e b g ch).run s =
      (.ok (), x.updPan u.pan (shiftedIn e b (fillBank (s.pan u.pan).kcfg ((List.range 128).map
        (column (s.pan u.pan) e g ch (operandRowBytes (s.pan u.pan).kcfg (s.pan u.pan).kcfg.stat)
          (scaleRowBytes (s.pan u.pan).kcfg (s.pan u.pan).kcfg.stat)))))) := by
  obtain ⟨x, hro, hrun⟩ := loadCols_run (s.pan u.pan).kcfg rfl rfl 128 0 s hslice fun i hi => by
    rw [Nat.zero_add]
    exact hgood i hi
  simp only [Nat.zero_add] at hrun
  refine ⟨x, hro, ?_⟩
  unfold shiftIn
  rw [run_get_bind, run_bind_ok hrun]
  rfl

/-! ### Serving an instruction -/

section
variable {s : State} {p : Nat} {eng : Engine} {e : EngEntry} {n : Nat} {ups : List (Nat × Upset)}
  (hruns : engineRuns (s.pan p) = true)
include hruns

/-- An instruction that is done row by row. -/
theorem serve_rows {j : EngJob} (hadd : e.op ≠ .caddItem) (hexp : ∀ l, e.op ≠ .gexp l) (hnoise : e.op ≠ .cnoise)
    (hload : ∀ b g ch, e.op ≠ .kload b g ch) (hwork : s.workOf { pan := p, pc := e.pc, ups := ups } e = some j) :
    s.serve p eng e n ups = s.serveRows p eng e j n := by
  unfold State.serve
  simp only [hruns, hwork, Bool.not_true, Bool.false_eq_true, if_false]

section
variable {j : EngJob} {k : Nat} {t : State} (hadd : e.op ≠ .caddItem) (hexp : ∀ l, e.op ≠ .gexp l)
  (hnoise : e.op ≠ .cnoise) (hload : ∀ b g ch, e.op ≠ .kload b g ch)
  (hwork : s.workOf { pan := p, pc := e.pc, ups := ups } e = some j)
include hadd hexp hnoise hload hwork

theorem served_rows (hrun : runRows j.row e.row (min n (j.total - e.row)) s = (k, none, t)) :
    s.served p eng e n ups = t.updPan p fun y => if j.total ≤ k then popHead (j.fin y) eng else setRows y eng k := by
  rw [State.served, serve_rows hruns hadd hexp hnoise hload hwork, State.serveRows, hrun]
  by_cases hk : j.total ≤ k
  · simp [hk]
  · simp [hk]

theorem served_rows_stopped {x : Stop} (hrun : runRows j.row e.row (min n (j.total - e.row)) s = (k, some x, t)) :
    s.served p eng e n ups = (t.updPan p fun y => setRows y eng k).stopped p e x := by
  rw [State.served, serve_rows hruns hadd hexp hnoise hload hwork, State.serveRows, hrun]
  rfl

end

/-- A shift-in that has started does all its steps at once. -/
theorem served_kload {b g : Nat} {ch : Option Nat} {t : State} (hop : e.op = .kload b g ch) (hstart : e.started = true)
    (hrun : (shiftIn { pan := p, pc := e.pc, ups := ups } e b g ch.isSome).run s = (.ok (), t)) :
    s.served p eng e n ups = t := by
  unfold State.served State.serve
  simp only [hruns, hop, hstart, Bool.not_true, Bool.false_eq_true, if_false,
    runRows_one_ok (f := fun _ => shiftIn { pan := p, pc := e.pc, ups := ups } e b g ch.isSome) (k := 0) hrun]

end

theorem exec_engineInstructionComplete {p : Fin 48} {s : State} {eng : Engine} {e : EngEntry} {rest : List EngEntry} {n : Nat}
    {ups : List (Nat × Upset)} (hq : engQ ((s.updPan p pull).pan p) eng = e :: rest) (hload : ∀ b g ch, e.op ≠ .kload b g ch) :
    exec (.engineInstructionComplete p eng n ups) s = s.done ((s.updPan p pull).served p eng e n ups) := by
  change execEngineInstructionComplete p eng n ups s = _
  unfold execEngineInstructionComplete
  dsimp only
  rw [hq]
  dsimp only [List.head?_cons]
  split
  · exact absurd ‹_› (hload _ _ _)
  · rfl

/-! ### Single instructions -/

section
variable {p : Fin 48} {s : State} {eng : Engine} {e : EngEntry} {rest : List EngEntry} {n : Nat} {ups : List (Nat × Upset)}
  (hq : engQ ((s.updPan p pull).pan p) eng = e :: rest) (hruns : engineRuns ((s.updPan p pull).pan p) = true)
include hq hruns

/-- An instruction of one row that is done. -/
theorem exec_oneRow {j : EngJob} {t : State} (hadd : e.op ≠ .caddItem) (hexp : ∀ l, e.op ≠ .gexp l) (hnoise : e.op ≠ .cnoise)
    (hload : ∀ b g ch, e.op ≠ .kload b g ch)
    (hwork : (s.updPan p pull).workOf { pan := p, pc := e.pc, ups := ups } e = some j) (htotal : j.total = 1) (hrow : e.row = 0)
    (hn : 0 < n) (hrun : (j.row 0).run (s.updPan p pull) = (.ok (), t)) :
    exec (.engineInstructionComplete p eng n ups) s =
      .next { t.updPan p fun y => popHead (j.fin y) eng with pending := s.pending } := by
  have hmin : min n (j.total - e.row) = 1 := by omega
  have hrows : runRows j.row e.row (min n (j.total - e.row)) (s.updPan p pull) = (1, none, t) := by
    rw [hmin, hrow]
    exact runRows_one_ok hrun
  rw [exec_engineInstructionComplete hq hload, served_rows hruns hadd hexp hnoise hload hwork hrows]
  simp only [htotal, le_refl, if_true]
  rfl

theorem exec_koutComplete {o : KOut} (hop : e.op = .kout o) (hrow : e.row = 0) :
    exec (.engineInstructionComplete p eng n ups) s =
      .next { (s.updPan p pull).updPan p fun y => popHead { y with kout := o } eng with pending := s.pending } := by
  have hwork : (s.updPan p pull).workOf { pan := p, pc := e.pc, ups := ups } e =
      some { total := 0, row := fun _ => pure (), fin := fun q => { q with kout := o } } := by
    simp only [State.workOf, hop]
  rw [exec_engineInstructionComplete hq (by simp [hop]),
    served_rows hruns (by simp [hop]) (by simp [hop]) (by simp [hop]) (by simp [hop]) hwork (k := 0) (t := s.updPan p pull)
      (by simp [runRows, hrow])]
  rfl

/-- The one row of a GSEED. -/
def gseedRow (u : Probe) (a : Nat) (_ : Nat) : Work Unit := do
  let z ← rd u a 32
  onPan u fun q => countWork { q with progSeed := z } 1 16

theorem exec_gseedComplete {a : Nat} (hop : e.op = .gseed a) (hrow : e.row = 0) (hn : 0 < n) (hslice : s.sweep.slice = none)
    (hups : ups = []) (hgood : failingIn ((s.updPan p pull).pan p) [] a 32 = []) :
    exec (.engineInstructionComplete p eng n ups) s =
      .next { (s.updPan p pull).updPan p fun y => popHead (countWork { y with
        progSeed := Memory.readN ((s.updPan p pull).pan p).mem a 32 } 1 16) eng with pending := s.pending } := by
  subst hups
  have hwork : (s.updPan p pull).workOf { pan := p, pc := e.pc, ups := [] } e = some { total := 1, row := fun _ => do
      let z ← rd { pan := p, pc := e.pc, ups := [] } a 32
      onPan { pan := p, pc := e.pc, ups := [] } fun q => countWork { q with progSeed := z } 1 16 } := by
    simp only [State.workOf, hop]
  have hheld : (s.updPan p pull).held p (a : Int).toNat 32 = false := held_of_no_slice (s := s.updPan p pull) hslice ..
  rw [exec_oneRow hq hruns (by simp [hop]) (by simp [hop]) (by simp [hop]) (by simp [hop]) hwork rfl hrow hn
    (run_bind_ok (rd_good (u := { pan := p, pc := e.pc, ups := [] }) hheld hgood))]
  change Host.Outcome.next { (((s.updPan p pull).updPan p _).updPan p fun y => popHead y eng) with pending := s.pending } = _
  rw [updPan_updPan]
  rfl

theorem exec_sigtComplete {c v : Nat} (hop : e.op = .sigt c v) (hrow : e.row = 0) (hn : 0 < n) (hsync : s.fabric.sync = none)
    (hroom : s.mayLeave ((s.updPan p pull).itemOf p c true (leBytes 4 v)) = true) :
    exec (.engineInstructionComplete p eng n ups) s =
      .next { ((s.updPan p pull).sendItem p c true (leBytes 4 v)).updPan p fun y => popHead y eng with pending := s.pending } := by
  have hwork : (s.updPan p pull).workOf { pan := p, pc := e.pc, ups := ups } e =
      some { total := 1, row := fun _ => sendRow { pan := p, pc := e.pc, ups := ups } c true (leBytes 4 v) } := by
    simp only [State.workOf, hop]
  have hrun : (sendRow { pan := p, pc := e.pc, ups := ups } c true (leBytes 4 v)).run (s.updPan p pull) =
      (.ok (), (s.updPan p pull).sendItem p c true (leBytes 4 v)) := by
    have hsync' : (s.updPan p pull).fabric.sync = none := hsync
    have hroom' : (s.updPan p pull).mayLeave ((s.updPan p pull).itemOf p c true (leBytes 4 v)) = true := hroom
    unfold sendRow
    rw [run_get_bind, hsync', hroom']
    rfl
  exact exec_oneRow hq hruns (by simp [hop]) (by simp [hop]) (by simp [hop]) (by simp [hop]) hwork rfl hrow hn hrun

theorem exec_caddItem {c slot : Nat} (hop : e.op = .caddItem) (hadd : (s.updPan p pull).addReady p = some (c, slot)) :
    exec (.engineInstructionComplete p eng n ups) s =
      .next { (match (s.updPan p pull).serveAdd { pan := p, pc := e.pc, ups := ups } c slot n with
        | (none, t') => t'
        | (some x, t') => t'.stopped p e x) with pending := s.pending } := by
  rw [exec_engineInstructionComplete hq (by simp [hop])]
  simp only [State.served, State.serve, hruns, hop, hadd, Bool.not_true, Bool.false_eq_true, if_false]
  rfl

end

/-! ### The noise step -/

theorem run_tryCatch_ok {α : Type} {x : Work α} {f : Stop → Work α} {s t : State} {a : α} (h : x.run s = (.ok a, t)) :
    (tryCatch x f).run s = (.ok a, t) := by
  have h' : (x : StateM State (Except Stop α)) s = (.ok a, t) := h
  simp only [tryCatch, tryCatchThe, MonadExceptOf.tryCatch, ExceptT.tryCatch, ExceptT.run, ExceptT.mk, bind, StateT.bind]
  rw [h']
  rfl

section
variable {u : Probe} {s : State} {c k : Nat} (hchip : (s.ctx c).onChip = true) (hslice : s.sweep.slice = none)
include hchip hslice

/-- A word of an on-chip accumulator read without upsets. -/
theorem accRd_run (hups : u.ups = [])
    (hgood : failingIn (s.pan u.pan) [] (k * (ringW (s.ctx c) / 8)) (1 * (ringW (s.ctx c) / 8)) = []) :
    (accRd u c k 1).run s =
      (.ok (Memory.readN (s.pan u.pan).mem (k * (ringW (s.ctx c) / 8)) (1 * (ringW (s.ctx c) / 8))), s) := by
  have hplace : s.accPlace c u.pan k = (true, k * (ringW (s.ctx c) / 8)) := by simp [State.accPlace, hchip]
  have hrd := rd_good (u := u) (a := (k * (ringW (s.ctx c) / 8) : Nat)) (n := 1 * (ringW (s.ctx c) / 8))
    (held_of_no_slice hslice ..) (by rw [hups]; exact hgood)
  rw [hups] at hrd
  unfold accRd
  rw [run_get_bind, hplace]
  exact run_tryCatch_ok hrd

theorem accWr_run (bs : Bytes) :
    (accWr u c k bs).run s = (.ok (), s.updPan u.pan fun q => panWrite q (k * (ringW (s.ctx c) / 8)) bs) := by
  have hplace : s.accPlace c u.pan k = (true, k * (ringW (s.ctx c) / 8)) := by simp [State.accPlace, hchip]
  unfold accWr
  rw [run_get_bind, hplace]
  exact wr_run (held_of_no_slice hslice ..) rfl

end

/-- The sample that stands is added to its word of an on-chip accumulator (R288). -/
theorem noiseRow_run {u : Probe} {s : State} {c k : Nat} (hups : u.ups = []) (hchip : (s.ctx c).onChip = true)
    (hslice : s.sweep.slice = none) (hnext : (s.pan u.pan).noiseNext < (s.sliceOf c u.pan).2)
    (hstage : (s.pan u.pan).sampler.stage = .done)
    (hgood : failingIn (s.pan u.pan) [] ((s.pan u.pan).noiseNext * (ringW (s.ctx c) / 8)) (ringW (s.ctx c) / 8) = []) :
    (noiseRow u c k).run s = (.ok (), s.updPan u.pan fun y =>
      { panWrite y ((s.pan u.pan).noiseNext * (ringW (s.ctx c) / 8)) (leBytes (ringW (s.ctx c) / 8)
          (unsigned (ringW (s.ctx c)) ((leNat (Memory.readN (s.pan u.pan).mem
            ((s.pan u.pan).noiseNext * (ringW (s.ctx c) / 8)) (1 * (ringW (s.ctx c) / 8))) : Int) + (s.pan u.pan).sampler.y))) with
        noiseNext := (s.pan u.pan).noiseNext + 1, sampler := {} }) := by
  have hrd := accRd_run (u := u) (k := (s.pan u.pan).noiseNext) hchip hslice hups (by rwa [Nat.one_mul])
  unfold noiseRow
  rw [run_get_bind]
  dsimp only
  rw [if_neg (Nat.not_le.2 hnext), if_pos hstage, run_bind_ok hrd, run_bind_ok (accWr_run hchip hslice _)]
  change (Except.ok (), (State.updPan _ u.pan _)) = _
  rw [updPan_updPan]
  exact congrArg (Prod.mk _) (updPan_congr rfl)

theorem lt_length_of_engineRuns {s : State} {p : Nat} (h : engineRuns (s.pan p) = true) : p < s.pans.length := by
  by_contra hp
  rw [State.pan, List.getD_eq_default _ _ (Nat.le_of_not_lt hp)] at h
  simp [engineRuns] at h

theorem engineTrap_trapMarks {s : State} {p : Nat} (hp : p < s.pans.length) (e : EngEntry) (cause : Nat) :
    trapMarks e.pc (statusCode (causeStatus cause)) ((s.engineTrap p e cause).pan p) :=
  trap_trapMarks (by rwa [updPan_length]) ..

section
variable {p : Fin 48} {s : State} {eng : Engine} {e : EngEntry} {rest : List EngEntry}
  (hq : engQ ((s.updPan p pull).pan p) eng = e :: rest) (hruns : engineRuns ((s.updPan p pull).pan p) = true)
include hq hruns

theorem exec_cnoise {c : Nat} (hop : e.op = .cnoise) (hlive : (s.updPan p pull).liveCtx p = some c)
    (hst : (s.ctx c).st = .settling) (hchip : (s.ctx c).onChip = true) (hslice : s.sweep.slice = none)
    (hnext : ((s.updPan p pull).pan p).noiseNext < ((s.updPan p pull).sliceOf c p).2)
    (hstage : ((s.updPan p pull).pan p).sampler.stage = .done)
    (hgood : failingIn ((s.updPan p pull).pan p) [] (((s.updPan p pull).pan p).noiseNext * (ringW (s.ctx c) / 8))
      (ringW (s.ctx c) / 8) = []) :
    exec (.engineInstructionComplete p eng 1 []) s =
      .next { (s.updPan p pull).updPan p fun y =>
        { panWrite y (((s.updPan p pull).pan p).noiseNext * (ringW (s.ctx c) / 8)) (leBytes (ringW (s.ctx c) / 8)
            (unsigned (ringW (s.ctx c)) ((leNat (Memory.readN ((s.updPan p pull).pan p).mem
              (((s.updPan p pull).pan p).noiseNext * (ringW (s.ctx c) / 8)) (1 * (ringW (s.ctx c) / 8))) : Int) +
                ((s.updPan p pull).pan p).sampler.y))) with
          noiseNext := ((s.updPan p pull).pan p).noiseNext + 1, sampler := {} } with pending := s.pending } := by
  have hrun := noiseRow_run (u := { pan := p, pc := e.pc, ups := [] }) (s := s.updPan p pull) (c := c) (k := 0) rfl hchip hslice
    hnext hstage hgood
  have hst' : ((s.updPan p pull).ctx c).st = .settling := hst
  rw [exec_engineInstructionComplete hq (by simp [hop])]
  simp only [State.served, State.serve, hruns, hop, hlive, hst', bne_self_eq_false, Bool.not_true, Bool.false_eq_true, if_false,
    runRows_one_ok (f := noiseRow { pan := p, pc := e.pc, ups := [] } c) hrun]
  rfl

omit hq in
/-- A GSEED that comes to a word that fails twice stops with it. -/
theorem serve_gseed_lost {a word : Nat} (hop : e.op = .gseed a) (hrow : e.row = 0) (hslice : s.sweep.slice = none)
    (hlo : a < 8 * word + 8) (hhi : 8 * word < a + 32) :
    ∃ ws t, (s.updPan p pull).serve p eng e (2 ^ 24) [(word, .lasting)] = (some (.lost ws), t) ∧
      t.pans.length = s.pans.length := by
  have hslice' : (s.updPan p pull).sweep.slice = none := hslice
  have hlost : failingIn ((s.updPan p pull).pan p) [(word, .lasting)] (a : Int).toNat 32 ≠ [] := by
    by_cases hbad : word ∈ ((s.updPan p pull).pan p).bad
    · have hmem : word ∈ ((s.updPan p pull).pan p).bad.filter fun w => decide (a < 8 * w + 8) && decide (8 * w < a + 32) := by
        simp [hbad, hlo, hhi]
      exact List.append_ne_nil_of_left_ne_nil (List.ne_nil_of_mem hmem) _
    · simp [failingIn, upsetsIn, hlo, hhi, hbad]
  have hrd := rd_lost (u := { pan := p, pc := e.pc, ups := [(word, .lasting)] }) (s := s.updPan p pull)
    (held_of_no_slice hslice' ..) hlost
  have hwork : (s.updPan p pull).workOf { pan := p, pc := e.pc, ups := [(word, .lasting)] } e =
      some { total := 1, row := gseedRow { pan := p, pc := e.pc, ups := [(word, .lasting)] } a } := by
    simp only [State.workOf, hop] <;> rfl
  have hrow' : (gseedRow { pan := p, pc := e.pc, ups := [(word, .lasting)] } a 0).run (s.updPan p pull) = _ := run_bind_error hrd
  have hserve := serve_rows (n := 2 ^ 24) (eng := eng) hruns (by simp [hop]) (by simp [hop]) (by simp [hop]) (by simp [hop]) hwork
  rw [State.serveRows, hrow] at hserve
  dsimp only at hserve
  rw [Nat.sub_zero, Nat.min_eq_right (by decide), runRows_one_lost hrow'] at hserve
  refine ⟨_, _, hserve, ?_⟩
  rw [updPan_length, (meetUpsets_frame ..).1, updPan_length]

/-- So it traps MEMORY (R341). -/
theorem exec_gseedTrap {a word : Nat} (hop : e.op = .gseed a) (hrow : e.row = 0) (hslice : s.sweep.slice = none)
    (hlo : a < 8 * word + 8) (hhi : 8 * word < a + 32) :
    ∃ t', exec (.engineTrap p eng false word) s = .next t' ∧ trapMarks e.pc (statusCode .uncorrectable) (t'.pan p) := by
  obtain ⟨ws, t, hserve, hlen⟩ := serve_gseed_lost (eng := eng) hruns hop hrow hslice hlo hhi
  have hmeets : (s.updPan p pull).meetsLost p eng word e = some (t.stopped p e (.lost ws)) := by
    simp only [State.meetsLost, hserve]
  have hexec : exec (.engineTrap p eng false word) s = s.done (t.stopped p e (.lost ws)) := by
    change execEngineTrap p eng false word s = _
    unfold execEngineTrap inService
    dsimp only
    rw [hq]
    dsimp only
    rw [List.findSome?_cons, hmeets]
    rfl
  refine ⟨_, hexec, engineTrap_trapMarks (p := p) ?_ e 11⟩
  rw [panLost_length, hlen]
  exact (lt_length_of_engineRuns (s := s.updPan p pull) hruns).trans_eq (updPan_length ..)

end

theorem exec_engineTrap_kind {p : Fin 48} {s : State} {eng : Engine} {e : EngEntry} (word : Nat)
    (htoken : (inService ((s.updPan p pull).pan p) eng).find? (meetsToken ((s.updPan p pull).pan p)) = some e)
    (hruns : engineRuns ((s.updPan p pull).pan p) = true) :
    exec (.engineTrap p eng true word) s = s.done ((s.updPan p pull).engineTrap p e 9) := by
  change execEngineTrap p eng true word s = _
  simp only [execEngineTrap, htoken, hruns, if_true]

theorem takeWhile_append_cons {α : Type} {f : α → Bool} {before rest : List α} {e : α} (hbefore : ∀ x ∈ before, f x = true)
    (he : f e = false) : (before ++ e :: rest).takeWhile f = before := by
  rw [List.takeWhile_append_of_pos hbefore, List.takeWhile_cons_of_neg (by simp [he]), List.append_nil]

theorem exec_kcfgApply {p : Fin 48} {s : State} {before rest : List EngEntry} {e : EngEntry} {c : KCfg}
    (hq : (s.pan p).kq = before ++ e :: rest) (hbefore : ∀ x ∈ before, ∃ b g ch, x.op = .kload b g ch) (hop : e.op = .kcfg c)
    (hruns : engineRuns (s.pan p) = true) :
    exec (.kcfgApply p) s = s.done (s.updPan p fun x => startKload (if kcfgDiffers (s.pan p).kcfg c
      then { x with kcfg := c, banks := List.replicate 2 {}, kq := rest } else { x with kcfg := c, kq := before ++ rest })) := by
  change execKcfgApply p s = _
  unfold execKcfgApply
  dsimp only
  rw [hq, takeWhile_append_cons ?before ?at_, List.drop_left]
  case before =>
    intro x hx
    obtain ⟨b, g, ch, hx⟩ := hbefore x hx
    rw [hx]
  case at_ => rw [hop]
  dsimp only
  rw [hop]
  dsimp only
  rw [if_neg (by simp [hruns])]
  split <;> rfl

theorem exec_shiftInDone {p : Fin 48} {s : State} {e : EngEntry} {b g : Nat} {ch : Option Nat} {ups : List (Nat × Upset)}
    (hfind : ((s.updPan p pull).pan p).kq.find? (·.started) = some e) (hop : e.op = .kload b g ch)
    (hfed : fed ((s.updPan p pull).pan p) e = true) (hruns : engineRuns ((s.updPan p pull).pan p) = true)
    (hslice : s.sweep.slice = none)
    (hgood : ch = none → ∀ k, k < 128 → columnGood ((s.updPan p pull).pan p) ups e g false
      (operandRowBytes ((s.updPan p pull).pan p).kcfg ((s.updPan p pull).pan p).kcfg.stat)
      (scaleRowBytes ((s.updPan p pull).pan p).kcfg ((s.updPan p pull).pan p).kcfg.stat) k) :
    ∃ x, readOnly ups (s.updPan p pull) x ∧ exec (.shiftInDone p ups) s =
      s.done (x.updPan p (shiftedIn e b (fillBank ((s.updPan p pull).pan p).kcfg ((List.range 128).map
        (column ((s.updPan p pull).pan p) e g ch.isSome
          (operandRowBytes ((s.updPan p pull).pan p).kcfg ((s.updPan p pull).pan p).kcfg.stat)
          (scaleRowBytes ((s.updPan p pull).pan p).kcfg ((s.updPan p pull).pan p).kcfg.stat)))))) := by
  have hcols : ∀ k, k < 128 → columnGood ((s.updPan p pull).pan p) ups e g ch.isSome
      (operandRowBytes ((s.updPan p pull).pan p).kcfg ((s.updPan p pull).pan p).kcfg.stat)
      (scaleRowBytes ((s.updPan p pull).pan p).kcfg ((s.updPan p pull).pan p).kcfg.stat) k := by
    cases ch with
    | none => exact hgood rfl
    | some c =>
      intro k hk
      have hlen : 128 * (operandRowBytes ((s.updPan p pull).pan p).kcfg ((s.updPan p pull).pan p).kcfg.stat +
          scaleRowBytes ((s.updPan p pull).pan p).kcfg ((s.updPan p pull).pan p).kcfg.stat) ≤ e.got.length := by
        simpa [fed, hop, chanNeed] using hfed
      exact (Nat.mul_le_mul_right _ (by omega)).trans hlen
  obtain ⟨x, hro, hrun⟩ := shiftIn_run (u := { pan := p, pc := e.pc, ups := ups }) (e := e) (b := b) (g := g) (ch := ch.isSome)
    (s := s.updPan p pull) hslice hcols
  refine ⟨x, hro, ?_⟩
  change execShiftInDone p ups s = _
  simp only [execShiftInDone, hfind, hfed, if_true]
  rw [served_kload hruns hop (List.find?_some hfind) hrun]

theorem exec_cnoiseComplete {p : Fin 48} {s : State} {c j : Nat} {e : EngEntry} {rest : List EngEntry}
    (hlive : s.liveCtx p = some c) (hq : (s.pan p).cq = e :: rest) (hop : e.op = .cnoise) (hruns : engineRuns (s.pan p) = true)
    (hst : (s.ctx c).st = .settling) (hdone : (s.sliceOf c p).2 ≤ (s.pan p).noiseNext) (hj : j < 44)
    (htick : (s.pan p).noiseStart + noiseTime (s.ctx c).words j = s.cad.toll) :
    exec (.cnoiseComplete p) s = s.done (s.updPan p fun x =>
      countWork { popHead x .crystalliser with noiseDone := true, noiseBuf := [] } 2 (s.sliceRows c p)) := by
  have htick' : s.noiseTick c p = true := by
    simp only [State.noiseTick, List.any_eq_true, List.mem_range, beq_iff_eq]
    exact ⟨j, hj, htick⟩
  change execCnoiseComplete p s = _
  simp only [execCnoiseComplete, hlive, hq, List.head?_cons, hop, hruns, hst, htick', bne_self_eq_false, Bool.not_true,
    Bool.or_false, Nat.not_lt.2 hdone, decide_false, Bool.false_eq_true, if_false]

theorem exec_storeWriteAck_add {p : Fin 48} {s : State} {c : Nat} (hlive : s.liveCtx p = some c)
    (htile : (s.pan p).commit.tile = true) :
    let k := (s.pan p).commit.next + (s.pan p).commit.buf.length / (ringW (s.ctx c) / 8)
    exec (.storeWriteAck p) s = s.done ((s.accWrite c p (s.pan p).commit.next (s.pan p).commit.buf).updPan p fun x =>
      if (s.sliceOf c p).2 ≤ k ∧ x.commit.st = .adding then addDone x x.commit.slot k
      else { x with commit := { x.commit with next := k, tile := false, buf := [] } }) := by
  change execStoreWriteAck p s = _
  simp only [execStoreWriteAck, hlive, htile, if_true]

/-- Words written to an accumulator leave what a Pan holds of an expansion. -/
theorem accWrite_expandBuf (s : State) (c p k : Nat) (bs : Bytes) : ((s.accWrite c p k bs).pan p).expandBuf = (s.pan p).expandBuf := by
  unfold State.accWrite
  dsimp only
  split
  · exact pan_updPan_keeps (P := fun q => q.expandBuf = (s.pan p).expandBuf)
      (f := fun q => panWrite q (s.accPlace c p k).2 bs) (fun _ h => h) p rfl
  · rfl

theorem exec_storeWriteAck_expand {p : Fin 48} {s : State} {c : Nat} (hlive : s.liveCtx p = some c)
    (htile : (s.pan p).commit.tile = false) (hexp : (s.pan p).expandTile = true) :
    exec (.storeWriteAck p) s = s.done ((s.accWrite c p (s.pan p).expandNext (s.pan p).expandBuf).updPan p fun x =>
      { x with expandNext := x.expandNext + (s.pan p).expandBuf.length / (ringW (s.ctx c) / 8), expandTile := false,
               expandBuf := [] }) := by
  change execStoreWriteAck p s = _
  simp only [execStoreWriteAck, hlive, htile, hexp, Bool.false_eq_true, if_false, if_true]
  refine congrArg s.done (updPan_congr ?_)
  rw [accWrite_expandBuf]

/-- Settles O42. -/
theorem engineRowsRun : Obligations.EngineRowsRun := by
  unfold Obligations.EngineRowsRun
  intro p s t q
  refine ⟨fun before e rest c hq hbefore hop hruns => ?kcfg, fun e b g ch ups hfind hop hfed hruns hslice => ?shiftIn,
    fun eng e rest n ups hq hruns => ⟨fun j k x t' hadd hwork hrun hexp hnoise hload => ?rows, fun o hop hrow => ?kout,
      fun a hop hrow hn hslice hups hgood => ?gseed, fun c v hop hrow hn hsync hroom => ?sigt,
      fun c hop hlive hst hchip hn hups hnext hstage hslice hgood => ?cnoise, fun c slot hop hadd => ?caddItem⟩,
    fun eng e word htoken hruns => ?kind, fun eng e rest a word hq hop hrow hruns hslice hlo hhi => ?memory,
    fun c e rest j hlive hq hop hruns hst hdone hj htick => ?noiseEnd, fun c hlive htile => ?addTile,
    fun c hlive htile hexp => ?expandTile⟩
  case kcfg => exact exec_kcfgApply hq hbefore hop hruns
  case shiftIn =>
    intro m sc row scale hgood bank
    have hcols : ch = none → ∀ k, k < 128 → columnGood q ups e g false m sc k := fun h k hk => hgood h k hk
    obtain ⟨x, ⟨hpans, hctxs, -, hnone⟩, hexec⟩ := exec_shiftInDone hfind hop hfed hruns hslice hcols
    refine ⟨x, hpans, hctxs, hnone, hexec.trans ?_⟩
    have hbank : (List.range 128).map (column q e g ch.isSome m sc) = (List.range 128).map fun k =>
        if ch = none then (Memory.readN q.mem (row k) m, if sc = 0 then [] else Memory.readN q.mem (scale k) sc)
        else (slice e.got (k * (m + sc)) m, slice e.got (k * (m + sc) + m) sc) := by
      cases ch <;> rfl
    change s.done (x.updPan p (shiftedIn e b (fillBank q.kcfg ((List.range 128).map (column q e g ch.isSome m sc))))) = _
    rw [hbank]
    rfl
  case rows =>
    rw [exec_engineInstructionComplete hq hload]
    cases x with
    | none =>
      rw [served_rows hruns hadd hexp hnoise hload hwork hrun]
      rfl
    | some x =>
      rw [served_rows_stopped hruns hadd hexp hnoise hload hwork hrun]
      rfl
  case kout => exact exec_koutComplete hq hruns hop hrow
  case gseed => exact exec_gseedComplete hq hruns hop hrow hn hslice hups hgood
  case sigt => exact exec_sigtComplete hq hruns hop hrow hn hsync hroom
  case cnoise =>
    intro w a
    subst hn hups
    exact exec_cnoise hq hruns hop hlive hst hchip hslice hnext hstage hgood
  case caddItem => exact exec_caddItem hq hruns hop hadd
  case kind =>
    have hexec := exec_engineTrap_kind word htoken hruns
    have hp : p < t.pans.length := lt_length_of_engineRuns hruns
    obtain ⟨hst, hpc, -⟩ := engineTrap_trapMarks hp e 9
    exact ⟨hexec, _, hexec, hst, hpc⟩
  case memory => exact exec_gseedTrap hq hruns hop hrow hslice hlo hhi
  case noiseEnd => exact exec_cnoiseComplete hlive hq hop hruns hst hdone hj htick
  case addTile => exact exec_storeWriteAck_add hlive htile
  case expandTile => exact exec_storeWriteAck_expand hlive htile hexp

end Sys2Proof.Machine
end

/-! Store requests (R543 to R546) and the Brine queues (R443 to R452): what a request answers and what a queue holds after it. -/
section
namespace Sys2Proof.Machine

open Sys2Proof

/-! ### The Stores -/

/-- The byte that a write of one byte leaves at its address. -/
theorem storesByte_put_same (t : Stores) (a : Nat) (b : Byte) : storesByte (storesPut t a b) a = b := by
  unfold storesPut
  split
  · rename_i h
    obtain ⟨hb, hz⟩ := Bool.and_eq_true_iff.1 h
    simp only [storesByte, lookupN_eraseN_same, hz, if_true]
    exact (beq_iff_eq.1 hb).symm
  · simp only [storesByte, lookupN_insertN_same]

theorem storesByte_put_other (t : Stores) {a j : Nat} (h : j ≠ a) (b : Byte) : storesByte (storesPut t a b) j = storesByte t j := by
  unfold storesPut
  split
  · simp only [storesByte, lookupN_eraseN_other h]
  · simp only [storesByte, lookupN_insertN_other h]

theorem storesByte_putN_outside (bs : Bytes) (t : Stores) {a j : Nat} (h : j < a ∨ a + bs.length ≤ j) :
    storesByte (storesPutN t a bs) j = storesByte t j := by
  induction bs generalizing t a with
  | nil => rfl
  | cons b bs ih =>
    rw [List.length_cons] at h
    rw [storesPutN, ih _ (by omega), storesByte_put_other t (by omega)]

theorem storesByte_putN_inside (bs : Bytes) (t : Stores) {a j : Nat} (hlo : a ≤ j) (hhi : j < a + bs.length) :
    storesByte (storesPutN t a bs) j = bs.getD (j - a) 0 := by
  induction bs generalizing t a with
  | nil => simp at hhi; omega
  | cons b bs ih =>
    rw [List.length_cons] at hhi
    rw [storesPutN]
    rcases Nat.eq_or_lt_of_le hlo with rfl | hlt
    · rw [storesByte_putN_outside bs _ (by omega), storesByte_put_same]
      simp
    · rw [ih _ hlt (by omega), show j - a = (j - (a + 1)) + 1 by omega, List.getD_cons_succ]

theorem exec_storeAccess {addr len : Nat} {data : Option Bytes} {err : Fin 4} {s t : State}
    (h : s.storeAccess addr data len err = .ok t) :
    exec (.storeAccess addr data len err) s = .next { t with pending := s.pending } := by
  change execStoreAccess addr data len err s = _
  unfold execStoreAccess
  dsimp only
  rw [h]
  rfl

section
variable {s : State} {addr len : Nat} (hlen : 0 < len)
include hlen

theorem storeAccess_busy (data : Option Bytes) (err : Nat) (hscrub : s.stores.scrub = 1) :
    s.storeAccess addr data len err = .ok (s.emit (.store (statusCode .busy) [])) := by
  simp [State.storeAccess, Nat.ne_of_gt hlen, hscrub]

theorem storeAccess_keyless (data : Option Bytes) (err : Nat) (hscrub : s.stores.scrub ≠ 1) (hkey : s.stores.key = .none) :
    s.storeAccess addr data len err = .ok (s.emit (.store (statusCode .refused) [])) := by
  simp [State.storeAccess, Nat.ne_of_gt hlen, hscrub, hkey]

variable (hkey : s.stores.key ≠ .none) (hscrub : s.stores.scrub ≠ 1)
include hkey hscrub

theorem storeAccess_beyond (data : Option Bytes) (err : Nat) (hout : s.storeBytes < addr + len) :
    s.storeAccess addr data len err = .error (.storeAddress addr) := by
  simp [State.storeAccess, Nat.ne_of_gt hlen, hscrub, hkey, hout]

variable (hin : addr + len ≤ s.storeBytes)
include hin

/-- A write of whole data units reads nothing. -/
theorem storeAccess_write (bs : Bytes) (err : Nat) (haddr : addr % 64 = 0) (hunits : len % 64 = 0) :
    s.storeAccess addr (some bs) len err = .ok ((s.storeWrite addr (padTo len bs)).emit (.store (statusCode .ok) [])) := by
  simp [State.storeAccess, Nat.ne_of_gt hlen, hscrub, hkey, Nat.not_lt.2 hin, haddr, hunits]

theorem storeAccess_read
    (hgood : storesCondemned s.stores (addr / 64 * 64) ((addr + len + 63) / 64 * 64 - addr / 64 * 64) = false) :
    s.storeAccess addr none len 0 =
      .ok ((s.count .stoRdbytes 0 len).emit (.store (statusCode .ok) (storesReadN s.stores addr len))) := by
  simp [State.storeAccess, Nat.ne_of_gt hlen, hscrub, hkey, Nat.not_lt.2 hin, hgood]

theorem storeAccess_condemned
    (hbad : storesCondemned s.stores (addr / 64 * 64) ((addr + len + 63) / 64 * 64 - addr / 64 * 64) = true) :
    s.storeAccess addr none len 0 = .ok (s.emit (.store (statusCode .uncorrectable) [])) := by
  simp [State.storeAccess, Nat.ne_of_gt hlen, hscrub, hkey, Nat.not_lt.2 hin, hbad]

theorem storeAccess_fails :
    s.storeAccess addr none len 3 = .ok ((s.condemn addr none).emit (.store (statusCode .uncorrectable) [])) := by
  simp [State.storeAccess, Nat.ne_of_gt hlen, hscrub, hkey, Nat.not_lt.2 hin]

end

/-- Settles O43. -/
theorem storeRequests : Obligations.StoreRequests := by
  unfold Obligations.StoreRequests
  refine ⟨fun addr bs len err s hkey hscrub hin hlen haddr hunits => ?write, fun addr len s hkey hscrub hin hlen => ?read,
    fun addr data len err s hlen => ⟨fun hscrub => ?busy, fun hscrub hkey => ?keyless⟩,
    fun addr data len err s hkey hscrub hlen hout => ?beyond,
    fun t a j bs => ⟨storesByte_putN_inside bs t, storesByte_putN_outside bs t⟩⟩
  case write => exact exec_storeAccess (storeAccess_write hlen hkey hscrub hin bs err haddr hunits)
  case read =>
    exact ⟨fun hgood => exec_storeAccess (storeAccess_read hlen hkey hscrub hin hgood),
      fun hbad => exec_storeAccess (storeAccess_condemned hlen hkey hscrub hin hbad),
      exec_storeAccess (storeAccess_fails hlen hkey hscrub hin)⟩
  case busy => exact exec_storeAccess (storeAccess_busy hlen data err hscrub)
  case keyless => exact exec_storeAccess (storeAccess_keyless hlen data err hscrub hkey)
  case beyond =>
    change execStoreAccess addr data len err s = _
    unfold execStoreAccess
    dsimp only
    rw [storeAccess_beyond hlen hkey hscrub data err hout]

/-! ### Updates of one element -/

theorem getD_updAt_same {α : Type} {l : List α} {i : Nat} (hi : i < l.length) (f : α → α) (d : α) :
    (updAt l i f).getD i d = f (l.getD i d) := by
  simp [updAt_eq_modify, List.getD_eq_getElem?_getD, hi]

theorem getD_updAt_other {α : Type} (l : List α) {i j : Nat} (h : j ≠ i) (f : α → α) (d : α) :
    (updAt l i f).getD j d = l.getD j d := by
  simp [updAt_eq_modify, List.getD_eq_getElem?_getD, h.symm]

@[simp] theorem updAt_length {α : Type} (l : List α) (i : Nat) (f : α → α) : (updAt l i f).length = l.length := by
  simp [updAt_eq_modify]

theorem queue_updQueue_same {s : State} {q : Nat} (hq : q < s.queues.length) (f : BQueue → BQueue) :
    (s.updQueue q f).queue q = f (s.queue q) := getD_updAt_same hq f {}

/-! ### The level of a queue -/

theorem sameButArmed.refl (b : BQueue) : sameButArmed b b := rfl

theorem queue_signalQueue (s : State) (q q' : Nat) : (s.signalQueue q).queue q' = s.queue q' := by
  obtain ⟨fs, o, h⟩ := signalQueue_spec s q
  rw [h]
  rfl

/-- Whether a level is armed or signalled is all that its check changes in the queue. -/
theorem sameButArmed_levelCheck {s : State} {q : Nat} (hq : q < s.queues.length) (lag : Nat) :
    sameButArmed ((s.levelCheck q lag).queue q) (s.queue q) := by
  unfold State.levelCheck
  dsimp only
  split
  · rfl
  · split
    · rw [queue_updQueue_same hq]
      rfl
    · split
      · rw [queue_signalQueue]
        change sameButArmed ((s.updQueue q fun b => { b with armed := false }).queue q) _
        rw [queue_updQueue_same hq]
        rfl
      · rfl

theorem sameButArmed_update {s : State} {q : Nat} (hq : q < s.queues.length) (f : BQueue → BQueue) (lag : Nat) :
    sameButArmed (((s.updQueue q f).levelCheck q lag).queue q) (f (s.queue q)) := by
  rw [← queue_updQueue_same hq f]
  exact sameButArmed_levelCheck (by simpa [State.updQueue] using hq) lag

theorem upsetIf_false (s : State) (q lag : Nat) : s.upsetIf q lag false = s := rfl

/-! ### Producing -/

/-- The item that is stored. -/
def storedItem (s : State) (q typ source status : Nat) (payload : Bytes) (bad : Bool) : QItem :=
  { typ := typ, source := source, seq := (s.queue q).nextSeq, toll := s.itemToll q, status := status,
    payload := padTo 44 payload, badParity := bad }

theorem produce_eq (s : State) (q typ source status : Nat) (payload : Bytes) (bad : Bool) (lag : Nat) :
    ∃ x : State, x.queues = s.queues ∧ s.produce q typ source status payload bad lag =
      (x.updQueue q fun b => queuePush b (queueCap q) (storedItem s q typ source status payload bad)).levelCheck q lag := by
  unfold State.produce
  dsimp only
  split
  · refine ⟨_, ?_, rfl⟩
    rfl
  · exact ⟨s, rfl, rfl⟩

theorem sameButArmed_produce {s : State} {q : Nat} (hq : q < s.queues.length) (typ source status : Nat) (payload : Bytes)
    (bad : Bool) (lag : Nat) :
    sameButArmed ((s.produce q typ source status payload bad lag).queue q)
      (queuePush (s.queue q) (queueCap q) (storedItem s q typ source status payload bad)) := by
  obtain ⟨x, hx, h⟩ := produce_eq s q typ source status payload bad lag
  rw [h, show s.queue q = x.queue q by simp only [State.queue, hx]]
  exact sameButArmed_update (by rwa [hx]) _ lag

theorem padTo_self {n : Nat} {bs : Bytes} (h : bs.length = n) : padTo n bs = bs := by
  subst h
  simp [padTo, slice]

theorem exec_queueItemProduce {q : Fin 7} {s : State} (hopen : s.queuesOpen = true) (item : Bytes) (lag : Nat) :
    exec (.queueItemProduce q item false false lag 0) s =
      s.done (s.produce q (byteAt item 0) (byteAt item 2) (leAt item 16 2) (slice item 20 44) false lag) := by
  have hlate : ((s.queue q).en && decide ((s.queue q).items.length < queueCap q) &&
      decide (queueCap q ≤ (s.queue q).items.length + 0)) = false := by
    by_cases h : (s.queue q).items.length < queueCap q
    · simp [Nat.not_le.2 h]
    · simp [h]
  change execQueueItemProduce q item false false lag 0 s = _
  unfold execQueueItemProduce
  dsimp only
  rw [hopen, hlate]
  rfl

/-! ### The reader -/

section
variable {q : Fin 7} {s : State} {who : Requester} (hopen : s.queuesOpen = true) (hwho : queueReader q who = true)
include hopen hwho

theorem exec_queueItemRead_item {lag : Nat} {it : QItem} (hq : q.val < s.queues.length) (hen : (s.queue q).en = true)
    (hr : (s.queue q).r < (s.queue q).w - lag) (hit : (s.queue q).items[(s.queue q).r - (s.queue q).f]? = some it)
    (hgood : it.badParity = false) :
    ∃ t, exec (.queueItemRead who q lag false) s = .next t ∧
      sameButArmed (t.queue q) { s.queue q with window := itemBytes 0 it, r := (s.queue q).r + 1, lastSeq := it.seq } := by
  have hread : s.queueRead q lag = (s.updQueue q fun b =>
      { b with window := itemBytes 0 it, r := b.r + 1, lastSeq := it.seq }).levelCheck q lag := by
    simp [State.queueRead, hen, hr, hit, hgood, b2n]
  have hexec : exec (.queueItemRead who q lag false) s = s.done (s.queueRead q lag) := by
    change execQueueItemRead who q lag false s = _
    unfold execQueueItemRead
    rw [hopen, hwho]
    rfl
  rw [hexec, hread]
  exact ⟨_, rfl, sameButArmed_update hq _ lag⟩

theorem exec_queueItemRead_idle {lag : Nat} (upset : Bool) (hq : q.val < s.queues.length)
    (hr : (s.queue q).w - lag ≤ (s.queue q).r) :
    ∃ t, exec (.queueItemRead who q lag upset) s = .next t ∧
      t.queue q = { s.queue q with window := idleItem (s.queue q).lastSeq } := by
  have hread : s.queueRead q lag = s.updQueue q fun b => { b with window := idleItem b.lastSeq } := by
    simp [State.queueRead, Nat.not_lt.2 hr]
  have hqueue : (s.queueRead q lag).queue q = { s.queue q with window := idleItem (s.queue q).lastSeq } := by
    rw [hread, queue_updQueue_same hq]
  have hexec : exec (.queueItemRead who q lag upset) s = s.done (s.queueRead q lag) := by
    change execQueueItemRead who q lag upset s = _
    unfold execQueueItemRead
    rw [hopen, hwho]
    dsimp only
    rw [hqueue]
    simp [upsetIf_false]
  exact ⟨_, hexec, hqueue⟩

/-- A consumer operation moves the pointers of its own queue (R448). -/
theorem exec_queueOps (hq : q.val < s.queues.length) (lag : Nat) :
    (∃ t, exec (.queueMark who q false) s = .next t ∧ sameButArmed (t.queue q) (queueMark (s.queue q))) ∧
    (∃ t, exec (.queueRewind who q lag false) s = .next t ∧ sameButArmed (t.queue q) (queueRewind (s.queue q))) ∧
    (∃ t, exec (.queueRelease who q false) s = .next t ∧ sameButArmed (t.queue q) (queueRelease (s.queue q))) ∧
    (∃ t, exec (.queueReset who q lag false) s = .next t ∧ sameButArmed (t.queue q) (queueReset lag (s.queue q))) := by
  have hreads : (s.queuesOpen && queueReader q who) = true := by rw [hopen, hwho]; rfl
  refine ⟨⟨_, congrArg s.done (if_pos hreads), ?_⟩, ⟨_, congrArg s.done (if_pos hreads), ?_⟩,
    ⟨_, congrArg s.done (if_pos hreads), ?_⟩, ⟨_, congrArg s.done (if_pos hreads), ?_⟩⟩
  · exact sameButArmed_update hq queueMark 0
  · exact sameButArmed_update hq queueRewind lag
  · exact sameButArmed_update hq queueRelease 0
  · exact sameButArmed_update hq (queueReset lag) lag

/-- A write of Q_CTL (R449, R452). -/
theorem exec_qCtlWrite {v : Nat} (lag : Nat) (hq : q.val < s.queues.length) (hrsv : bitsOf v 30 17 = 0) (hv : v < 2 ^ 32)
    (hlevel : bitsOf v 15 0 ≤ queueCap q) (htrace : q.val = 6 → s.traceOpen = true) :
    ∃ t, exec (.qCtlWrite who q v lag) s = .next t ∧ (t.queue q).en = bitOf v 31 ∧ (t.queue q).mode = bitsOf v 16 16 ∧
      (t.queue q).level = bitsOf v 15 0 ∧ (t.queue q).items = (s.queue q).items := by
  have hen : (if q.val = 6 ∧ (!s.traceOpen) = true then (s.queue q).en else bitOf v 31) = bitOf v 31 := by
    rw [if_neg]
    rintro ⟨h6, h⟩
    simp [htrace h6] at h
  have hctl : exec (.qCtlWrite who q v lag) s = s.done (s.queueCtl q v lag) := by
    change execQCtlWrite who q v lag s = _
    unfold execQCtlWrite
    rw [hopen, hwho, Nat.mod_eq_of_lt hv]
    rfl
  refine ⟨_, hctl, ?_⟩
  change (State.queue (s.queueCtl q v lag) q).en = _ ∧ (State.queue (s.queueCtl q v lag) q).mode = _ ∧
    (State.queue (s.queueCtl q v lag) q).level = _ ∧ (State.queue (s.queueCtl q v lag) q).items = _
  unfold State.queueCtl
  dsimp only
  rw [if_pos hrsv, if_neg (Nat.not_lt.2 hlevel), hen]
  have hlen (f : BQueue → BQueue) : q.val < (s.updQueue q f).queues.length := by simpa [State.updQueue] using hq
  split
  · rw [queue_signalQueue]
    change ((State.updQueue _ q _).queue q).en = _ ∧ ((State.updQueue _ q _).queue q).mode = _ ∧
      ((State.updQueue _ q _).queue q).level = _ ∧ ((State.updQueue _ q _).queue q).items = _
    rw [queue_updQueue_same (hlen _), queue_updQueue_same hq]
    exact ⟨rfl, rfl, rfl, rfl⟩
  · rw [queue_updQueue_same (hlen _), queue_updQueue_same hq]
    exact ⟨rfl, rfl, rfl, rfl⟩

end

/-- What follows the power in a TELEMETRY item. -/
def telemetryTail (s : State) : Bytes :=
  leBytes 2 (unsigned 16 s.cad.readTj) ++ ([BitVec.ofNat 8 s.cad.vset, BitVec.ofNat 8 s.cad.brake,
    BitVec.ofNat 8 (devCode s.dev.st), 0] ++ (List.range 4).map fun c => BitVec.ofNat 8 (shownState (s.ctx c)))

theorem exec_telemetryTick {s : State} (hopen : s.queuesOpen = true) (hq : 5 < s.queues.length) :
    ∃ t it, exec .telemetryTick s = .next t ∧ sameButArmed (t.queue 5) (queuePush (s.queue 5) 512 it) ∧ it.typ = 0x80 ∧
      leAt it.payload 0 2 = s.cad.readPower % 65536 := by
  have hexec : exec .telemetryTick s = s.done (s.produce 5 0x80 0xFF 0 (leBytes 2 s.cad.readPower ++ telemetryTail s) false 0) := by
    change execTelemetryTick s = _
    unfold execTelemetryTick
    rw [hopen]
    simp only [telemetryTail, List.append_assoc]
    rfl
  refine ⟨_, _, hexec, sameButArmed_produce hq .., rfl, ?_⟩
  change leNat (slice (slice (leBytes 2 s.cad.readPower ++ telemetryTail s) 0 44) 0 2) = _
  have hfront : slice (slice (leBytes 2 s.cad.readPower ++ telemetryTail s) 0 44) 0 2 = leBytes 2 s.cad.readPower := by
    simp [leBytes, slice]
  rw [hfront]
  exact leNat_leBytes 2 _

/-- Settles O44. -/
theorem queueRowsRun : Obligations.QueueRowsRun := by
  unfold Obligations.QueueRowsRun
  refine fun q s hq hopen => ⟨fun item lag => ?produce,
    fun who lag it hwho hen hr hit hgood => exec_queueItemRead_item hopen hwho hq hen hr hit hgood,
    fun who lag upset hwho hr => exec_queueItemRead_idle hopen hwho upset hq hr,
    fun who lag hwho => exec_queueOps hopen hwho hq lag,
    fun who v lag hwho hrsv hv hlevel htrace => exec_qCtlWrite hopen hwho lag hq hrsv hv hlevel htrace,
    fun h5 => exec_telemetryTick hopen h5⟩
  case produce =>
    exact ⟨_, _, exec_queueItemProduce hopen item lag, sameButArmed_produce hq .., rfl, rfl, rfl, rfl, padTo_self (slice_length ..)⟩

end Sys2Proof.Machine
end

/-! The Ringer (R457 to R464): threads, their Stewards, and work items. -/
section
namespace Sys2Proof.Machine

open Sys2Proof

/-! ### The earliest of a list -/

theorem minBy_eq_none {α : Type} {key : α → Nat} {l : List α} (h : minBy key l = none) : l = [] := by
  cases l with
  | nil => rfl
  | cons x xs =>
    unfold minBy at h
    split at h
    · simp at h
    · split at h <;> simp at h

theorem minBy_spec {α : Type} {key : α → Nat} {l : List α} {x : α} (h : minBy key l = some x) :
    x ∈ l ∧ ∀ y ∈ l, key x ≤ key y := by
  induction l generalizing x with
  | nil => simp [minBy] at h
  | cons a r ih =>
    unfold minBy at h
    split at h
    · next hnone =>
      rw [minBy_eq_none hnone]
      obtain rfl : a = x := by simpa using h
      simp
    · next z hz =>
      obtain ⟨hmem, hle⟩ := ih hz
      split at h
      · next hlt =>
        obtain rfl : z = x := by simpa using h
        exact ⟨List.mem_cons_of_mem _ hmem, fun w hw => (List.mem_cons.1 hw).elim (fun h => h ▸ hlt.le) (hle w)⟩
      · next hge =>
        obtain rfl : a = x := by simpa using h
        refine ⟨List.mem_cons_self, fun w hw => (List.mem_cons.1 hw).elim (fun h => h ▸ le_rfl) fun hw => ?_⟩
        exact (Nat.not_lt.1 hge).trans (hle w hw)

/-- The head of a ready list has the earliest deadline (R458). -/
theorem readyHead_spec {s : State} {k u : Nat} (h : readyHead s k = some u) :
    u ∈ readyOf s k ∧ ∀ v ∈ readyOf s k, (s.thread u).deadline ≤ (s.thread v).deadline := by
  unfold readyHead at h
  dsimp only at h
  split at h
  · simp at h
  · next t ht =>
    obtain ⟨hmem, -⟩ := minBy_spec h
    obtain ⟨hready, hdead⟩ := List.mem_filter.1 hmem
    obtain ⟨-, hle⟩ := minBy_spec ht
    rw [beq_iff_eq] at hdead
    exact ⟨hready, fun v hv => hdead ▸ hle v hv⟩

/-! ### Threads and Stewards -/

theorem thread_updThread_same {s : State} {t : Nat} (ht : t < s.ringer.threads.length) (f : Thread → Thread) :
    (s.updThread t f).thread t = f (s.thread t) := getD_updAt_same ht f {}

theorem stew_updStew_same {s : State} {k : Nat} (hk : k < s.ringer.stewards.length) (f : StewardWin → StewardWin) :
    (s.updStew k f).stew k = f (s.stew k) := getD_updAt_same hk f {}

theorem lt_threads_of_ready {s : State} {k u : Nat} (h : u ∈ readyOf s k) : u < s.ringer.threads.length := by
  obtain ⟨-, hst⟩ := List.mem_filter.1 h
  by_contra hu
  rw [State.thread, List.getD_eq_default _ _ (Nat.le_of_not_lt hu)] at hst
  simp at hst

theorem dispatchIrq_thread (s : State) (k t : Nat) : (s.dispatchIrq k).thread t = s.thread t := by
  unfold State.dispatchIrq
  split
  · split <;> rfl
  · rfl

theorem makeReady_thread {s : State} {t : Nat} (ht : t < s.ringer.threads.length) (d : Nat) :
    (s.makeReady t d).thread t = { s.thread t with st := .ready, deadline := d % 2 ^ 64, order := s.ringer.nextOrder } := by
  unfold State.makeReady
  rw [dispatchIrq_thread]
  exact thread_updThread_same ht _

section
variable {s : State} {k t : Nat} (hrun : runningOn s k t = true)
include hrun

theorem rngDelay_due {w : Nat} (hw : w ≤ s.cad.toll) :
    s.rngDelay k t w = ((s.clearCur t).makeReady t (s.thread t).deadline).rngRes k .ok t := by
  unfold State.rngDelay
  rw [if_pos (by simp [hrun])]
  exact if_pos hw

theorem rngDelay_later {w : Nat} (hw : s.cad.toll < w) :
    s.rngDelay k t w =
      ((s.clearCur t).updThread t fun h => { h with st := .delayed, wake := w % 2 ^ 64 }).rngRes k .ok t := by
  unfold State.rngDelay
  rw [if_pos (by simp [hrun])]
  exact if_neg (Nat.not_le.2 hw)

theorem rngSleep_running : s.rngSleep k t = ((s.clearCur t).updThread t fun h => { h with st := .dormant }).rngRes k .ok t := by
  unfold State.rngSleep
  rw [if_neg (by simp [hrun])]

theorem rngWait_running (mask : Nat) : s.rngWait k t mask =
    (((s.clearCur t).updThread t fun h => { h with st := .waiting, mask := mask % 8 }).rngRes k .ok t).wakeWaiters :=
  if_pos hrun

end

theorem rngReady_idle {s : State} {t : Nat} (hst : (s.thread t).st ≠ .running) (k d : Nat) :
    s.rngReady k t d = (s.makeReady t d).rngRes k .ok t := by
  unfold State.rngReady
  split
  · exact absurd ‹_› hst
  · rfl

/-- What DISPATCH leaves before it answers (R459). -/
theorem rngDispatch_spec {s : State} {k u : Nat} (hcur : (s.stew k).cur = none) (hhead : readyHead s k = some u) :
    ∃ y : State, y.ringer.threads = updAt s.ringer.threads u (fun h => { h with st := .running }) ∧
      y.ringer.stewards = updAt (updAt s.ringer.stewards k fun w => { w with irq := false }) k (fun w => { w with cur := some u }) ∧
      s.rngDispatch k = y.rngRes k .ok u := by
  have hhead' : readyHead ((s.updStew k fun w => { w with irq := false }).count .rgrDispatch 0 1) k = some u := hhead
  unfold State.rngDispatch
  rw [hcur]
  dsimp only
  rw [hhead']
  dsimp only
  split
  · exact ⟨_, rfl, rfl, rfl⟩
  · exact ⟨_, rfl, rfl, rfl⟩

theorem exec_ringerDispatch {k : Fin 4} {s : State} {u : Nat} (hopen : s.ringerOpen = true) (hcur : (s.stew k).cur = none)
    (hhead : readyHead s k = some u) (hk : k.val < s.ringer.stewards.length) :
    ∃ x, exec (.ringerDispatch k) s = .next x ∧ (x.thread u).st = .running ∧ (x.stew k).cur = some u ∧
      (x.stew k).resValue = u ∧ (x.stew k).irq = false := by
  obtain ⟨y, hthreads, hstews, hop⟩ := rngDispatch_spec hcur hhead
  have hu := lt_threads_of_ready (readyHead_spec hhead).1
  have hexec : exec (.ringerDispatch k) s = s.done (y.rngRes k .ok u) := by
    rw [← hop]
    exact congrArg s.done (if_pos hopen)
  have hthread : y.thread u = { s.thread u with st := .running } := by
    rw [State.thread, hthreads, getD_updAt_same hu]
    rfl
  have hstew : y.stew k = { s.stew k with irq := false, cur := some u } := by
    rw [State.stew, hstews, getD_updAt_same (by rwa [updAt_length]), getD_updAt_same hk]
    rfl
  refine ⟨_, hexec, ?_⟩
  change (y.thread u).st = _ ∧ ((y.rngRes k .ok u).stew k).cur = _ ∧ ((y.rngRes k .ok u).stew k).resValue = _ ∧
    ((y.rngRes k .ok u).stew k).irq = _
  rw [State.rngRes, stew_updStew_same (by rwa [hstews, updAt_length, updAt_length]), hthread, hstew]
  exact ⟨rfl, rfl, rfl, rfl⟩

/-- The answer of a GET: whatever else the Steward holds, the item's bytes and the result. -/
theorem stew_rngRes_got {y : State} {k : Nat} {b : Bytes} (hk : k < y.ringer.stewards.length) (st : Status) (v : Nat) :
    ((y.updStew k fun w => { w with got := b }).rngRes k st v).stew k =
      { y.stew k with got := b, resStatus := statusCode st, resValue := v } := by
  have hk' : k < (y.updStew k fun w => { w with got := b }).ringer.stewards.length := by
    change k < (updAt _ _ _).length
    rwa [updAt_length]
  rw [State.rngRes, stew_updStew_same hk', stew_updStew_same hk]

theorem exec_ringerGet {k : Fin 4} {s : State} {mask : Nat} {it : WorkItem} (hopen : s.ringerOpen = true)
    (hit : nextItem s.ringer.items (mask % 8) = some it) (hk : k.val < s.ringer.stewards.length) :
    ∃ x, exec (.ringerGet k mask) s = .next x ∧ (x.stew k).got = workBytes it ∧ (x.stew k).resValue = s.ringer.nextHandle ∧
      x.ringer.nextHandle = (s.ringer.nextHandle + 1) % 2 ^ 32 := by
  have hrun : exec (.ringerGet k mask) s = s.done (s.rngGet k mask) := congrArg s.done (if_pos hopen)
  unfold State.rngGet at hrun
  rw [hit] at hrun
  refine ⟨_, hrun, congrArg StewardWin.got (stew_rngRes_got (y := _) hk .ok _), congrArg StewardWin.resValue (stew_rngRes_got (y := _) hk .ok _), rfl⟩

/-! ### Work items -/

theorem rngDone_unknown {s : State} {h : Nat} (hnone : (s.ringer.items.find? fun i => i.handle == some h) = none) (k : Nat) :
    s.rngDone k h = s.rngRes k .refused 0 := by
  simp only [State.rngDone, hnone]

theorem rngDone_known {s : State} {h : Nat} {it : WorkItem} (hit : (s.ringer.items.find? fun i => i.handle == some h) = some it)
    (hcls : it.cls ≠ 1) (k : Nat) :
    s.rngDone k h = ((({ s with ringer := { s.ringer with items := s.ringer.items.filter fun o => o.order != it.order } } :
      State).releaseAll).rngRes k .ok h).wakeWaiters := by
  simp only [State.rngDone, hit, hcls, if_false]

section
variable {s : State} {k : Nat} {item : Bytes} (hcls : bitsOf (leAt item 0 4) 21 20 ≠ 3)
include hcls

theorem stewEnqueue_room (hroom : noPlace s.ringer.items (bitsOf (leAt item 0 4) 21 20) (bitsOf (leAt item 0 4) 19 0) = false) :
    s.stewEnqueue k item = ((s.updStew k fun w => { w with item := padTo 32 item }).putItem (bitsOf (leAt item 0 4) 21 20)
      (bitsOf (leAt item 0 4) 19 0) (bitsOf (leAt item 0 4) 23 22) (bitsOf (leAt item 0 4) 31 24) (slice item 8 24)).rngRes k .ok 0 := by
  have hroom' : noPlace (s.updStew k fun w => { w with item := padTo 32 item }).ringer.items (bitsOf (leAt item 0 4) 21 20)
    (bitsOf (leAt item 0 4) 19 0) = false := hroom
  unfold State.stewEnqueue State.enqueue
  dsimp only
  rw [if_neg hcls, hroom']
  rfl

theorem stewEnqueue_full (hfull : noPlace s.ringer.items (bitsOf (leAt item 0 4) 21 20) (bitsOf (leAt item 0 4) 19 0) = true) :
    s.stewEnqueue k item = ((s.updStew k fun w => { w with item := padTo 32 item }).count .rgrRefuse 0 1).rngRes k .busy 0 := by
  have hfull' : noPlace (s.updStew k fun w => { w with item := padTo 32 item }).ringer.items (bitsOf (leAt item 0 4) 21 20)
    (bitsOf (leAt item 0 4) 19 0) = true := hfull
  unfold State.stewEnqueue State.enqueue
  dsimp only
  rw [if_neg hcls, hfull']
  rfl

end

/-- Settles O46. -/
theorem ringerRowsRun : Obligations.RingerRowsRun := by
  unfold Obligations.RingerRowsRun
  refine fun k t s hopen => ⟨fun d hst => ⟨?ready, fun ht => ?readied⟩, fun w hrun hw => ?due, fun w hrun hw => ?later,
    fun hrun => ?sleep, fun mask hrun => ?wait,
    fun u hcur hhead hk => ⟨(readyHead_spec hhead).2, exec_ringerDispatch hopen hcur hhead hk⟩,
    fun mask it hit hk => exec_ringerGet hopen hit hk, fun h it hit hcls => ?done, fun h hnone => ?unknown,
    fun item hcls => ⟨fun hroom => ?room, fun hfull => ?full⟩, fun hst hwake => ?wakes⟩
  case ready => exact answers (congrArg s.done (if_pos hopen)) (rngReady_idle hst k d)
  case readied =>
    rw [makeReady_thread ht]
    exact ⟨rfl, rfl⟩
  case due => exact answers (congrArg s.done (if_pos hopen)) (rngDelay_due hrun hw)
  case later => exact answers (congrArg s.done (if_pos hopen)) (rngDelay_later hrun hw)
  case sleep => exact answers (congrArg s.done (if_pos hopen)) (rngSleep_running hrun)
  case wait => exact answers (congrArg s.done (if_pos hopen)) (rngWait_running hrun mask)
  case done => exact answersAfter (i := .ringerDone k h) rfl ((if_pos hopen).trans (rngDone_known hit hcls k))
  case unknown => exact answersAfter (i := .ringerDone k h) rfl ((if_pos hopen).trans (rngDone_unknown hnone k))
  case room => exact answers (congrArg s.done (if_pos hopen)) (stewEnqueue_room hcls hroom)
  case full => exact answers (congrArg s.done (if_pos hopen)) (stewEnqueue_full hcls hfull)
  case wakes =>
    exact answers (i := .threadWake t) rfl (if_pos (by simp [hst, hwake]))

end Sys2Proof.Machine
end

/-! Keyhold's own rows (R478 to R497): KEYREG, re-masking, the curve units, the noise source and the DRBG. -/
section
namespace Sys2Proof.Machine

open Sys2Proof

/-! ### The DRBG -/

/-- A DRBG operation touches Keyhold's pool, credit and streams and the reseeds' element, and nothing else of Keyhold. -/
structure drbgOnly (s t : State) : Prop where
  keyreg : t.keyhold.keyreg = s.keyhold.keyreg
  slots : t.keyhold.slots = s.keyhold.slots
  windows : t.keyhold.windows = s.keyhold.windows
  failcnt : t.keyhold.failcnt = s.keyhold.failcnt
  ctxs : t.ctxs = s.ctxs
  pans : t.pans = s.pans

theorem drbgOnly.refl (s : State) : drbgOnly s s := ⟨rfl, rfl, rfl, rfl, rfl, rfl⟩

theorem drbgOnly.trans {s t u : State} (h : drbgOnly s t) (h' : drbgOnly t u) : drbgOnly s u :=
  ⟨h'.keyreg.trans h.keyreg, h'.slots.trans h.slots, h'.windows.trans h.windows, h'.failcnt.trans h.failcnt,
    h'.ctxs.trans h.ctxs, h'.pans.trans h.pans⟩

theorem drbgOnly_updStream (s : State) (n : Nat) (f : DrbgStream → DrbgStream) : drbgOnly s (s.updStream n f) :=
  ⟨rfl, rfl, rfl, rfl, rfl, rfl⟩

theorem drbgOnly_noteWait (s : State) (n : Nat) : drbgOnly s (s.noteWait n) := by
  unfold State.noteWait
  dsimp only
  split
  · exact drbgOnly_updStream _ _ _
  · exact .refl _

theorem drbgOnly_reseedDue (s : State) : drbgOnly s s.reseedDue := by
  unfold State.reseedDue
  split
  · exact .refl _
  · split
    · exact .refl _
    · exact ⟨rfl, rfl, rfl, rfl, rfl, rfl⟩

theorem drbgOnly_instantiateNext (s : State) : drbgOnly s s.instantiateNext := by
  unfold State.instantiateNext
  split
  · exact .refl _
  · split
    · exact .refl _
    · exact ⟨rfl, rfl, rfl, rfl, rfl, rfl⟩

theorem drbgOnly_draw {s t : State} {n k : Nat} {b : Bytes} (h : s.draw n k = some (b, t)) : drbgOnly s t := by
  unfold State.draw at h
  dsimp only at h
  split at h
  · simp at h
  · obtain ⟨-, rfl⟩ := Prod.mk.inj (Option.some.inj h)
    exact (drbgOnly_reseedDue s).trans (drbgOnly_updStream _ _ _)

/-- A stream that is due is one of the device's. -/
theorem lt_streams_of_due {s : State} {n : Nat} (h : s.longestDue = some n) : n < s.keyhold.streams.length := by
  unfold State.longestDue at h
  dsimp only at h
  split at h
  · simp at h
  · obtain ⟨hdue, -⟩ := List.mem_filter.1 (contender_contends h)
    obtain ⟨-, hinst⟩ := List.mem_filter.1 hdue
    by_contra hn
    rw [State.stream, List.getD_eq_default _ _ (Nat.le_of_not_lt hn)] at hinst
    simp [State.isDue] at hinst

/-- A stream after its reseed (R496, R497). -/
def reseeded (e : Bytes) (toll : Nat) (d : DrbgStream) : DrbgStream :=
  let (k, v) := Crypto.drbgReseed d.key d.v e
  let d := { d with key := k, v := v, requests := 0, reseedAt := toll, due := none }
  match d.waitSince with
  | none => d
  | some _ =>
    if d.waitBytes = 0 then { d with waitSince := none, raised := 0 }
    else
    let (out, d) := streamGen toll d.waitBytes d
    { d with out := out, waitSince := none, raised := 0, waitBytes := 0 }

theorem reseeded_spec (e : Bytes) (toll : Nat) (d : DrbgStream) :
    (reseeded e toll d).reseedAt = toll ∧ (reseeded e toll d).waitSince = none := by
  unfold reseeded
  dsimp only
  split
  · next hwait => exact ⟨rfl, hwait⟩
  · split <;> exact ⟨rfl, rfl⟩

theorem reseedDue_of_due {s : State} {n : Nat} (hcredit : 384 ≤ s.keyhold.credit) (hdue : s.longestDue = some n) :
    s.reseedDue = (s.poolRestart.grantStream n).updStream n (reseeded s.poolDigest s.cad.toll) := by
  unfold State.reseedDue
  rw [if_neg (Nat.not_lt.2 hcredit), hdue]
  rfl

/-! ### Noise windows -/

theorem noiseWindow_spec {s : State} (hrun : s.keyRuns = true) (raw : BitVec 1024) :
    (s.noiseWindow raw).keyhold.windows = s.keyhold.windows + 1 ∧
      (s.noiseWindow raw).keyhold.failcnt =
        (if runFails (rawBits raw) ((rawBits raw).headD false) 0 || propFails (rawBits raw)
          then min (s.keyhold.failcnt + 1) (2 ^ 32 - 1) else s.keyhold.failcnt) := by
  have hfirst := drbgOnly_reseedDue s
  unfold State.noiseWindow
  rw [hrun]
  dsimp only
  rw [if_neg (by simp), hfirst.windows, hfirst.failcnt]
  split
  · rw [(drbgOnly_instantiateNext _).windows, (drbgOnly_instantiateNext _).failcnt]
    simp only [satAdd, and_self]
  · rw [(drbgOnly_reseedDue _).windows, (drbgOnly_reseedDue _).failcnt]
    simp only [satAdd, and_self]

/-! ### Re-masking -/

/-- Re-masking a list changes what a mask is put into, one by one, and nothing that `put` leaves. -/
theorem remaskList_spec {α β : Type} {put : α → Bytes → α} (proj : α → β) (hput : ∀ x m, proj (put x m) = proj x) (l : List α) :
    ∀ s : State, ∃ ys t, State.remaskList put l s = (ys, t) ∧ ys.map proj = l.map proj ∧ drbgOnly s t := by
  induction l with
  | nil => exact fun s => ⟨[], s, rfl, rfl, .refl s⟩
  | cons x xs ih =>
    intro s
    unfold State.remaskList
    cases hdraw : s.draw 0 32 with
    | none => exact ⟨_, _, rfl, rfl, drbgOnly_noteWait s 0⟩
    | some mt =>
      obtain ⟨ys, t, hrest, hmap, honly⟩ := ih mt.2
      refine ⟨put x mt.1 :: ys, t, ?_, ?_, (drbgOnly_draw hdraw).trans honly⟩
      · dsimp only
        rw [hrest]
      · rw [List.map_cons, List.map_cons, hput, hmap]

theorem remaskCtxs_only (l : List Ctx) : ∀ s : State, drbgOnly s (State.remaskCtxs l s).2 := by
  induction l with
  | nil => exact fun s => .refl s
  | cons c cs ih =>
    intro s
    unfold State.remaskCtxs
    obtain ⟨slots, t, hslots, -, honly⟩ := remaskList_spec (put := fun (e : SlotCtx) m => { e with mask := m }) SlotCtx.key
      (fun _ _ => rfl) c.slots s
    dsimp only
    rw [hslots]
    exact honly.trans (ih t)

theorem exec_remaskTick {s : State} (hrun : s.keyRuns = true) :
    ∃ t, exec .remaskTick s = .next t ∧ t.keyhold.keyreg.key = s.keyhold.keyreg.key ∧
      t.keyhold.slots.map KeySlot.key = s.keyhold.slots.map KeySlot.key ∧ t.pans.length = s.pans.length ∧
      t.pans.map Pan.mem = s.pans.map Pan.mem := by
  obtain ⟨regs, s₁, h₁, hregs, hs₁⟩ := remaskList_spec (put := fun (r : KeyReg) m => { r with mask := m }) KeyReg.key
    (fun _ _ => rfl) [s.keyhold.keyreg] s
  obtain ⟨slots, s₂, h₂, hslots, hs₂⟩ := remaskList_spec (put := fun (k : KeySlot) m => { k with mask := m }) KeySlot.key
    (fun _ _ => rfl) s₁.keyhold.slots s₁
  have hs₃ := remaskCtxs_only s₂.ctxs s₂
  obtain ⟨pans, s₄, h₄, hpans, hs₄⟩ := remaskList_spec (put := fun (p : Pan) m => { p with grainMask := m }) Pan.mem
    (fun _ _ => rfl) (State.remaskCtxs s₂.ctxs s₂).2.pans (State.remaskCtxs s₂.ctxs s₂).2
  have hmem : pans.map Pan.mem = s.pans.map Pan.mem := by rw [hpans, hs₃.pans, hs₂.pans, hs₁.pans]
  have hkeys : slots.map KeySlot.key = s.keyhold.slots.map KeySlot.key := by rw [hslots, hs₁.slots]
  change ∃ t, execRemaskTick s = .next t ∧ _
  unfold execRemaskTick
  dsimp only
  rw [hrun, if_neg (by simp), h₁]
  dsimp only
  rw [h₂]
  dsimp only
  rw [h₄]
  refine ⟨_, rfl, ?_, hkeys, ?_, hmem⟩
  · obtain ⟨r, rfl⟩ : ∃ r, regs = [r] := List.length_eq_one_iff.1 (by simpa using congrArg List.length hregs)
    exact (List.cons.inj hregs).1
  · simpa using congrArg List.length hmem

/-! ### KEYREG -/

theorem slotKey_putKey_same (s : State) (e i : Nat) (key : Bytes) (lt c : Nat) : (s.putKey e i key lt c).slotKey e i = some key := by
  have hnone : (s.keyhold.slots.filter fun k => !(k.engine == e && k.index == i)).find?
      (fun k => k.engine == e && k.index == i) = none := by
    refine List.find?_eq_none.2 fun k hk hmatch => ?_
    obtain ⟨-, hother⟩ := List.mem_filter.1 hk
    simp [hmatch] at hother
  simp only [State.slotKey, State.putKey, List.find?_append, hnone]
  simp

theorem exec_keyregLoad {s : State} (hrun : s.keyRuns = true) {h : Nat} (hfree : s.keyregFor h = true) (src : KeySource) (attr : KeyAttr) :
    exec (.keyregLoad h src attr) s = s.done (s.keyLoad (h, src, attr)) :=
  show execKeyregLoad h src attr s = _ by simp [execKeyregLoad, hrun, hfree]

theorem exec_keyregDeliver {s : State} (hrun : s.keyRuns = true) {h i : Nat} {e : Fin 8} (hholder : s.keyhold.keyreg.holder = some h)
    (hi : i < slotCount e) (hmay : mayDeliver s.keyhold.keyreg.attr e = true) :
    ∃ t, exec (.keyregDeliver h e i) s = .next t ∧
        t.slotKey e i = some s.keyhold.keyreg.key ∧ (t.keyhold.keyreg.holder = some h) ∧
        bitOf t.keyhold.keyreg.attr.dest e = false ∧
        (s.keyhold.keyreg.attr.lifetime = 0 → t.keyhold.keyreg.key = List.replicate 32 0) := by
  have hi' : ¬ slotCount e ≤ i := Nat.not_le.2 hi
  have hdest : bitOf (setBits s.keyhold.keyreg.attr.dest e e 0) e = false := by
    rw [bitOf_setBits _ _ _ (Nat.le_succ _)]
    simp [bitOf]
  change ∃ t, execKeyregDeliver h e i s = .next t ∧ _
  unfold execKeyregDeliver
  dsimp only
  rw [if_neg (by simp [hrun, hholder, hi']), if_neg (by simp [hmay])]
  refine ⟨_, rfl, slotKey_putKey_same s e i _ _ _, ?_⟩
  split
  · exact ⟨hholder, by simp [wipe, bitOf], fun _ => rfl⟩
  · next hkeep => exact ⟨hholder, hdest, fun hl => absurd (Or.inl hl) hkeep⟩

theorem exec_rngWaitTimeout {s : State} {n : Fin 49} {t : Nat} (hwait : (s.stream n).waitSince = some t)
    (htoll : t + 10000000 * ((s.stream n).raised + 1) ≤ s.cad.toll) :
    ∃ x, exec (.rngWaitTimeout n) s = .next x ∧ (x.stream n).raised = (s.stream n).raised + 1 ∧ (x.stream n).waitSince = some t := by
  have hn : n.val < s.keyhold.streams.length := by
    by_contra hn
    rw [State.stream, List.getD_eq_default _ _ (Nat.le_of_not_lt hn)] at hwait
    simp at hwait
  change ∃ x, execRngWaitTimeout n s = .next x ∧ _
  unfold execRngWaitTimeout
  dsimp only
  rw [hwait]
  dsimp only
  rw [if_neg (Nat.not_lt.2 htoll)]
  generalize hev : s.event 4 0x19 0xFF 0 _ = y
  have hkey : y.keyhold = s.keyhold := hev ▸ (eventsOnly_event s 4 0x19 0xFF 0 _).keyhold
  have hstream : ((y.bump .khdRngwait 0 31 0 1).updStream n fun d => { d with raised := d.raised + 1 }).stream n =
      { s.stream n with raised := (s.stream n).raised + 1 } := by
    have hbump : (y.bump .khdRngwait 0 31 0 1).keyhold = s.keyhold := hkey
    rw [State.stream, State.updStream, hbump]
    exact getD_updAt_same hn _ _
  exact ⟨_, rfl, congrArg DrbgStream.raised hstream, (congrArg DrbgStream.waitSince hstream).trans hwait⟩

/-- Settles O47. -/
theorem keyholdRowsRun : Obligations.KeyholdRowsRun := by
  unfold Obligations.KeyholdRowsRun
  refine fun s hrun => ⟨fun h src attr hfree => ?load, fun h src attr hheld => ?wait,
    fun h e i hholder hi => ⟨fun hmay => ?reject, fun hmay => exec_keyregDeliver hrun hholder hi hmay⟩,
    fun h a hholder => ⟨fun hn => ?widened, fun hn => ?narrowed, ?release⟩, exec_remaskTick hrun,
    fun r u hfree => ?starts, fun r hfree => ?waits, fun u r hunit => ?complete,
    fun raw => ⟨rfl, noiseWindow_spec hrun raw⟩, fun n k => ?generate, fun n hcredit hdue => ⟨rfl, ?reseed⟩, fun n t hwait htoll => ?timeout⟩
  case load =>
    refine answers (exec_keyregLoad hrun hfree src attr) ?_
    unfold State.keyLoad
    dsimp only
    cases s.keySource src with
    | none => rfl
    | some kt => rfl
  case wait =>
    exact answers (i := .keyregLoad h src attr) (s := s) (t := s.keyQueue (h, src, attr))
      (show execKeyregLoad h src attr s = s.done (s.keyQueue (h, src, attr)) by simp [execKeyregLoad, hrun, hheld]) rfl
  case reject =>
    have hi' : ¬ slotCount e ≤ i := Nat.not_le.2 hi
    exact answers (show execKeyregDeliver h e i s = _ by simp only [execKeyregDeliver]; rw [if_neg (by simp [hrun, hholder, hi']), if_pos (by simp [hmay])]) rfl
  case widened =>
    exact answers (show execKeyregAttrChange h a s = s.done s.keyregReject by simp [execKeyregAttrChange, hrun, hholder, hn]) rfl
  case narrowed =>
    change execKeyregAttrChange h a s = _
    unfold execKeyregAttrChange
    dsimp only
    rw [if_neg (by simp [hrun, hholder]), if_neg (by simp [hn])]
    rfl
  case release =>
    exact answers (i := .keyregRelease h) rfl (if_pos (by simp [hholder]))
  case starts =>
    change execCurveRequest r s = _
    unfold execCurveRequest
    rw [if_neg (by simp [hrun]), hfree]
    rfl
  case waits =>
    change execCurveRequest r s = _
    unfold execCurveRequest
    rw [if_neg (by simp [hrun]), hfree]
    rfl
  case complete =>
    change execCurveOpComplete u s = _
    unfold execCurveOpComplete
    dsimp only
    rw [hunit]
    dsimp only
    cases s.curveRun r with
    | none => rfl
    | some et => rfl
  case generate =>
    change execDrbgGenerate n k s = _
    unfold execDrbgGenerate
    dsimp only
    cases s.draw n (min k 65536) with
    | none => rfl
    | some out => rfl
  case reseed =>
    have hn := lt_streams_of_due hdue
    have hstream : s.reseedDue.stream n = reseeded s.poolDigest s.cad.toll (s.stream n) := by
      rw [reseedDue_of_due hcredit hdue]
      exact getD_updAt_same hn _ _
    rw [hstream]
    refine ⟨?_, ?_, reseeded_spec _ _ _⟩ <;> rw [reseedDue_of_due hcredit hdue] <;> rfl
  case timeout => exact exec_rngWaitTimeout hwait htoll

end Sys2Proof.Machine
end

/-! The mailbox (R595, R600, R603): commands that no check refuses. -/
section
namespace Sys2Proof.Machine

open Sys2Proof

section
variable {t : State} {pf : Nat} {c : HostCmd}

/-- No check that precedes a command's own chapter refuses it. -/
structure passes (t : State) (pf : Nat) (c : HostCmd) : Prop where
  state : t.stateRefusal (cmdCode c) = none
  args : argsFail pf c = none
  master : (!(rangesOf c).isEmpty && !(t.fn pf).bme) = false
  ranges : ((rangesOf c).any fun r => rangeWraps r.1 r.2) = false

theorem serveCmd_of_passes (h : passes t pf c) (hgate : t.ownGate pf c = none) (himg : cmdCode c ≠ 1 ∧ cmdCode c ≠ 2) (d : Dma) :
    t.serveCmd pf c d = (if cmdCode c = 0x03 then t.takeSnap pf else t).fetchData pf c d := by
  obtain ⟨hstate, hargs, hmaster, hranges⟩ := h
  unfold State.serveCmd
  dsimp only
  rw [hstate, hargs, hmaster, hranges]
  simp only [Option.or_none, Bool.false_eq_true, if_false]
  split
  · exact absurd rfl himg.1
  · exact absurd rfl himg.2
  · rw [hgate]

theorem beginLoad_goes {len : Nat} {k : Option Nat} (hgate : t.imgGate k = none) (hlen : len ≤ 2 ^ 29) :
    t.beginLoad pf len k = ((t.beginLoad pf len k).1, true) := by
  unfold State.beginLoad
  rw [hgate]
  dsimp only
  rw [if_neg (Nat.not_lt.2 hlen)]

theorem serveCmd_imageLoad {a l : Nat} (h : passes t pf (.imageLoad a l)) (hgate : t.imgGate none = none) (hlen : l ≤ 2 ^ 29) (b : Bytes) :
    t.serveCmd pf (.imageLoad a l) (.data b) = (t.beginLoad pf l none).1.dataCome pf b := by
  obtain ⟨hstate, hargs, hmaster, hranges⟩ := h
  unfold State.serveCmd
  dsimp only
  rw [hstate, hargs, hmaster, hranges, beginLoad_goes hgate hlen]
  rfl

theorem serveCmd_imagePartial {a l k : Nat} (h : passes t pf (.imagePartial a l k)) (hgate : t.imgGate (some k) = none) (hlen : l ≤ 2 ^ 29)
    (b : Bytes) : t.serveCmd pf (.imagePartial a l k) (.data b) = (t.beginLoad pf l (some k)).1.dataCome pf b := by
  obtain ⟨hstate, hargs, hmaster, hranges⟩ := h
  unfold State.serveCmd
  dsimp only
  rw [hstate, hargs, hmaster, hranges, beginLoad_goes hgate hlen]
  rfl

end

section
variable {s : State} {pf : Nat} {c : HostCmd} (h : s.serves pf c = true)
include h

theorem passes_of_serves : passes (s.taken pf c) pf c ∧ (s.taken pf c).ownGate pf c = none := by
  simp only [State.serves, Bool.and_eq_true, Option.isNone_iff_eq_none, Bool.not_eq_true', Bool.or_eq_true] at h
  obtain ⟨⟨⟨⟨⟨-, hstate⟩, hargs⟩, hmaster⟩, hranges⟩, hgate⟩ := h
  refine ⟨⟨hstate, hargs, ?_, hranges⟩, hgate⟩
  cases hmaster with
  | inl hempty => simp [hempty]
  | inr hbme => simp [hbme]

theorem present_of_serves (d : Dma) : s.present pf c d = ((s.taken pf c).serveCmd pf c d).pump := by
  simp only [State.serves, Bool.and_eq_true] at h
  obtain ⟨⟨⟨⟨⟨⟨hreach, hidle⟩, -⟩, -⟩, -⟩, -⟩, -⟩ := h
  simp [State.present, hreach, hidle]

/-- A command that reads nothing from the host runs at once. -/
theorem present_plain (hread : readOf c = none) (hcode : cmdCode c ≠ 1 ∧ cmdCode c ≠ 2 ∧ cmdCode c ≠ 3) :
    s.present pf c .pending = ((s.taken pf c).runCmd pf c []).pump := by
  obtain ⟨hpass, hgate⟩ := passes_of_serves h
  obtain ⟨hload, hpart, hattest⟩ := hcode
  rw [present_of_serves h, serveCmd_of_passes hpass hgate ⟨hload, hpart⟩, if_neg hattest, State.fetchData, hread]

/-- A command that reads the host runs with its data. -/
theorem present_data {a l : Nat} (hread : readOf c = some (a, l)) (hcode : cmdCode c ≠ 1 ∧ cmdCode c ≠ 2) (b : Bytes) :
    s.present pf c (.data b) = ((if cmdCode c = 0x03 then (s.taken pf c).takeSnap pf else s.taken pf c).dataCome pf b).pump := by
  obtain ⟨hpass, hgate⟩ := passes_of_serves h
  rw [present_of_serves h, serveCmd_of_passes hpass hgate hcode, State.fetchData, hread]

end

/-- Settles O48. -/
theorem mailboxCommandsRun : Obligations.MailboxCommandsRun := by
  unfold Obligations.MailboxCommandsRun
  refine ⟨fun pf i c s hserves hrow => ?plain, fun pf i c b s a l hserves hrow => ?data, fun pf a l b s hserves hgate hlen => ?image,
    fun pf a l k b s hserves hgate hlen => ?part⟩
  case plain =>
    have hcmd : exec i s = s.done (s.present pf c .pending).after ∧ readOf c = none ∧ cmdCode c ≠ 1 ∧ cmdCode c ≠ 2 ∧ cmdCode c ≠ 3 := by
      simp only [List.mem_cons, Prod.mk.injEq, List.not_mem_nil, or_false] at hrow
      obtain ((⟨rfl, rfl⟩ | ⟨rfl, rfl⟩ | ⟨rfl, rfl⟩ | ⟨rfl, rfl⟩ | ⟨rfl, rfl⟩ | ⟨rfl, rfl⟩ | ⟨rfl, rfl⟩ | ⟨rfl, rfl⟩) | ⟨m, rfl, rfl⟩ |
        ⟨r, rl, k, kl, rfl, rfl⟩) := hrow <;> exact ⟨rfl, rfl, by simp [cmdCode]⟩
    obtain ⟨hexec, hread, hcode⟩ := hcmd
    exact answersAfter hexec (present_plain hserves hread hcode)
  case data =>
    have hcmd : exec i s = s.done (s.present pf c (.data b)).after ∧ (∃ r, readOf c = some r) ∧ cmdCode c ≠ 1 ∧ cmdCode c ≠ 2 := by
      simp only [List.mem_cons, Prod.mk.injEq, List.not_mem_nil, or_false] at hrow
      obtain ((⟨rfl, rfl⟩ | ⟨rfl, rfl⟩ | ⟨rfl, rfl⟩ | ⟨rfl, rfl⟩ | ⟨rfl, rfl⟩) | ⟨o, ol, rfl, rfl⟩ | ⟨n, r, f, rfl, rfl⟩ |
        ⟨n, r, rfl, rfl⟩) := hrow <;> exact ⟨rfl, ⟨_, rfl⟩, by simp [cmdCode]⟩
    obtain ⟨hexec, ⟨_, hread⟩, hcode⟩ := hcmd
    exact answersAfter hexec (present_data hserves hread hcode b)
  case image =>
    obtain ⟨hpass, -⟩ := passes_of_serves hserves
    exact answersAfter (i := .imageLoad pf a l (.data b)) rfl
      ((present_of_serves hserves _).trans (congrArg State.pump (serveCmd_imageLoad hpass hgate hlen b)))
  case part =>
    obtain ⟨hpass, -⟩ := passes_of_serves hserves
    exact answersAfter (i := .imagePartial pf a l k (.data b)) rfl
      ((present_of_serves hserves _).trans (congrArg State.pump (serveCmd_imagePartial hpass hgate hlen b)))

end Sys2Proof.Machine
end

/-! What the end of a harvest, a message to the Quad and a completion leave alone: the device's state but for RUNNING and
TENANTED-IDLE, how many functions, queues and contexts there are, and the formed state. -/
section
namespace Sys2Proof.Machine

open Sys2Proof

/-- `t` is `s` after operations of a harvest: the device changes between TENANTED-IDLE and RUNNING alone, and the formed state
stands. -/
structure calm (s t : State) : Prop where
  dev : s.dev.st ≠ .tenantedIdle → s.dev.st ≠ .running → t.dev = s.dev
  selfRefresh : t.stores.selfRefresh = s.stores.selfRefresh
  fnCount : t.fns.length = s.fns.length
  queueCount : t.queues.length = s.queues.length
  ctxCount : t.ctxs.length = s.ctxs.length
  formed : t.car.formed = s.car.formed
  members : t.car.members = s.car.members
  forming : t.car.forming = s.car.forming

/-- A calm change that leaves the contexts, the debug scopes and the last HARVEST_ID too. -/
structure steady (s t : State) : Prop extends calm s t where
  ctxs : t.ctxs = s.ctxs
  dbg : t.dbg = s.dbg
  lastHid : t.lastHid = s.lastHid

theorem calm.refl (s : State) : calm s s := ⟨fun _ _ => rfl, rfl, rfl, rfl, rfl, rfl, rfl, rfl⟩

theorem calm.trans {s t u : State} (h : calm s t) (h' : calm t u) : calm s u where
  dev hidle hrun := by
    have hdev := h.dev hidle hrun
    exact (h'.dev (hdev ▸ hidle) (hdev ▸ hrun)).trans hdev
  selfRefresh := h'.selfRefresh.trans h.selfRefresh
  fnCount := h'.fnCount.trans h.fnCount
  queueCount := h'.queueCount.trans h.queueCount
  ctxCount := h'.ctxCount.trans h.ctxCount
  formed := h'.formed.trans h.formed
  members := h'.members.trans h.members
  forming := h'.forming.trans h.forming

theorem steady.refl (s : State) : steady s s := ⟨.refl s, rfl, rfl, rfl⟩

theorem steady.trans {s t u : State} (h : steady s t) (h' : steady t u) : steady s u :=
  ⟨h.tocalm.trans h'.tocalm, h'.ctxs.trans h.ctxs, h'.dbg.trans h.dbg, h'.lastHid.trans h.lastHid⟩

theorem steady.ctx {s t : State} (h : steady s t) (c : Nat) : t.ctx c = s.ctx c := congrArg (·.getD c {}) h.ctxs

/-- A change of other fields is steady. -/
theorem steady_of_same {s t : State} (hdev : t.dev = s.dev) (hself : t.stores.selfRefresh = s.stores.selfRefresh)
    (hfns : t.fns.length = s.fns.length) (hqueues : t.queues.length = s.queues.length) (hctxs : t.ctxs = s.ctxs) (hdbg : t.dbg = s.dbg)
    (hrest : t.car.formed = s.car.formed ∧ t.car.members = s.car.members ∧ t.car.forming = s.car.forming ∧ t.lastHid = s.lastHid) :
    steady s t := by
  obtain ⟨hformed, hmembers, hforming, hhid⟩ := hrest
  exact ⟨⟨fun _ _ => hdev, hself, hfns, hqueues, congrArg List.length hctxs, hformed, hmembers, hforming⟩, hctxs, hdbg, hhid⟩

theorem steady_foldl {α : Type} {f : State → α → State} (hf : ∀ s a, steady s (f s a)) (l : List α) (s : State) :
    steady s (l.foldl f s) :=
  List.foldlRecOn l f (motive := fun t => steady s t) (.refl s) fun t ht a _ => ht.trans (hf t a)

theorem calm_foldl {α : Type} {f : State → α → State} (hf : ∀ s a, calm s (f s a)) (l : List α) (s : State) :
    calm s (l.foldl f s) :=
  List.foldlRecOn l f (motive := fun t => calm s t) (.refl s) fun t ht a _ => ht.trans (hf t a)

/-! ### Items, events and completions -/

theorem steady_updQueue (s : State) (q : Nat) (f : BQueue → BQueue) : steady s (s.updQueue q f) :=
  steady_of_same rfl rfl rfl (updAt_length ..) rfl rfl ⟨rfl, rfl, rfl, rfl⟩

theorem steady_updFn (s : State) (n : Nat) (f : Fn → Fn) : steady s (s.updFn n f) :=
  steady_of_same rfl rfl (updAt_length ..) rfl rfl rfl ⟨rfl, rfl, rfl, rfl⟩

theorem steady_updPan (s : State) (p : Nat) (f : Pan → Pan) : steady s (s.updPan p f) :=
  steady_of_same rfl rfl rfl rfl rfl rfl ⟨rfl, rfl, rfl, rfl⟩

theorem steady_emit (s : State) (o : Out) : steady s (s.emit o) := steady_of_same rfl rfl rfl rfl rfl rfl ⟨rfl, rfl, rfl, rfl⟩

theorem steady_count (s : State) (r : Reg) (i n : Nat) : steady s (s.count r i n) :=
  steady_of_same rfl rfl rfl rfl rfl rfl ⟨rfl, rfl, rfl, rfl⟩

theorem steady_bump (s : State) (r : Reg) (i hi lo n : Nat) : steady s (s.bump r i hi lo n) :=
  steady_of_same rfl rfl rfl rfl rfl rfl ⟨rfl, rfl, rfl, rfl⟩

theorem steady_setBit (s : State) (r : Reg) (i b : Nat) : steady s (s.setBit r i b) :=
  steady_of_same rfl rfl rfl rfl rfl rfl ⟨rfl, rfl, rfl, rfl⟩

theorem steady_signal (s : State) (n v : Nat) : steady s (s.signal n v) := by
  unfold State.signal
  split
  · exact .refl s
  · split
    · exact steady_updFn ..
    · exact steady_emit ..

theorem steady_signalQueue (s : State) (q : Nat) : steady s (s.signalQueue q) := by
  unfold State.signalQueue
  split
  · exact steady_signal ..
  · split
    · exact steady_signal ..
    · split
      · exact steady_signal ..
      · exact steady_emit ..

theorem steady_levelCheck (s : State) (q lag : Nat) : steady s (s.levelCheck q lag) := by
  unfold State.levelCheck
  dsimp only
  split
  · exact .refl s
  · split
    · exact steady_updQueue ..
    · split
      · exact ((steady_updQueue ..).trans (steady_setBit ..)).trans (steady_signalQueue ..)
      · exact .refl s

theorem steady_produce (s : State) (q typ source status : Nat) (payload : Bytes) (bad : Bool) (lag : Nat) :
    steady s (s.produce q typ source status payload bad lag) := by
  unfold State.produce
  dsimp only
  refine .trans ?_ ((steady_updQueue ..).trans (steady_levelCheck ..))
  split
  · exact steady_of_same rfl rfl rfl rfl rfl rfl ⟨rfl, rfl, rfl, rfl⟩
  · exact .refl s

theorem steady_event (s : State) (q typ source status : Nat) (payload : Bytes) : steady s (s.event q typ source status payload) := by
  unfold State.event
  split
  · exact .refl s
  · dsimp only
    refine (steady_produce s q typ source status payload false 0).trans ?_
    split
    · refine (steady_produce _ 5 typ source status payload false 0).trans ?_
      split
      · exact steady_of_same rfl rfl rfl rfl rfl rfl ⟨rfl, rfl, rfl, rfl⟩
      · exact .refl _
    · exact .refl _

theorem steady_cmdDone (s : State) (pf seq code status : Nat) (result : Bytes) : steady s (s.cmdDone pf seq code status result) := by
  unfold State.cmdDone
  dsimp only
  split
  · exact (steady_emit ..).trans (steady_event ..)
  · exact steady_event ..

theorem steady_complete (s : State) (pf seq code : Nat) (status : Status) (result : Bytes) :
    steady s (s.complete pf seq code status result) := (steady_updFn ..).trans (steady_cmdDone ..)

theorem steady_finish (s : State) (pf : Nat) (status : Status) (result : Bytes) : steady s (s.finish pf status result) := by
  unfold State.finish
  split
  · exact .refl s
  · exact (steady_updFn ..).trans (steady_complete ..)

theorem steady_finishParked (s : State) (pf code : Nat) (status : Status) (result : Bytes) :
    steady s (s.finishParked pf code status result) :=
  (steady_updFn ..).trans (steady_foldl (fun _ _ => steady_complete ..) _ _)

theorem steady_finishSettle (s : State) (c : Nat) (status : Status) : steady s (s.finishSettle c status) := steady_finishParked ..

theorem steady_errorEvent (s : State) (c : Option Nat) (status unit cause index arg0 arg1 : Nat) :
    steady s (s.errorEvent c status unit cause index arg0 arg1) := by
  cases c <;> exact steady_event ..

theorem steady_fault (s : State) (cls unit index status : Nat) (voided : Option Nat) (loc arg : Nat) :
    steady s (s.fault cls unit index status voided loc arg) := by
  have hraw : steady s (s.faultRaw cls unit index status voided loc arg) := steady_of_same rfl rfl rfl rfl rfl rfl ⟨rfl, rfl, rfl, rfl⟩
  unfold State.fault
  dsimp only
  split
  · exact hraw
  · exact hraw.trans (steady_errorEvent ..)

/-! ### Messages to the Quad -/

theorem steady_updLink (s : State) (k : Nat) (f : CarLink → CarLink) : steady s (s.updLink k f) :=
  steady_of_same rfl rfl rfl rfl rfl rfl ⟨rfl, rfl, rfl, rfl⟩

theorem steady_launchFlit (s : State) (k kind seq : Nat) (payload : Bytes) : steady s (s.launchFlit k kind seq payload) :=
  (steady_emit ..).trans (steady_updLink ..)

theorem steady_sendFlit (s : State) (k kind : Nat) (payload : Bytes) : steady s (s.sendFlit k kind payload) := by
  unfold State.sendFlit
  dsimp only
  split
  · split
    · exact (steady_updLink ..).trans (steady_updLink ..)
    · exact (steady_updLink ..).trans (steady_launchFlit ..)
  · exact steady_emit ..

theorem steady_batchCount (s : State) (k : Nat) : steady s (s.batchCount k) := by
  unfold State.batchCount
  split
  · exact (steady_updLink ..).trans (steady_sendFlit ..)
  · exact steady_updLink ..

theorem steady_sendBytes (s : State) (k : Nat) (rec : Bytes) : steady s (s.sendBytes k rec) :=
  ((steady_foldl (fun _ _ => steady_sendFlit ..) _ _).trans (steady_count ..)).trans (steady_batchCount ..)

theorem steady_updJob (s : State) (f : Job → Job) : steady s (s.updJob f) := steady_of_same rfl rfl rfl rfl rfl rfl ⟨rfl, rfl, rfl, rfl⟩

theorem steady_sendSealedBy (s : State) (path : Option Nat) (typ dst tag : Nat) (body : Bytes) :
    steady s (s.sendSealedBy path typ dst tag body) := by
  unfold State.sendSealedBy
  split
  · dsimp only
    split
    · exact steady_updJob ..
    · exact ((steady_updJob ..).trans (steady_emit ..)).trans (steady_sendBytes ..)
  · exact .refl s

theorem steady_ctl (s : State) (dst : Nat) (c : Ctl) (body : Bytes) : steady s (s.ctl dst c body) := by
  have hsend : steady s (s.ctlSend (s.pathTo dst) dst (ctlCode c) body) := steady_foldl (fun _ _ => steady_sendSealedBy ..) _ _
  unfold State.ctl
  dsimp only
  split
  · exact hsend.trans (steady_of_same rfl rfl rfl rfl rfl rfl ⟨rfl, rfl, rfl, rfl⟩)
  · exact hsend

theorem steady_ctlAll (s : State) (c : Ctl) (body : Bytes) : steady s (s.ctlAll c body) := steady_foldl (fun _ _ => steady_ctl ..) _ _

/-! ### Accumulators, Pans and keys -/

theorem steady_clearSaved (s : State) (p a n : Nat) : steady s (s.clearSaved p a n) := by
  unfold State.clearSaved
  split
  · exact .refl s
  · dsimp only
    split
    · split
      · exact steady_of_same rfl rfl rfl rfl rfl rfl ⟨rfl, rfl, rfl, rfl⟩
      · exact .refl s
    · exact .refl s

theorem steady_storeZero (s : State) (a n : Nat) : steady s (s.storeZero a n) := by
  unfold State.storeZero
  split
  · exact .refl s
  · exact steady_of_same rfl rfl rfl rfl rfl rfl ⟨rfl, rfl, rfl, rfl⟩

theorem steady_accZero (s : State) (c : Nat) : steady s (s.accZero c) := by
  unfold State.accZero
  dsimp only
  split
  · exact steady_foldl (fun _ _ => (steady_updPan ..).trans (steady_clearSaved ..)) _ _
  · exact steady_storeZero ..

theorem steady_updPansOf (s : State) (c : Nat) (f : Pan → Pan) : steady s (s.updPansOf c f) :=
  steady_foldl (fun _ _ => steady_updPan ..) _ _

theorem steady_returnPans (s : State) (c : Nat) : steady s (s.returnPans c) := by
  unfold State.returnPans
  split
  · exact .refl s
  · refine steady_foldl (fun t p => ?_) _ _
    split
    · exact .refl t
    · exact steady_updPan ..

theorem steady_updStream (s : State) (n : Nat) (f : DrbgStream → DrbgStream) : steady s (s.updStream n f) :=
  steady_of_same rfl rfl rfl rfl rfl rfl ⟨rfl, rfl, rfl, rfl⟩

theorem steady_noteWait (s : State) (n : Nat) : steady s (s.noteWait n) := by
  unfold State.noteWait
  dsimp only
  split
  · exact steady_updStream ..
  · exact .refl s

theorem steady_reseedDue (s : State) : steady s s.reseedDue := by
  unfold State.reseedDue
  split
  · exact .refl s
  · split
    · exact .refl s
    · exact steady_of_same rfl rfl rfl rfl rfl rfl ⟨rfl, rfl, rfl, rfl⟩

theorem steady_draw {s t : State} {n k : Nat} {b : Bytes} (h : s.draw n k = some (b, t)) : steady s t := by
  unfold State.draw at h
  dsimp only at h
  split at h
  · cases h
  · cases h
    exact (steady_reseedDue s).trans (steady_updStream ..)

theorem steady_drawScalar {s t : State} {c : Crypto.Curve} {k : Nat} (h : s.drawScalar c = some (k, t)) : steady s t := by
  obtain ⟨⟨b, u⟩, hdraw, heq⟩ := Option.map_eq_some_iff.1 h
  cases heq
  exact steady_draw hdraw

theorem steady_ecSign {s t : State} {c : Crypto.Curve} {d : Nat} {msg sig : Bytes} (h : s.ecSign c d msg = some (sig, t)) :
    steady s t := by
  unfold State.ecSign at h
  split at h
  · cases h
  next k u hfirst =>
    split at h
    · cases h
      exact steady_drawScalar hfirst
    · split at h
      · cases h
      next k' v hsecond =>
        obtain ⟨sig', -, heq⟩ := Option.map_eq_some_iff.1 h
        cases heq
        exact (steady_drawScalar hfirst).trans (steady_drawScalar hsecond)

theorem steady_signAlias {s t : State} {msg sig : Bytes} (h : s.signAlias msg = some (sig, t)) : steady s t := by
  unfold State.signAlias at h
  split at h
  · cases h
  · obtain ⟨⟨sig', v⟩, hsign, heq⟩ := Option.map_eq_some_iff.1 h
    cases heq
    exact (steady_ecSign hsign).trans (steady_count ..)

theorem steady_signCose {s t : State} {payload cert : Bytes} (h : s.signCose payload = some (cert, t)) : steady s t := by
  obtain ⟨⟨sig, u⟩, halias, heq⟩ := Option.map_eq_some_iff.1 h
  cases heq
  exact steady_signAlias halias

theorem steady_dropKeys (s : State) (p : KeySlot → Bool) : steady s (s.dropKeys p) :=
  steady_of_same rfl rfl rfl rfl rfl rfl ⟨rfl, rfl, rfl, rfl⟩

theorem steady_endHarvestKeys (s : State) (c : Nat) : steady s (s.endHarvestKeys c) := by
  unfold State.endHarvestKeys
  dsimp only
  split
  · exact steady_of_same rfl rfl rfl rfl rfl rfl ⟨rfl, rfl, rfl, rfl⟩
  · exact steady_dropKeys ..

theorem steady_endJob (s : State) (c : Nat) : steady s (s.endJob c) := by
  unfold State.endJob
  split
  · dsimp only
    split
    · exact steady_of_same rfl rfl rfl rfl rfl rfl ⟨rfl, rfl, rfl, rfl⟩
    · exact .refl s
  · exact .refl s

theorem steady_settleDev (s : State) : steady s s.settleDev := by
  have hdev {st : DevState} (h : s.dev.st = .tenantedIdle ∨ s.dev.st = .running) :
      steady s { s with dev := { s.dev with st := st } } :=
    ⟨⟨fun hidle hrun => (h.elim hidle hrun).elim, rfl, rfl, rfl, rfl, rfl, rfl, rfl⟩, rfl, rfl, rfl⟩
  unfold State.settleDev
  dsimp only
  split
  next hidle =>
    split
    · exact hdev (.inl hidle)
    · exact .refl s
  next hrun =>
    split
    · exact .refl s
    · exact hdev (.inr hrun)
  next => exact .refl s

/-! ### States of a context, and the end of a harvest -/

theorem calm_updCtx (s : State) (c : Nat) (f : Ctx → Ctx) : calm s (s.updCtx c f) :=
  ⟨fun _ _ => rfl, rfl, rfl, rfl, updAt_length .., rfl, rfl, rfl⟩

/-- Beyond the context's own fields, entering a state is steady. -/
theorem steady_enterState (s : State) (c : Nat) (new : CtxState) (status : Status) :
    steady (s.updCtx c fun x => { x with st := new, hold := statusCode status }) (s.enterState c new status) := by
  unfold State.enterState
  exact (steady_event ..).trans (steady_settleDev _)

theorem calm_enterState (s : State) (c : Nat) (new : CtxState) (status : Status) : calm s (s.enterState c new status) :=
  (calm_updCtx ..).trans (steady_enterState ..).tocalm

theorem ctx_updCtx_same {s : State} {c : Nat} (hc : c < s.ctxs.length) (f : Ctx → Ctx) : (s.updCtx c f).ctx c = f (s.ctx c) :=
  getD_updAt_same hc f {}

/-- A context that enters a state differs in that state and the status it holds alone. -/
theorem ctx_enterState {s : State} {c : Nat} (hc : c < s.ctxs.length) (new : CtxState) (status : Status) :
    (s.enterState c new status).ctx c = { s.ctx c with st := new, hold := statusCode status } :=
  ((steady_enterState s c new status).ctx c).trans (ctx_updCtx_same hc _)

/-- The fields of a context whose void is under way (R382). -/
def voiding (cause : Status) (gather : List Nat) (x : Ctx) : Ctx :=
  { voidDiscard x with st := .voiding, was := x.st, hold := statusCode cause, gather := gather }

/-- What steps 1 to 5 of a void leave alone, before the context is marked (R382). -/
theorem voidCore_spec (s : State) (c : Nat) (cause : Status) :
    ∃ t, steady s t ∧ s.voidCore c cause = t.updCtx c (voiding cause (t.unmerged c)) := by
  have hsent : steady s (if hvMode (s.ctx c) = 2 && s.car.formed && !s.isTreble then s.sendBytesHome c else s) := by
    split
    · exact steady_ctl ..
    · exact .refl s
  exact ⟨_, ((hsent.trans (steady_foldl (fun _ _ => steady_updPan ..) _ _)).trans (steady_returnPans _ c)).trans (steady_accZero _ c), rfl⟩

theorem calm_voidCore (s : State) (c : Nat) (cause : Status) : calm s (s.voidCore c cause) := by
  obtain ⟨t, hsteady, heq⟩ := voidCore_spec s c cause
  rw [heq]
  exact hsteady.tocalm.trans (calm_updCtx ..)

/-- The certificate of a void in its context (step 6 of R382). -/
def certified (cert : Bytes) (x : Ctx) : Ctx := { clearPause x with cert := cert, kept := none }

/-- Steps 6 and 7 of a void whose certificate is signed (R382). -/
def State.voidEnds (s : State) (c : Nat) (cert : Bytes) (hold : Nat) : State :=
  (((((s.updCtx c (certified cert)).endHarvestKeys c).enterState c .voided (statusOf hold)).finishSettle c .voided).endJob c)

theorem finishVoid_signed {s t : State} {c : Nat} {cert : Bytes} (hst : (s.ctx c).st = .voiding) (hgather : (s.ctx c).gather = [])
    (hsign : s.signCose (s.claims c 1 (s.ctx c).hold .null).encode = some (cert, t)) :
    s.finishVoid c = t.voidEnds c cert (s.ctx c).hold := by
  unfold State.finishVoid
  dsimp only
  rw [hst, hgather, hsign]
  rfl

theorem finishVoid_waits {s : State} {c : Nat} (hst : (s.ctx c).st = .voiding) (hgather : (s.ctx c).gather = [])
    (hsign : s.signCose (s.claims c 1 (s.ctx c).hold .null).encode = none) : s.finishVoid c = s.noteWait 0 := by
  unfold State.finishVoid
  dsimp only
  rw [hst, hgather, hsign]
  rfl

theorem finishVoid_other {s : State} {c : Nat} (h : ¬ ((s.ctx c).st = .voiding ∧ (s.ctx c).gather = [])) : s.finishVoid c = s := by
  unfold State.finishVoid
  dsimp only
  rw [if_pos]
  by_contra hnot
  exact h (by simpa using hnot)

theorem calm_voidEnds (s : State) (c : Nat) (cert : Bytes) (hold : Nat) : calm s (s.voidEnds c cert hold) := by
  have hkeys : calm s ((s.updCtx c (certified cert)).endHarvestKeys c) := (calm_updCtx ..).trans (steady_endHarvestKeys ..).tocalm
  have hdone := (hkeys.trans (calm_enterState _ c .voided (statusOf hold))).trans (steady_finishSettle _ c .voided).tocalm
  exact hdone.trans (steady_endJob ..).tocalm

theorem calm_finishVoid (s : State) (c : Nat) : calm s (s.finishVoid c) := by
  by_cases h : (s.ctx c).st = .voiding ∧ (s.ctx c).gather = []
  · obtain ⟨hst, hgather⟩ := h
    cases hsign : s.signCose (s.claims c 1 (s.ctx c).hold .null).encode with
    | none =>
      rw [finishVoid_waits hst hgather hsign]
      exact (steady_noteWait s 0).tocalm
    | some ct =>
      rw [finishVoid_signed hst hgather hsign]
      exact (steady_signCose hsign).tocalm.trans (calm_voidEnds ..)
  · rw [finishVoid_other h]
    exact .refl s

theorem calm_voidLocal (s : State) (c : Nat) (cause : Status) : calm s (s.voidLocal c cause) := by
  unfold State.voidLocal
  split
  · exact .refl s
  · exact (calm_voidCore s c cause).trans (calm_finishVoid _ c)

theorem calm_voidCtx (s : State) (c : Nat) (cause : Status) : calm s (s.voidCtx c cause) := by
  unfold State.voidCtx
  split
  · exact .refl s
  · dsimp only
    split
    · exact (steady_ctlAll ..).tocalm.trans (calm_voidLocal ..)
    · exact calm_voidLocal ..

theorem calm_fatalVoid (s : State) (c unit index loc : Nat) : calm s (s.fatalVoid c unit index loc) := by
  unfold State.fatalVoid
  split
  · exact .refl s
  · exact (steady_fault ..).tocalm.trans (calm_voidCtx ..)

theorem calm_voidQuad (s : State) : calm s s.voidQuad :=
  calm_foldl (fun t c => by
    split
    · exact calm_voidLocal ..
    · exact .refl t) _ _

theorem calm_stopGather (s : State) : calm s s.stopGather := by
  have hmap (f : Ctx → Ctx) : calm s { s with ctxs := s.ctxs.map f } :=
    ⟨fun _ _ => rfl, rfl, rfl, rfl, List.length_map f, rfl, rfl, rfl⟩
  exact (hmap _).trans (calm_foldl (fun _ _ => calm_finishVoid ..) _ _)

/-! ### Leaving the Quad, and the loss of the core -/

theorem steady_sendPlain (s : State) (typ dst ctx : Nat) (body : Bytes) : steady s (s.sendPlain typ dst ctx body) := by
  have hseq (seqs : List (Nat × Nat)) : steady s { s with car := { s.car with plainSeq := seqs } } :=
    steady_of_same rfl rfl rfl rfl rfl rfl ⟨rfl, rfl, rfl, rfl⟩
  unfold State.sendPlain
  split
  · exact .refl s
  · exact ((hseq _).trans (steady_emit ..)).trans (steady_sendBytes ..)

theorem steady_membersEvent (s : State) : steady s s.membersEvent := steady_event ..

theorem steady_unitStateEvent (s : State) (unit index old new suspect : Nat) :
    steady s (s.unitStateEvent unit index old new suspect) := steady_event ..

/-- The state of a position outside any Quad. -/
def State.unformed (s : State) : State := { s with car := { s.car with formed := false, members := 0 } }

/-- Leaving the Quad is calm but for the formed state (R570). -/
theorem calm_leaveQuad (s : State) : calm s.unformed s.leaveQuad := by
  unfold State.leaveQuad
  extract_lets idle oldCar first second third newCar
  have hfirst : calm s.unformed first := ⟨fun _ _ => rfl, rfl, rfl, rfl, rfl, rfl, rfl, rfl⟩
  have hsecond : calm s.unformed second := (hfirst.trans (calm_voidQuad _)).trans (calm_stopGather _)
  clear_value second
  have hthird : steady second third := by
    unfold third
    have hkeys (c : Nat) : steady second (second.endJob c).dropJobKeys := (steady_endJob ..).trans (steady_dropKeys ..)
    split
    · dsimp only
      split
      · exact (hkeys _).trans (steady_finish ..)
      · split
        · exact (hkeys _).trans (steady_finish ..)
        · exact hkeys _
    · exact .refl second
  clear_value third
  exact (hsecond.trans hthird.tocalm).trans ⟨fun _ _ => rfl, rfl, rfl, rfl, rfl, rfl, rfl, rfl⟩

/-- No job and no transfer outlives the formed state. -/
theorem leaveQuad_car (s : State) :
    s.leaveQuad.car.formed = false ∧ s.leaveQuad.car.members = 0 ∧ s.leaveQuad.car.job = none ∧ s.leaveQuad.car.transfers = [] :=
  ⟨(calm_leaveQuad s).formed, (calm_leaveQuad s).members, rfl, rfl⟩

theorem quitQuad_quiet (s : State) (hdev : s.dev.st ≠ .tenantedIdle) (hrun : s.dev.st ≠ .running) :
    s.quitQuad.dev = s.dev ∧ s.quitQuad.stores.selfRefresh = s.stores.selfRefresh := by
  have hleave {t : State} (h : calm s t) :
      t.leaveQuad.membersEvent.dev = s.dev ∧ t.leaveQuad.membersEvent.stores.selfRefresh = s.stores.selfRefresh := by
    have hst := h.dev hdev hrun
    have hquit := (calm_leaveQuad t).trans (steady_membersEvent _).tocalm
    exact ⟨(hquit.dev (hst ▸ hdev) (hst ▸ hrun)).trans hst, hquit.selfRefresh.trans h.selfRefresh⟩
  unfold State.quitQuad
  split
  · exact ⟨rfl, rfl⟩
  · dsimp only
    split
    · exact hleave (steady_foldl (fun _ _ => steady_sendPlain ..) _ _).tocalm
    · exact hleave (.refl s)

theorem calm_strayAt (s : State) (d : Nat) (it : FabItem) (reason : Nat) : calm s (s.strayAt d it reason) := by
  have hstray (t : State) (f : Stray → Stray) : steady t (t.updStray d f) := steady_of_same rfl rfl rfl rfl rfl rfl ⟨rfl, rfl, rfl, rfl⟩
  unfold State.strayAt
  extract_lets toll last first fabric second x due third
  have hsecond : steady s second := steady_of_same rfl rfl rfl rfl rfl rfl ⟨rfl, rfl, rfl, rfl⟩
  clear_value second
  have hthird : steady second third := by
    unfold third
    split
    · exact (steady_event ..).trans (hstray _ _)
    · exact hstray _ _
  clear_value third
  split
  · exact (hsecond.trans hthird).tocalm.trans (calm_voidCtx ..)
  · exact (hsecond.trans hthird).tocalm

theorem calm_retireNow (s : State) (p : Nat) : calm s (s.retireNow p) := by
  unfold State.retireNow
  extract_lets q items first sw second third fourth fifth
  split
  · exact .refl s
  · have hsecond : steady s second := steady_of_same rfl rfl rfl rfl rfl rfl ⟨rfl, rfl, rfl, rfl⟩
    have hthird : steady second third := steady_of_same rfl rfl rfl rfl rfl rfl ⟨rfl, rfl, rfl, rfl⟩
    have hfourth : steady third fourth := steady_unitStateEvent ..
    clear_value fourth
    have hfifth : calm fourth fifth := by
      unfold fifth
      split
      · exact calm_fatalVoid ..
      · exact .refl fourth
    exact (((hsecond.trans hthird).trans hfourth).tocalm.trans hfifth).trans (calm_foldl (fun _ _ => calm_strayAt ..) _ _)

theorem steady_endLoad (s : State) (pf : Nat) (status : Status) (detail sec : Nat) (orphan : Bool) :
    steady s (s.endLoad pf status detail sec orphan) := by
  have himg (i : Image) : steady s { s with img := i } := steady_of_same rfl rfl rfl rfl rfl rfl ⟨rfl, rfl, rfl, rfl⟩
  unfold State.endLoad
  dsimp only
  split
  · exact himg _
  · exact (himg _).trans (steady_finish ..)

theorem steady_abortLoad (s : State) (orphan : Bool) : steady s (s.abortLoad orphan) := by
  unfold State.abortLoad
  split
  · exact .refl s
  · exact steady_endLoad ..

theorem coreLost_quiet (s : State) (hidle : s.dev.st ≠ .tenantedIdle) (hrun : s.dev.st ≠ .running) :
    s.coreLost.dev = s.dev ∧ s.coreLost.stores.selfRefresh = s.stores.selfRefresh := by
  unfold State.coreLost
  extract_lets first second
  have hfirst : calm s first := (steady_abortLoad ..).tocalm.trans (calm_foldl (fun _ _ => calm_retireNow ..) _ _)
  clear_value first
  have hdev := hfirst.dev hidle hrun
  obtain ⟨hquit, hself⟩ := quitQuad_quiet (first.updQueue 6 fun b => { b with en := false }) (hdev ▸ hidle) (hdev ▸ hrun)
  exact ⟨hquit.trans hdev, hself.trans hfirst.selfRefresh⟩

end Sys2Proof.Machine
end

/-! What the mailbox commands in service do (R146 to R171, R356 to R382, R518 to R527, R570, R601). -/
section
namespace Sys2Proof.Machine

open Sys2Proof

/-! ### A function after a completion -/

theorem updAt_congr {α : Type} {l : List α} {i : Nat} {f g : α → α} {d : α} (h : f (l.getD i d) = g (l.getD i d)) :
    updAt l i f = updAt l i g := by
  rw [updAt_eq_modify, updAt_eq_modify]
  apply List.ext_getElem?
  intro j
  rw [List.getElem?_modify, List.getElem?_modify]
  by_cases hj : i = j
  · subst hj
    cases hx : l[i]? with
    | none => rfl
    | some x => simpa [List.getD_eq_getElem?_getD, hx] using h
  · simp [hj]

theorem updFn_congr {s : State} {n : Nat} {f g : Fn → Fn} (h : f (s.fn n) = g (s.fn n)) : s.updFn n f = s.updFn n g :=
  congrArg (fun fns => ({ s with fns := fns } : State)) (updAt_congr (d := {}) h)

theorem fn_updFn_same {s : State} {n : Nat} (hn : n < s.fns.length) (f : Fn → Fn) : (s.updFn n f).fn n = f (s.fn n) :=
  getD_updAt_same hn f {}

theorem lt_fns_of_serving {s : State} {n : Nat} {v : Serving} (h : (s.fn n).serving = some v) : n < s.fns.length := by
  by_contra hn
  rw [State.fn, List.getD_eq_default _ _ (Nat.le_of_not_lt hn)] at h
  cases h

/-- Functions differ in their pending bits alone. -/
structure pbaOnly (s t : State) : Prop where
  fn : ∀ n, t.fn n = { s.fn n with pba := (t.fn n).pba }

theorem pbaOnly_of_fns {s t : State} (h : t.fns = s.fns) : pbaOnly s t := ⟨fun n => by rw [State.fn, h]; rfl⟩

theorem pbaOnly.trans {s t u : State} (h : pbaOnly s t) (h' : pbaOnly t u) : pbaOnly s u := ⟨fun n => by rw [h'.fn n, h.fn n]⟩

theorem pbaOnly_signal (s : State) (n v : Nat) : pbaOnly s (s.signal n v) := by
  unfold State.signal
  split
  · exact pbaOnly_of_fns rfl
  · split
    · refine ⟨fun m => ?_⟩
      by_cases hm : m = n
      · subst hm
        by_cases hlt : m < s.fns.length
        · rw [fn_updFn_same hlt]
        · have hlt' := Nat.le_of_not_lt hlt
          rw [State.fn, State.fn, List.getD_eq_default _ _ hlt', List.getD_eq_default _ _ (by simpa [State.updFn] using hlt')]
      · rw [State.fn, State.updFn, getD_updAt_other _ hm]
        rfl
    · exact pbaOnly_of_fns rfl

theorem pbaOnly_signalQueue (s : State) (q : Nat) : pbaOnly s (s.signalQueue q) := by
  unfold State.signalQueue
  split
  · exact pbaOnly_signal ..
  · split
    · exact pbaOnly_signal ..
    · split
      · exact pbaOnly_signal ..
      · exact pbaOnly_of_fns rfl

theorem pbaOnly_produce (s : State) (q typ source status : Nat) (payload : Bytes) (bad : Bool) (lag : Nat) :
    pbaOnly s (s.produce q typ source status payload bad lag) := by
  have hlevel (t : State) : pbaOnly t (t.levelCheck q lag) := by
    unfold State.levelCheck
    dsimp only
    split
    · exact pbaOnly_of_fns rfl
    · split
      · exact pbaOnly_of_fns rfl
      · split
        · have harmed : pbaOnly t ((t.updQueue q fun b => { b with armed := false }).setBit .qEvt q 0) := pbaOnly_of_fns rfl
          exact harmed.trans (pbaOnly_signalQueue ..)
        · exact pbaOnly_of_fns rfl
  unfold State.produce
  dsimp only
  refine .trans (pbaOnly_of_fns ?_) (hlevel _)
  split <;> rfl

theorem pbaOnly_event (s : State) (q typ source status : Nat) (payload : Bytes) : pbaOnly s (s.event q typ source status payload) := by
  unfold State.event
  split
  · exact pbaOnly_of_fns rfl
  · dsimp only
    refine (pbaOnly_produce s q typ source status payload false 0).trans ?_
    split
    · refine (pbaOnly_produce _ 5 typ source status payload false 0).trans (pbaOnly_of_fns ?_)
      split <;> rfl
    · exact pbaOnly_of_fns rfl

theorem pbaOnly_cmdDone (s : State) (pf seq code status : Nat) (result : Bytes) : pbaOnly s (s.cmdDone pf seq code status result) := by
  unfold State.cmdDone
  dsimp only
  split
  · have hflushed : pbaOnly s (s.emit (.dmaFlush pf)) := pbaOnly_of_fns rfl
    exact hflushed.trans (pbaOnly_event ..)
  · exact pbaOnly_event ..

/-- A completion as the cache keeps it (R601). -/
def servedOf (v : Serving) (st : Status) (r : Bytes) : Served := { seq := v.seq, code := cmdCode v.cmd, status := statusCode st, result := r }

/-- A function whose command in service has ended. -/
def idleFn (f : Fn) : Fn := { f with serving := none }

/-- A function with one more result in its cache of 64. -/
def cachedFn (r : Served) (f : Fn) : Fn := { f with cache := (f.cache ++ [r]).drop (f.cache.length + 1 - 64) }

theorem finish_eq {s : State} {pf : Nat} {v : Serving} (h : (s.fn pf).serving = some v) (st : Status) (r : Bytes) :
    s.finish pf st r =
      ((s.updFn pf idleFn).updFn pf (cachedFn (servedOf v st r))).cmdDone pf v.seq (cmdCode v.cmd) (statusCode st) r := by
  unfold State.finish
  rw [h]
  rfl

/-- A function after the command in service has ended: it is idle, and its result is the last of the cache (R600, R601). -/
theorem fn_finish {s : State} {pf : Nat} {v : Serving} (h : (s.fn pf).serving = some v) (st : Status) (r : Bytes) :
    ∃ pba, (s.finish pf st r).fn pf = { cachedFn (servedOf v st r) (idleFn (s.fn pf)) with pba := pba } := by
  have hpf := lt_fns_of_serving h
  have hpf' : pf < (s.updFn pf idleFn).fns.length := by rwa [(steady_updFn s pf idleFn).fnCount]
  have hdone := (pbaOnly_cmdDone ((s.updFn pf idleFn).updFn pf (cachedFn (servedOf v st r))) pf v.seq (cmdCode v.cmd) (statusCode st)
    r).fn pf
  rw [← finish_eq h, fn_updFn_same hpf', fn_updFn_same hpf] at hdone
  exact ⟨_, hdone⟩

theorem finish_idle (s : State) (pf : Nat) (st : Status) (r : Bytes) : ((s.finish pf st r).fn pf).serving = none := by
  cases h : (s.fn pf).serving with
  | none =>
    unfold State.finish
    rw [h]
    exact h
  | some v =>
    obtain ⟨pba, hfn⟩ := fn_finish h st r
    exact congrArg Fn.serving hfn

theorem finish_cached {s : State} {pf : Nat} {v : Serving} (h : (s.fn pf).serving = some v) (st : Status) (r : Bytes) :
    ((s.finish pf st r).fn pf).cache.getLast? = some (servedOf v st r) := by
  obtain ⟨pba, hfn⟩ := fn_finish h st r
  rw [hfn]
  simp [cachedFn, idleFn, List.getLast?_drop]

/-! ### MUFFLE and WAKE -/

/-- A MUFFLE accepted (R146): Muffled is entered, and the Stores refresh themselves. -/
def State.muffles (s : State) (pf seq : Nat) : State :=
  { s with dev := { s.dev with st := .muffled, muffling := some (.host pf seq) }, stores := { s.stores with selfRefresh := true } }

section
variable {s : State} {pf : Nat} {v : Serving} (hserving : (s.fn pf).serving = some v) (hst : s.dev.st = .tenantedIdle)
  (hload : s.img.load = none) (hswitch : s.dev.switch = none)
include hserving hst hload hswitch

theorem runMuffle_good (hvddc : s.power.vddc = .good) : s.runMuffle pf = (s.muffles pf v.seq).removeVddc .muffle := by
  have hpower : ((s.muffles pf v.seq).removeVddc .muffle).power.vddc = .discharging := by
    have hgood : (s.muffles pf v.seq).power.vddc = .good := hvddc
    unfold State.removeVddc
    rw [hgood]
    rfl
  have hguard : (s.img.load.isSome || s.dev.switch.isSome) = false := by rw [hload, hswitch]; rfl
  unfold State.runMuffle
  dsimp only
  rw [hst, hserving]
  dsimp only
  rw [hguard, if_neg Bool.false_ne_true]
  unfold State.muffles at hpower ⊢
  rw [hpower]

theorem runMuffle_off (hvddc : s.power.vddc = .off) :
    s.runMuffle pf = ({ (s.muffles pf v.seq).removeVddc .muffle with dev := { (s.muffles pf v.seq).dev with muffling := none } } :
      State).finish pf .ok [BitVec.ofNat 8 (devCode .muffled)] := by
  have hpower : ((s.muffles pf v.seq).removeVddc .muffle).power.vddc = .off := by
    have hoff : (s.muffles pf v.seq).power.vddc = .off := hvddc
    unfold State.removeVddc
    rw [hoff]
    rfl
  have hguard : (s.img.load.isSome || s.dev.switch.isSome) = false := by rw [hload, hswitch]; rfl
  unfold State.runMuffle
  dsimp only
  rw [hst, hserving]
  dsimp only
  rw [hguard, if_neg Bool.false_ne_true]
  unfold State.muffles at hpower ⊢
  rw [hpower]

end

theorem removeVddc_spec (s : State) (why : VddcWhy) :
    (s.removeVddc why).dev = s.coreLost.dev ∧ (s.removeVddc why).stores = s.coreLost.stores ∧ (s.removeVddc why).power.vddcEn = false ∧
      (s.removeVddc why).img.loaded = none := ⟨rfl, rfl, rfl, rfl⟩

/-- A MUFFLE with VDDC good removes it, and waits for its discharge. -/
theorem muffled_good (s : State) (pf seq : Nat) :
    ((s.muffles pf seq).removeVddc .muffle).dev.st = .muffled ∧
      ((s.muffles pf seq).removeVddc .muffle).dev.muffling = some (.host pf seq) ∧
      ((s.muffles pf seq).removeVddc .muffle).stores.selfRefresh = true ∧
      ((s.muffles pf seq).removeVddc .muffle).power.vddcEn = false ∧ ((s.muffles pf seq).removeVddc .muffle).img.loaded = none := by
  obtain ⟨hdev, hstores, hen, hloaded⟩ := removeVddc_spec (s.muffles pf seq) .muffle
  obtain ⟨hquiet, hself⟩ := coreLost_quiet (s.muffles pf seq) (by simp [State.muffles]) (by simp [State.muffles])
  rw [hdev, hstores, hquiet, hself]
  exact ⟨rfl, rfl, rfl, hen, hloaded⟩

section
variable {s : State} {pf : Nat} {v : Serving} (hserving : (s.fn pf).serving = some v)
include hserving

theorem runWake_muffled (hst : s.dev.st = .muffled) (hwake : s.dev.wake = none) (hswitch : s.dev.switch = none)
    (htamper : s.dev.muffledTamper = false) (hburn : s.toc.burning = false) :
    s.runWake pf = ({ s with dev := { s.dev with wake := some { step := 0, by_ := .host pf v.seq } } } : State).wantVddc := by
  have hguard : (s.dev.wake.isSome || s.dev.switch.isSome) = false := by rw [hwake, hswitch]; rfl
  unfold State.runWake State.beginWake
  rw [hst, hserving]
  dsimp only
  rw [hguard, if_neg Bool.false_ne_true, htamper, if_neg Bool.false_ne_true, hburn, if_neg Bool.false_ne_true]

/-! ### Phases and the Quad -/

theorem runSettle_unmasking (hst : (s.ctx pf).st = .unmasking) (hquad : (s.ctx pf).quad = false) (hpause : paused (s.ctx pf) = false) :
    s.runSettle pf = s.updFn pf fun f => { f with parked := f.parked ++ [v], serving := none } := by
  have hhold : holding (s.ctx pf) = none := by simp [holding, hst]
  unfold State.runSettle
  dsimp only
  rw [State.notTreble, hquad, hst]
  dsimp only
  rw [hpause, hhold]
  simp only [Bool.false_and, Bool.false_eq_true, if_false]
  exact updFn_congr (by rw [hserving])

theorem runForm_goes {m : Nat} (hgate : s.formGate pf m = none) (hforming : s.car.forming = none) :
    s.runForm pf m = (({ (s.updFn pf fun f => { f with parked := f.parked ++ [v], serving := none }) with
      car := { s.car with forming := some { mask := m }, peerIds := [] } } : State)).formAdvance := by
  have hform {t : State} (ht : t = s.updFn pf fun f => { f with parked := f.parked ++ [v], serving := none }) :
      (if t.car.forming.isSome then t
        else ({ t with car := { t.car with forming := some { mask := m }, peerIds := [] } } : State).formAdvance) =
      (({ (s.updFn pf fun f => { f with parked := f.parked ++ [v], serving := none }) with
        car := { s.car with forming := some { mask := m }, peerIds := [] } } : State)).formAdvance := by
    have hnot : t.car.forming.isSome = false := by rw [ht]; exact congrArg Option.isSome hforming
    rw [hnot, if_neg Bool.false_ne_true, ht]
    rfl
  unfold State.runForm
  rw [hgate]
  exact hform (updFn_congr (by rw [hserving]))

end

theorem runFreeze_gathering {s : State} {c : Nat} (hst : (s.ctx c).st = .gathering) (hquad : (s.ctx c).quad = false)
    (hpause : paused (s.ctx c) = false) : s.runFreeze c = s.updCtx c fun x => { x with freezing := true } := by
  simp [State.runFreeze, State.notTreble, ctxGate, hst, hquad, hpause]

theorem runDissolve_formed {s : State} (hformed : s.car.formed = true) (hjob : s.car.job = none)
    (hlive : (s.ctxs.any fun x => x.quad && ctxLive x.st) = false) :
    s.runDissolve 0 = (s.tellMembers 0x22 []).leaveQuad.membersEvent.finish 0 .ok [] := by
  simp [State.runDissolve, hformed, hjob, hlive]

/-! ### Opening and the roster -/

theorem steady_relayLinks (s : State) : steady s s.relayLinks := by
  refine steady_foldl (fun t p => ?_) _ _
  split
  · split
    · exact steady_updLink ..
    · exact .refl t
  · exact .refl t

theorem openNow_spec {s : State} {c : Nat} (hc : c < s.ctxs.length) (b : Bytes) :
    (s.openNow c b).lastHid = hidNat (blockCtx b) + 1 ∧ ((s.openNow c b).ctx c).st = .opened ∧
      ((s.openNow c b).ctx c).block = b ∧ ((s.openNow c b).ctx c).policy = s.policy := by
  unfold State.openNow
  extract_lets x ranks quad v meas pol new marked first second
  have hsecond : steady first second := (steady_accZero ..).trans (steady_updPansOf ..)
  have hthird : steady first (if quad = true then second.relayLinks else second) := by
    split
    · exact hsecond.trans (steady_relayLinks _)
    · exact hsecond
  have hnew : first.ctx c = new := ctx_updCtx_same hc fun _ => new
  have hlen : c < first.ctxs.length := by rwa [show first.ctxs.length = s.ctxs.length from updAt_length ..]
  have hopened := ctx_enterState (hthird.ctxCount.symm ▸ hlen) .opened .ok
  have hhid := (steady_enterState (if quad = true then second.relayLinks else second) c .opened .ok).lastHid
  rw [hopened, hthird.ctx, hnew]
  exact ⟨hhid.trans hthird.lastHid, rfl, rfl, rfl⟩

theorem rosterNow_gathering {s : State} {c : Nat} (hc : c < s.ctxs.length) (f : Bytes) : ((s.rosterNow c f).ctx c).st = .gathering := by
  unfold State.rosterNow
  dsimp only
  rw [ctx_enterState (by change c < (updAt _ _ _).length; rwa [updAt_length])]

theorem runRoster_opened {s : State} {c : Nat} (hst : (s.ctx c).st = .opened) (hquad : (s.ctx c).quad = false) (f : Bytes) :
    s.runRoster c f =
      (match s.rosterFail c f with
      | some st => s.finish c st []
      | none => (s.rosterNow c f).finish c .ok ((s.rosterNow c f).rosterResult c)) := by
  unfold State.runRoster
  rw [hst, hquad, if_pos (beq_self_eq_true _)]
  cases s.rosterFail c f with
  | some st => rfl
  | none => rfl

theorem runOpen_alone {s : State} {c len : Nat} {b : Bytes} (hjob : ∀ j, s.car.job = some j → j.ctx ≠ c) (hmode : hvMode (blockCtx b) = 0) :
    s.runOpen c len b =
      (match s.openFail len b false with
      | some st => s.finish c st [0]
      | none =>
        match s.layoutFail c b with
        | some st => s.finish c st [0]
        | none => (s.openNow c b).finish c .ok [1]) := by
  have hnone : (s.car.job.any fun j => j.ctx == c) = false := by
    cases hj : s.car.job with
    | none => rfl
    | some j => simpa using hjob j hj
  unfold State.runOpen
  rw [hnone, if_neg Bool.false_ne_true]
  cases s.openFail len b false with
  | some st => rfl
  | none =>
    refine (if_pos hmode).trans ?_
    cases s.layoutFail c b with
    | some st => rfl
    | none => rfl

/-! ### The end of a harvest -/

theorem voidEnds_voided {s : State} {c : Nat} (hc : c < s.ctxs.length) (cert : Bytes) (hold : Nat) :
    ((s.voidEnds c cert hold).ctx c).st = .voided := by
  have hkeys : calm s ((s.updCtx c (certified cert)).endHarvestKeys c) := (calm_updCtx ..).trans (steady_endHarvestKeys ..).tocalm
  have hdone := (steady_finishSettle (((s.updCtx c (certified cert)).endHarvestKeys c).enterState c .voided (statusOf hold)) c
    .voided).trans (steady_endJob _ c)
  unfold State.voidEnds
  rw [hdone.ctx, ctx_enterState (by rwa [hkeys.ctxCount])]

section
variable {s : State} {c : Nat} (hc : c < s.ctxs.length)
include hc

/-- A context right after steps 1 to 5 of a void that gathers nothing (R382). -/
theorem voidCore_ctx (cause : Status) (hmode : hvMode (s.ctx c) ≠ 2) : (s.voidCore c cause).ctx c = voiding cause [] (s.ctx c) := by
  obtain ⟨t, hsteady, heq⟩ := voidCore_spec s c cause
  have hgather : t.unmerged c = [] := by simp [State.unmerged, hsteady.ctx, hmode]
  rw [heq, ctx_updCtx_same (by rwa [hsteady.ctxCount]), hgather, hsteady.ctx]

omit hc in
theorem runVoid_live (hlive : ctxLive (s.ctx c).st = true) (hquad : (s.ctx c).quad = false) :
    s.runVoid c =
      (if (((s.voidCore c .voided).finishVoid c).ctx c).st == .voiding then ((s.voidCore c .voided).finishVoid c).stall c []
      else ((s.voidCore c .voided).finishVoid c).finish c .ok (((s.voidCore c .voided).finishVoid c).ctxResult c)) := by
  have hvoided : ((s.ctx c).st == .voided) = false := by cases hst : (s.ctx c).st <;> simp [hst, ctxLive] at hlive ⊢
  have hvoiding : ((s.ctx c).st == .voiding) = false := by cases hst : (s.ctx c).st <;> simp [hst, ctxLive] at hlive ⊢
  unfold State.runVoid State.voidCtx State.voidLocal
  simp only [State.notTreble, hquad, hvoided, hvoiding, hlive, Bool.false_and, Bool.false_eq_true, if_false, Bool.not_true]

theorem runVoid_spec (hlive : ctxLive (s.ctx c).st = true) (hquad : (s.ctx c).quad = false) (hmode : hvMode (s.ctx c) = 0) :
    match (s.voidCore c .voided).signCose ((s.voidCore c .voided).claims c 1 (statusCode .voided) .null).encode with
    | some _ => ((s.runVoid c).ctx c).st = .voided ∧ ((s.runVoid c).fn c).serving = none
    | none => ((s.runVoid c).ctx c).st = .voiding := by
  have hctx := voidCore_ctx hc .voided (by rw [hmode]; decide)
  have hst : ((s.voidCore c .voided).ctx c).st = .voiding := by rw [hctx]; rfl
  have hgather : ((s.voidCore c .voided).ctx c).gather = [] := by rw [hctx]; rfl
  have hhold : ((s.voidCore c .voided).ctx c).hold = statusCode .voided := by rw [hctx]; rfl
  have hrun := runVoid_live hlive hquad
  rw [hrun]
  cases hsign : (s.voidCore c .voided).signCose ((s.voidCore c .voided).claims c 1 (statusCode .voided) .null).encode with
  | some ct =>
    have hc' : c < ct.2.ctxs.length := by rwa [(steady_signCose hsign).ctxCount, (calm_voidCore s c .voided).ctxCount]
    have hvoided := voidEnds_voided hc' ct.1 (statusCode .voided)
    rw [finishVoid_signed hst hgather (by rw [hhold]; exact hsign), hhold, hvoided]
    exact ⟨((steady_finish ..).ctx c ▸ hvoided :), finish_idle ..⟩
  | none =>
    have hwait : ((((s.voidCore c .voided).noteWait 0).ctx c).st) = .voiding := by rw [(steady_noteWait ..).ctx, hst]
    rw [finishVoid_waits hst hgather (by rw [hhold]; exact hsign), hwait]
    exact hwait

end

/-- What a closed context keeps: its counts of refusals and receipts (R377). -/
theorem closeCtx_ctx {s : State} {c : Nat} (hc : c < s.ctxs.length) :
    (s.closeCtx c).ctx c = { refusals := (s.ctx c).refusals, receiptsSent := (s.ctx c).receiptsSent } := by
  have hfree (t : State) (a n : Nat) : steady t (t.storeFree a n) := steady_of_same rfl rfl rfl rfl rfl rfl ⟨rfl, rfl, rfl, rfl⟩
  unfold State.closeCtx
  extract_lets zeroed freed grained kept old keep closed
  have hfreed : steady s freed := (steady_accZero s c).trans (steady_foldl (fun _ _ => hfree ..) _ _)
  have hkept : steady s kept :=
    ((hfreed.trans (steady_updPansOf freed c zeroGrainer)).trans (steady_returnPans grained c)).trans (steady_endHarvestKeys _ c)
  have hclosed : closed.ctx c = { refusals := keep.refusals, receiptsSent := keep.receiptsSent } :=
    ((steady_endJob _ c).ctx c).trans (ctx_updCtx_same (by rwa [hkept.ctxCount]) _)
  have hkeep : keep = s.ctx c := hkept.ctx c
  have hend : steady closed (closed.harvestStateEvent c old 0 false 0).settleDev := (steady_event ..).trans (steady_settleDev _)
  rw [hend.ctx c, hclosed, hkeep]

theorem runClose_ends {s : State} {c : Nat} (hst : (s.ctx c).st = .released ∨ (s.ctx c).st = .voided) :
    s.runClose c = (s.closeCtx c).finish c .ok [0] := by
  unfold State.runClose
  cases hst with
  | inl h => rw [h]
  | inr h => rw [h]

/-! ### Results -/

theorem dmaOut_master {s : State} {c : Nat} (hbme : (s.fn c).bme = true) (addr : Nat) (data : Bytes) :
    s.dmaOut c addr data = s.emit (.dmaWrite c addr data) := if_pos hbme

theorem runFetch_released {s : State} {c ra rl ca cl : Nat} (hst : (s.ctx c).st = .released) (hbme : (s.fn c).bme = true) (hra : ra ≠ 0)
    (hca : ca ≠ 0) (hresult : (s.ctx c).result ≠ []) (hcert : (s.ctx c).cert ≠ []) (hrl : (s.ctx c).result.length ≤ rl)
    (hcl : (s.ctx c).cert.length ≤ cl) (hgood : storesCondemned s.stores (s.partBase c 0) (s.ctx c).result.length = false) :
    s.runFetch c ra rl ca cl =
      ((s.emit (.dmaWrite c ra (s.ctx c).result)).emit (.dmaWrite c ca (s.ctx c).cert)).finish c .ok
        (leBytes 8 (s.ctx c).result.length ++ leBytes 4 (s.ctx c).cert.length) := by
  have hbme' : ((s.emit (.dmaWrite c ra (s.ctx c).result)).fn c).bme = true := hbme
  have hres : (if ((s.ctx c).st == .released && ra != 0) = true then (s.ctx c).result else []) = (s.ctx c).result :=
    if_pos (by simp [hst, hra])
  have hcer : (if (ca != 0) = true then (s.ctx c).cert else []) = (s.ctx c).cert := if_pos (by simp [hca])
  have hroom : ¬ (rl < (s.ctx c).result.length ∨ cl < (s.ctx c).cert.length) := by omega
  unfold State.runFetch
  dsimp only
  rw [hres, hcer, if_neg (by simp [hst]), if_neg (by simp [hst]), if_neg hroom, hgood, if_neg Bool.false_ne_true, if_neg hresult,
    if_neg hcert, dmaOut_master hbme, dmaOut_master hbme']

/-! ### Scopes, enrolment, weights -/

theorem noteScope_dbg (s : State) : s.noteScope.dbg = s.dbg := by
  unfold State.noteScope
  extract_lets note noted
  have hfold : steady noted ((List.range 4).foldl (fun s c =>
      let x := s.ctx c
      if x.quad && x.st == .settling && decide (7 ≤ x.step) && !s.isTreble then s.ctl s.treble .gateReport [BitVec.ofNat 8 x.debug]
      else s) noted) := by
    refine steady_foldl (fun t c => ?_) _ _
    dsimp only
    split
    · exact steady_ctl ..
    · exact .refl t
  exact hfold.dbg

theorem runUnlock_spec (s : State) (pf : Nat) (b : Bytes) :
    match s.unlockFail b with
    | some st => s.runUnlock pf b = s.finish pf st []
    | none => (s.runUnlock pf b).dbg.scope = Nat.lor s.dbg.scope (Nat.lor (byteAt b 6) (byteAt b 7 * 16)) := by
  unfold State.runUnlock
  cases s.unlockFail b with
  | some st => rfl
  | none =>
    change ((State.noteScope _).finish pf .ok _).dbg.scope = _
    rw [(steady_finish ..).dbg, noteScope_dbg]

theorem runEnrol_spec (s : State) (pf : Nat) (b : Bytes) :
    match s.enrolFail b, s.draw 0 32 with
    | some st, _ => s.runEnrol pf b = s.finish pf st []
    | none, none => s.runEnrol pf b = (s.noteWait 0).stall pf b
    | none, some _ => (s.runEnrol pf b).dev.st = .tenantedIdle ∧ (s.runEnrol pf b).keyhold.tenantKey = some (slice b 40 97) := by
  unfold State.runEnrol
  cases s.enrolFail b with
  | some st => rfl
  | none =>
    cases s.draw 0 32 with
    | none => rfl
    | some rt =>
      dsimp only
      rw [(eventsOnly_finish ..).dev, (eventsOnly_finish ..).keyhold]
      exact ⟨rfl, rfl⟩

/-- WEIGHTS_LOAD from its key on, with its segments given (R522). -/
def State.weightsWith (s : State) (pf : Nat) (b : Bytes) (segments : List Nat) : State :=
  match s.openWeightKey b with
  | .error st => s.finish pf st []
  | .ok s =>
    let off := leAt b 16 8
    let n := blobLen b
    let base := s.partBase pf 3 + off
    let (s', ok) := s.writeSegments ((s.slotKey 4 0).getD []) b base segments
    if ok then
      let keep := s'.blobs.filter fun e => !blobHits pf off n e
      ({ s' with blobs := keep ++ [(pf, leAt b 8 8, off, n, Crypto.sha384 b)] }).finish pf .ok []
    else (s'.storeZero base n).finish pf .authFail []

theorem runWeights_eq {s : State} {pf l : Nat} {b : Bytes} (h : s.weightsFail pf l b = none) :
    s.runWeights pf l b = s.weightsWith pf b (List.range (blobSegs b)) := by
  unfold State.runWeights
  rw [h]
  rfl

theorem weightsWith_written {s t u : State} {pf : Nat} {b : Bytes} {segments : List Nat} {done : Bool} (hkey : s.openWeightKey b = .ok t)
    (hwrite : t.writeSegments ((t.slotKey 4 0).getD []) b (t.partBase pf 3 + leAt b 16 8) segments = (u, done)) :
    s.weightsWith pf b segments =
      (if done then
        (({ u with blobs := (u.blobs.filter fun e => !blobHits pf (leAt b 16 8) (blobLen b) e) ++
          [(pf, leAt b 8 8, leAt b 16 8, blobLen b, Crypto.sha384 b)] } : State)).finish pf .ok []
      else (u.storeZero (t.partBase pf 3 + leAt b 16 8) (blobLen b)).finish pf .authFail []) := by
  simp only [State.weightsWith, hkey, hwrite]

theorem weightsWith_refused {s : State} {pf : Nat} {b : Bytes} {segments : List Nat} {st : Status}
    (hkey : s.openWeightKey b = .error st) : s.weightsWith pf b segments = s.finish pf st [] := by
  simp only [State.weightsWith, hkey]

theorem runAttest_eq (s : State) (pf o nl : Nat) (b : Bytes) :
    s.runAttest pf o nl b =
      (match s.makeEvidence (padTo nl b) (s.snapOf pf) with
      | none => (s.noteWait 0).stall pf b
      | some (e, t) => (t.dmaOut pf o e).finish pf .ok (leBytes 4 e.length)) := by
  unfold State.runAttest
  cases s.makeEvidence (padTo nl b) (s.snapOf pf) with
  | none => rfl
  | some et => rfl

/-- Settles O49. -/
theorem mailboxCommandEffects : Obligations.MailboxCommandEffects := by
  unfold Obligations.MailboxCommandEffects
  refine fun pf v s hserving hpf => ⟨fun st r => ⟨finish_idle s pf st r, finish_cached hserving st r⟩,
    fun hst hload hswitch hvddc => ?muffleGood, fun hst hload hswitch hvddc => ?muffleOff,
    fun hst hwake hswitch htamper hburn => runWake_muffled hserving hst hwake hswitch htamper hburn, fun hst => ?leave,
    fun b a l ld hload => ?image, fun b a l hjob hmode => runOpen_alone hjob hmode, fun b hc => openNow_spec hc b,
    fun b a l hquad hst hc => ⟨runRoster_opened hst hquad b, rosterNow_gathering hc b⟩, fun b a l n r => ⟨rfl, rfl⟩,
    fun hst hquad hpause => runFreeze_gathering hst hquad hpause, fun hst hquad hpause => runSettle_unmasking hserving hst hquad hpause,
    fun hlive hquad hmode hc => runVoid_spec hc hlive hquad hmode, fun hst hc => ?close,
    fun ra rl ca cl hst hbme hra hca hresult hcert hrl hcl hgood => runFetch_released hst hbme hra hca hresult hcert hrl hcl hgood,
    fun b a l => runUnlock_spec s pf b, fun b a l => runEnrol_spec s pf b, fun b a l h => ?weights,
    fun o ol nl na b => runAttest_eq s pf o nl b, fun m hgate hforming => runForm_goes hserving hgate hforming,
    fun hzero hformed hjob hlive => ?dissolve⟩
  case muffleGood =>
    change (s.runMuffle pf).dev.st = _ ∧ (s.runMuffle pf).dev.muffling = _ ∧ (s.runMuffle pf).stores.selfRefresh = _ ∧
      (s.runMuffle pf).power.vddcEn = _ ∧ (s.runMuffle pf).img.loaded = _
    rw [runMuffle_good hserving hst hload hswitch hvddc]
    exact muffled_good s pf v.seq
  case muffleOff =>
    change (s.runMuffle pf).dev.st = _ ∧ (s.runMuffle pf).dev.muffling = _ ∧ ((s.runMuffle pf).fn pf).serving = _
    rw [runMuffle_off hserving hst hload hswitch hvddc, (eventsOnly_finish ..).dev]
    exact ⟨rfl, rfl, finish_idle ..⟩
  case leave =>
    unfold State.runCmd
    rw [hst, hserving]
  case image =>
    change s.stageFile b = _
    unfold State.stageFile
    rw [hload]
  case close =>
    change ((s.runClose pf).ctx pf).st = _ ∧ ((s.runClose pf).ctx pf).result = _ ∧ ((s.runClose pf).ctx pf).roster = _
    rw [runClose_ends hst, (steady_finish ..).ctx, closeCtx_ctx hc]
    exact ⟨rfl, rfl, rfl⟩
  case weights =>
    change s.runWeights pf l b = _
    cases hkey : s.openWeightKey b with
    | error st => exact (runWeights_eq h).trans (weightsWith_refused hkey)
    | ok t =>
      dsimp only
      cases hwrite : t.writeSegments ((t.slotKey 4 0).getD []) b (t.partBase pf 3 + leAt b 16 8) (List.range (blobSegs b)) with
      | mk u done => exact (runWeights_eq h).trans (weightsWith_written hkey hwrite)
  case dissolve =>
    subst hzero
    exact runDissolve_formed hformed hjob hlive

end Sys2Proof.Machine
end

/-! The mailbox's rows (R595 to R602, R610, R611): writes, doorbells, resends, DMA, function resets, bus mastering. -/
section
namespace Sys2Proof.Machine

open Sys2Proof

/-! ### The ring and its doorbell -/

section
variable {s : State} {pf : Nat} (hreach : s.hostReaches pf = true)
include hreach

theorem mailboxWrite_whole {off : Nat} {data : Bytes} (hlo : ringBase ≤ off) (hhi : off + data.length ≤ ringBase + 4096) (hne : data ≠ [])
    (hoff : off % 4 = 0) (hlen : data.length % 4 = 0) :
    s.mailboxWrite pf off data true false =
      s.updFn pf fun f => { f with
        ring := Memory.writeN f.ring (off - ringBase) data
        damaged := ((List.range 64).filter fun k => decide (off - ringBase ≤ 64 * k) &&
          decide (64 * k < off - ringBase + data.length)).foldl (fun d k => setBits d k k 0) f.damaged } := by
  unfold State.mailboxWrite
  dsimp only
  rw [if_neg (by simp [hreach, hlo, hhi, hne]), if_neg (by simp [hoff, hlen])]

theorem mailboxWrite_broken {off : Nat} {data : Bytes} (hlo : ringBase ≤ off) (hhi : off + data.length ≤ ringBase + 4096) (hne : data ≠ [])
    (whole : Bool) :
    s.mailboxWrite pf off data whole true =
      (s.dropWrite pf off).updFn pf fun f =>
        { f with damaged := setBits f.damaged ((off - ringBase) / 64) ((off - ringBase) / 64) 1 } := by
  unfold State.mailboxWrite
  dsimp only
  rw [if_neg (by simp [hreach, hlo, hhi, hne]), if_pos (by simp)]

theorem doorbell_covers {t : Nat} (hlimit : (s.fn pf).limit = none) (ht : t < 2 ^ 32)
    (hpos : 0 < (t + 1 + 2 ^ 32 - (s.fn pf).expect) % 2 ^ 32) (hle : (t + 1 + 2 ^ 32 - (s.fn pf).expect) % 2 ^ 32 ≤ 64) :
    s.doorbell pf t true false = (s.updFn pf fun f => { f with stopped := false, limit := some t }).pump := by
  have ht' : t % 2 ^ 32 = t := Nat.mod_eq_of_lt ht
  unfold State.doorbell
  dsimp only
  rw [ht', hlimit, if_neg (by simp [hreach]), if_neg (by simp [hle, -Nat.reducePow]), if_neg (Nat.pos_iff_ne_zero.1 hpos),
    if_neg (Nat.not_lt_zero _)]

theorem doorbell_again {t : Nat} (h : (t % 2 ^ 32 + 1 + 2 ^ 32 - (s.fn pf).expect) % 2 ^ 32 = 0) : s.doorbell pf t true false = s := by
  unfold State.doorbell
  dsimp only
  rw [if_neg (by simp [hreach]), h, if_neg (by simp), if_pos rfl]

theorem doorbell_out {t : Nat} (h : 64 < (t % 2 ^ 32 + 1 + 2 ^ 32 - (s.fn pf).expect) % 2 ^ 32) (single : Bool) :
    s.doorbell pf t single false = s.dropWrite pf doorbellOff := by
  unfold State.doorbell
  dsimp only
  rw [if_neg (by simp [hreach]), if_pos (by simp [h, -Nat.reducePow])]

theorem resend_cached {seq : Nat} {r : Served} (hseq : seq < 2 ^ 32) (hserving : (s.fn pf).serving = none) (hparked : (s.fn pf).parked = [])
    (hcache : (s.fn pf).cache.find? (fun r => r.seq == seq) = some r) (hlo : 1 ≤ ((s.fn pf).expect + 2 ^ 32 - seq) % 2 ^ 32)
    (hhi : ((s.fn pf).expect + 2 ^ 32 - seq) % 2 ^ 32 ≤ 64) : s.resend pf seq = s.cmdDone pf seq r.code r.status r.result := by
  have hseq' : seq % 2 ^ 32 = seq := Nat.mod_eq_of_lt hseq
  unfold State.resend
  dsimp only
  rw [hseq', if_neg (by simp [hreach]), if_neg (by simp [hserving, hparked]), hcache]
  dsimp only
  rw [if_pos ⟨hlo, hhi⟩]

theorem resend_unknown {seq : Nat} (hseq : seq < 2 ^ 32) (hserving : (s.fn pf).serving = none) (hparked : (s.fn pf).parked = [])
    (hcache : (s.fn pf).cache.find? (fun r => r.seq == seq) = none) : s.resend pf seq = s.setBit .hcxErr pf 4 := by
  have hseq' : seq % 2 ^ 32 = seq := Nat.mod_eq_of_lt hseq
  unfold State.resend
  dsimp only
  rw [hseq', if_neg (by simp [hreach]), if_neg (by simp [hserving, hparked]), hcache]

end

/-! ### DMA -/

section
variable {s : State} {pf : Nat} {v : Serving} (hserving : (s.fn pf).serving = some v) (hawait : v.awaitDma = true)
include hserving hawait

theorem dmaCompletion_data (b : Bytes) : s.dmaCompletion pf (some b) = (s.dataCome pf b).pump := by
  simp only [State.dmaCompletion, hserving, hawait, Bool.not_true, Bool.false_eq_true, if_false]

theorem dmaCompletion_retry {a l : Nat} (hread : readOf v.cmd = some (a, l)) (hretried : v.retried = false) :
    s.dmaCompletion pf none = (s.updFn pf fun f => { f with serving := some { v with retried := true } }).emit (.dmaRead pf a l) := by
  simp only [State.dmaCompletion, hserving, hawait, hread, hretried, Bool.not_true, Bool.false_eq_true, if_false]

theorem dmaCompletion_fails {a l : Nat} (hread : readOf v.cmd = some (a, l)) (hretried : v.retried = true) :
    s.dmaCompletion pf none = (s.transferFails pf .refused).pump := by
  simp only [State.dmaCompletion, hserving, hawait, hread, hretried, Bool.not_true, Bool.false_eq_true, if_false, if_true]

end

/-! ### Function-level reset -/

section
variable {s : State} {c : Nat} (hc : c < s.ctxs.length)
include hc

theorem voidCore_voiding (cause : Status) : ((s.voidCore c cause).ctx c).st = .voiding := by
  obtain ⟨t, hsteady, heq⟩ := voidCore_spec s c cause
  rw [heq, ctx_updCtx_same (by rwa [hsteady.ctxCount])]
  rfl

theorem finishVoid_not_live (hst : (s.ctx c).st = .voiding) : ctxLive ((s.finishVoid c).ctx c).st = false := by
  by_cases h : (s.ctx c).gather = []
  · cases hsign : s.signCose (s.claims c 1 (s.ctx c).hold .null).encode with
    | none =>
      rw [finishVoid_waits hst h hsign, (steady_noteWait ..).ctx, hst]
      rfl
    | some ct =>
      have hlen : c < ct.2.ctxs.length := by rwa [(steady_signCose hsign).ctxCount]
      rw [finishVoid_signed hst h hsign, voidEnds_voided hlen]
      rfl
  · rw [finishVoid_other fun h' => h h'.2, hst]
    rfl

theorem voidLocal_not_live (cause : Status) : ctxLive ((s.voidLocal c cause).ctx c).st = false := by
  unfold State.voidLocal
  split
  next hdead => simpa using hdead
  next => exact finishVoid_not_live (by rwa [(calm_voidCore s c cause).ctxCount]) (voidCore_voiding hc cause)

/-- A void leaves no live harvest in its context (R382). -/
theorem voidCtx_not_live (cause : Status) : ctxLive ((s.voidCtx c cause).ctx c).st = false := by
  unfold State.voidCtx
  split
  next hdead => simpa using hdead
  next =>
    dsimp only
    split
    · exact voidLocal_not_live (by rwa [(steady_ctlAll ..).ctxCount]) cause
    · exact voidLocal_not_live hc cause

end

theorem steady_loadReset (s : State) : steady s s.loadReset := by
  unfold State.loadReset
  split
  · exact .refl s
  · split
    · exact steady_abortLoad ..
    · exact steady_of_same rfl rfl rfl rfl rfl rfl ⟨rfl, rfl, rfl, rfl⟩

/-- A function reset is a new one, with an empty queue and no live harvest (R610). -/
theorem resetFn_spec {s : State} {n : Nat} (hfns : n < s.fns.length) (hqueues : n < s.queues.length) (hctxs : n < s.ctxs.length) :
    (s.resetFn n).fn n = {} ∧ (s.resetFn n).queue n = {} ∧ ctxLive ((s.resetFn n).ctx n).st = false := by
  have hvoid := calm_voidCtx s n .voided
  have hlive := voidCtx_not_live hctxs .voided
  unfold State.resetFn
  extract_lets voided second third fourth
  have hsecond : steady voided second := by
    unfold second
    split
    · exact steady_loadReset voided
    · exact .refl voided
  have hfn : second.fns.length = s.fns.length := hsecond.fnCount.trans hvoid.fnCount
  have hqueue : second.queues.length = s.queues.length := hsecond.queueCount.trans hvoid.queueCount
  refine ⟨getD_updAt_same (hfn ▸ hfns) _ _, getD_updAt_same (hqueue ▸ hqueues) _ _, ?_⟩
  change ctxLive (second.ctx n).st = false
  rw [hsecond.ctx]
  exact hlive

/-! ### Bus mastering -/

theorem pbaOnly_repause (s : State) (c : Nat) (f : Ctx → Ctx) : pbaOnly s (s.repause c f) := by
  have hupd : pbaOnly s (s.updCtx c f) := pbaOnly_of_fns rfl
  unfold State.repause
  dsimp only
  split
  · exact hupd
  · exact hupd.trans (pbaOnly_event ..)

theorem steady_repause (s : State) (c : Nat) (f : Ctx → Ctx) : steady (s.updCtx c f) (s.repause c f) := by
  unfold State.repause
  dsimp only
  split
  · exact .refl _
  · exact steady_event ..

theorem lt_ctxs_of_live {s : State} {c : Nat} (h : ctxLive (s.ctx c).st = true) : c < s.ctxs.length := by
  by_contra hc
  rw [State.ctx, List.getD_eq_default _ _ (Nat.le_of_not_lt hc)] at h
  cases h

/-- The cause of a pause in a harvest of this device alone (R354). -/
theorem ownPauseSet_alone {s : State} {c : Nat} {f : Ctx → Ctx} (hlive : ctxLive (s.ctx c).st = true)
    (hquad : (f (s.ctx c)).quad = false) (back : Bool) : s.ownPauseSet c back f = s.repause c f := by
  have hquad' : ((s.repause c f).ctx c).quad = false := by
    rw [(steady_repause s c f).ctx, ctx_updCtx_same (lt_ctxs_of_live hlive), hquad]
  unfold State.ownPauseSet
  dsimp only
  rw [if_pos hlive, hquad', if_pos (by simp)]

/-- A function without Bus Master Enable (R611). -/
def unmastered (d3 : Bool) (f : Fn) : Fn := { f with bme := false, mse := f.mse && !d3 }

theorem unmastered_serving (s : State) (pf : Nat) (d3 : Bool) :
    ((s.updFn pf (unmastered d3)).fn pf).serving = (s.fn pf).serving := by
  by_cases hpf : pf < s.fns.length
  · rw [fn_updFn_same hpf]
    rfl
  · have hpf' := Nat.le_of_not_lt hpf
    rw [State.fn, State.fn, List.getD_eq_default _ _ hpf', List.getD_eq_default _ _ (by simpa [State.updFn] using hpf')]

section
variable {s : State} {pf : Nat} (hpcie : s.pcieAnswers = true)
include hpcie

theorem masterClear_closed (hlive : ctxLive (s.ctx pf).st = false) (hserving : (s.fn pf).serving = none) (d3 : Bool) :
    s.masterClear pf d3 = (s.updFn pf fun f => { f with bme := false, mse := f.mse && !d3 }).pump := by
  have hlive' : ctxLive ((s.updFn pf (unmastered d3)).ctx pf).st = false := hlive
  have hserving' := (unmastered_serving s pf d3).trans hserving
  unfold unmastered at hlive' hserving'
  unfold State.masterClear
  rw [hpcie, if_neg (by simp)]
  dsimp only
  rw [hlive', if_neg Bool.false_ne_true, hserving']

theorem masterClear_live (hlive : ctxLive (s.ctx pf).st = true) (hserving : (s.fn pf).serving = none) (hquad : (s.ctx pf).quad = false)
    (d3 : Bool) :
    s.masterClear pf d3 =
      ((s.updFn pf fun f => { f with bme := false, mse := f.mse && !d3 }).repause pf fun x => { x with pauseBme := true }).pump := by
  have hlive' : ctxLive ((s.updFn pf (unmastered d3)).ctx pf).st = true := hlive
  have hpaused := ownPauseSet_alone (f := fun x => { x with pauseBme := true }) hlive' hquad false
  have hserving' : (((s.updFn pf (unmastered d3)).repause pf fun x => { x with pauseBme := true }).fn pf).serving = none := by
    rw [(pbaOnly_repause ..).fn]
    exact (unmastered_serving s pf d3).trans hserving
  unfold unmastered at hlive' hserving' hpaused
  unfold State.masterClear
  rw [hpcie, if_neg (by simp)]
  dsimp only
  rw [hlive', if_pos rfl, hpaused, hserving']

theorem masterSet_closed (hlive : ctxLive (s.ctx pf).st = false) (d0 : Bool) :
    s.masterSet pf d0 = (s.updFn pf fun f => { f with bme := true, mse := f.mse || d0 }).goOn := by
  unfold State.masterSet
  rw [hpcie, if_neg (by simp)]
  exact congrArg State.goOn (if_neg (ne_true_of_eq_false hlive))

end

/-- Settles O50. -/
theorem mailboxRowsRun : Obligations.MailboxRowsRun := by
  unfold Obligations.MailboxRowsRun
  refine fun pf s => ⟨fun off data hreach hlo hhi hne hoff hlen => ?whole, fun off data whole hreach hlo hhi hne => ?broken,
    fun t hreach hlimit ht hpos hle => ?covers, fun t hreach h => ?again, fun t single hreach h => ?out,
    fun seq r hreach hseq hserving hparked hcache hlo hhi => ?cached, fun seq hreach hseq hserving hparked hcache => ?unknown,
    fun v hserving hawait => ⟨fun b => ?data, fun a l hread hretried => ?retry, fun a l hread hretried => ?fails⟩,
    fun hpcie => ⟨?reset, fun hfns hqueues hctxs => resetFn_spec hfns hqueues hctxs⟩, fun d3 hpcie hlive hserving => ?clearClosed,
    fun d3 hpcie hlive hserving hquad => ?clearLive, fun d0 hpcie hlive => ?set⟩
  case whole => exact answers (i := .mailboxWrite pf off data true false) rfl (mailboxWrite_whole hreach hlo hhi hne hoff hlen)
  case broken => exact answers (i := .mailboxWrite pf off data whole true) rfl (mailboxWrite_broken hreach hlo hhi hne whole)
  case covers => exact answersAfter (i := .mbDoorbell pf t true false) rfl (doorbell_covers hreach hlimit ht hpos hle)
  case again => exact answersAfter (i := .mbDoorbell pf t true false) rfl (doorbell_again hreach h)
  case out => exact answersAfter (i := .mbDoorbell pf t single false) rfl (doorbell_out hreach h single)
  case cached => exact answers (i := .mbResend pf seq) rfl (resend_cached hreach hseq hserving hparked hcache hlo hhi)
  case unknown => exact answers (i := .mbResend pf seq) rfl (resend_unknown hreach hseq hserving hparked hcache)
  case data => exact answersAfter (i := .dmaCompletion pf (some b)) rfl (dmaCompletion_data hserving hawait b)
  case retry => exact answersAfter (i := .dmaCompletion pf none) rfl (dmaCompletion_retry hserving hawait hread hretried)
  case fails => exact answersAfter (i := .dmaCompletion pf none) rfl (dmaCompletion_fails hserving hawait hread hretried)
  case reset => exact answersAfter (i := .functionLevelReset pf) rfl (if_pos hpcie)
  case clearClosed => exact answersAfter (i := .busMasterClear pf d3) rfl (masterClear_closed hpcie hlive hserving d3)
  case clearLive => exact answersAfter (i := .busMasterClear pf d3) rfl (masterClear_live hpcie hlive hserving hquad d3)
  case set => exact answersAfter (i := .busMasterSet pf d0) rfl (masterSet_closed hpcie hlive d0)

end Sys2Proof.Machine
end

/-! The rows of a harvest (R265 to R401): the Assay, adds, masks, reconstruction, the freeze, the share window, step reports,
the seal. -/
section
namespace Sys2Proof.Machine

open Sys2Proof

theorem updCtx_congr {s : State} {c : Nat} {f g : Ctx → Ctx} (h : f (s.ctx c) = g (s.ctx c)) : s.updCtx c f = s.updCtx c g :=
  congrArg (fun ctxs => ({ s with ctxs := ctxs } : State)) (updAt_congr (d := {}) h)

/-! ### The Ringer and replies to the host leave contexts alone -/

theorem steady_ringer (s : State) (r : Ringer) : steady s { s with ringer := r } := steady_of_same rfl rfl rfl rfl rfl rfl ⟨rfl, rfl, rfl, rfl⟩

theorem steady_makeReady (s : State) (t deadline : Nat) : steady s (s.makeReady t deadline) := by
  have hirq (u : State) (k : Nat) : steady u (u.dispatchIrq k) := by
    unfold State.dispatchIrq
    split
    · split
      · exact steady_ringer u _
      · exact .refl u
    · exact .refl u
  unfold State.makeReady
  extract_lets ready
  have hready : steady s ready := steady_ringer s _
  exact (hready.trans (steady_ringer ready _)).trans (hirq _ _)

theorem steady_wakeWaiters (s : State) : steady s s.wakeWaiters := by
  refine steady_foldl (fun t n => ?_) _ _
  split
  · exact steady_makeReady ..
  · exact .refl t

theorem steady_putItem (s : State) (cls flow ctx kind : Nat) (payload : Bytes) : steady s (s.putItem cls flow ctx kind payload) :=
  ((steady_ringer s _).trans (steady_count ..)).trans (steady_wakeWaiters _)

theorem steady_frameOut (s : State) (q : Nat) (fr : Bytes) : steady s (s.frameOut q fr) := by
  unfold State.frameOut
  split
  · exact .refl s
  · dsimp only
    split
    · exact ((steady_emit ..).trans (steady_count ..)).trans (steady_bump ..)
    · exact (steady_emit ..).trans (steady_count ..)

theorem steady_releaseFlow (flow n : Nat) : ∀ s : State, steady s (s.releaseFlow flow n) := by
  induction n with
  | zero => exact fun s => .refl s
  | succ n ih =>
    intro s
    unfold State.releaseFlow
    split
    · exact .refl s
    · split
      · exact .refl s
      · split
        · exact .refl s
        · extract_lets ringer first second
          have hsecond : steady first second := by
            unfold second
            split
            · exact steady_frameOut ..
            · exact steady_putItem ..
          exact ((steady_ringer s _).trans hsecond).trans (ih second)

theorem steady_hostReply (s : State) (pf k : Nat) (r : Bytes) : steady s (s.hostReply pf k r) := by
  have hout (addr : Nat) (d : Bytes) : steady s (s.dmaOut pf addr d) := by
    unfold State.dmaOut
    split
    · exact steady_emit ..
    · exact .refl s
  unfold State.hostReply
  split
  · exact .refl s
  · split
    · exact .refl s
    · dsimp only
      split
      · exact ((hout _ _).trans (steady_updFn ..)).trans (steady_finish ..)
      · exact (hout _ _).trans (steady_updFn ..)

theorem steady_endAdd (s : State) (c slot : Nat) : steady s (s.endAdd c slot) := (steady_ringer s _).trans (steady_wakeWaiters _)

/-! ### Ledger bytes -/

/-- A slot's byte, written where it is homed, is the byte read (R389). -/
theorem ledgerByte_setLedger {c : Ctx} {i b : Nat} (hhome : homedHere c i = true) (hb : b ≠ 0) : ledgerByte (setLedger c i b) i = b := by
  have hput : (setLedger c i b).ledger = insertN c.ledger i b := by simp [setLedger, putByte, hhome, hb]
  rw [ledgerByte, hput, lookupN_insertN_same]
  rfl

theorem ledStatus_setStatus {c : Ctx} {i st : Nat} (hhome : homedHere c i = true) (hst : st % 4 = st) (hpos : st ≠ 0) :
    ledStatus (ledgerByte (setStatus c i st) i) = st := by
  have hbits : bitsOf (setBits (ledgerByte c i) 1 0 st) 1 0 = st := by
    rw [bitsOf_setBits_same _ _ (by decide)]
    exact hst
  have hne : setBits (ledgerByte c i) 1 0 st ≠ 0 := by
    intro hzero
    rw [hzero] at hbits
    exact hpos hbits.symm
  rw [setStatus, ledgerByte_setLedger hhome hne]
  exact hbits

theorem homedHere_setLedger (c : Ctx) (i b j : Nat) : homedHere (setLedger c i b) j = homedHere c j := by
  obtain ⟨l, g, k, h⟩ := setLedger_spec c i b
  rw [h]
  rfl

/-- Two contexts with the same ledger bytes and slot contexts. -/
def sameSlots (x y : Ctx) : Prop := y.ledger = x.ledger ∧ y.gathered = x.gathered ∧ y.slots = x.slots

theorem sameSlots.trans {x y z : Ctx} (h : sameSlots x y) (h' : sameSlots y z) : sameSlots x z :=
  ⟨h'.1.trans h.1, h'.2.1.trans h.2.1, h'.2.2.trans h.2.2⟩

theorem sameSlots.ledgerByte {x y : Ctx} (h : sameSlots x y) (i : Nat) : ledgerByte y i = ledgerByte x i := by
  obtain ⟨hl, hg, -⟩ := h
  simp [Machine.ledgerByte, hl, hg]

theorem sameSlots.slotCtx {x y : Ctx} (h : sameSlots x y) (i : Nat) : slotCtx y i = slotCtx x i := by
  obtain ⟨-, -, hs⟩ := h
  simp [Machine.slotCtx, hs]

theorem slotCtx_filtered (l : List SlotCtx) (slot : Nat) : (l.filter fun e => e.slot != slot).find? (fun e => e.slot == slot) = none := by
  refine List.find?_eq_none.2 fun e he hslot => ?_
  obtain ⟨-, hne⟩ := List.mem_filter.1 he
  rw [beq_iff_eq] at hslot
  simp [hslot] at hne

/-! ### Adds -/

section
variable {s : State} {c slot : Nat} (hc : c < s.ctxs.length)
include hc

theorem sameSlots_updCtx {f : Ctx → Ctx} (hf : sameSlots (s.ctx c) (f (s.ctx c))) : sameSlots (s.ctx c) ((s.updCtx c f).ctx c) := by
  rwa [ctx_updCtx_same hc]

theorem sameSlots_sendReceipt (o : Origin) (mac : Bytes) : sameSlots (s.ctx c) ((s.sendReceipt c slot o mac).ctx c) := by
  have hsent {t : State} (h : steady s t) :
      sameSlots (s.ctx c) ((t.updCtx c fun x => { x with receiptsSent := satAdd 32 x.receiptsSent 1 }).ctx c) := by
    rw [ctx_updCtx_same (by rwa [h.ctxCount]), h.ctx]
    exact ⟨rfl, rfl, rfl⟩
  unfold State.sendReceipt
  dsimp only
  split
  · exact hsent (steady_hostReply ..)
  · split
    · exact sameSlots_updCtx hc ⟨rfl, rfl, rfl⟩
    · exact hsent (((steady_putItem ..).trans (steady_ringer _ _)).trans (steady_releaseFlow ..))

/-- An added slot's byte says so, and its slot context is gone (R287, R291). -/
theorem commitAdd_spec (hhome : homedHere (s.ctx c) slot = true) :
    ledStatus (ledgerByte ((s.commitAdd c slot).ctx c) slot) = 2 ∧ slotCtx ((s.commitAdd c slot).ctx c) slot = none := by
  have hdone {x : Ctx} (h : sameSlots { setStatus (s.ctx c) slot 2 with
      slots := (s.ctx c).slots.filter fun e => e.slot != slot, adds := (s.ctx c).adds.filter fun a => a.slot != slot } x) :
      ledStatus (ledgerByte x slot) = 2 ∧ slotCtx x slot = none := by
    rw [h.ledgerByte, h.slotCtx]
    exact ⟨ledStatus_setStatus hhome rfl (by decide), slotCtx_filtered ..⟩
  unfold State.commitAdd
  extract_lets x freed added
  have hfreed : steady s freed := steady_foldl (fun _ _ => steady_updPan ..) _ _
  have hadded : added.ctx c = { setStatus (s.ctx c) slot 2 with
      slots := (s.ctx c).slots.filter fun e => e.slot != slot, adds := (s.ctx c).adds.filter fun a => a.slot != slot } := by
    refine ((steady_endAdd _ c slot).ctx c).trans ?_
    rw [ctx_updCtx_same (by rwa [hfreed.ctxCount]), hfreed.ctx]
  have hlen : c < added.ctxs.length := by
    rw [(steady_endAdd _ c slot).ctxCount, (calm_updCtx freed c _).ctxCount]
    rwa [hfreed.ctxCount]
  rw [← hadded] at hdone
  clear_value added
  split
  · exact hdone ⟨rfl, rfl, rfl⟩
  · split
    · exact hdone ⟨rfl, rfl, rfl⟩
    · extract_lets mac received
      have hreceived : sameSlots (added.ctx c) (received.ctx c) := sameSlots_updCtx hlen ⟨rfl, rfl, rfl⟩
      have hlen' : c < received.ctxs.length := by rwa [(calm_updCtx added c _).ctxCount]
      clear_value received
      split
      · refine hdone (hreceived.trans ?_)
        refine (sameSlots_updCtx hlen' ⟨rfl, rfl, rfl⟩).trans (sameSlots_sendReceipt ?_ _ _)
        rwa [(calm_updCtx received c _).ctxCount]
      · exact hdone hreceived

end

/-! ### The freeze -/

theorem freezeMark_same (c : Ctx) (n : Nat) : sameSlots c (freezeMark c n) := by
  induction n generalizing c with
  | zero => exact ⟨rfl, rfl, rfl⟩
  | succ n ih =>
    unfold freezeMark
    split
    · exact ih _
    · exact ⟨rfl, rfl, rfl⟩

theorem freezeSlot_added {x : Ctx} {slot : Nat} (hadded : isAdded x slot = true) :
    ledgerByte (freezeSlot x slot) slot = ledgerByte x slot := by
  unfold freezeSlot
  dsimp only
  rw [(freezeMark_same _ _).ledgerByte, if_pos hadded]
  rfl

theorem freezeSlot_dropped {x : Ctx} {slot : Nat} (hadded : isAdded x slot = false) (hhome : homedHere x slot = true) :
    isDropped (freezeSlot x slot) slot = true ∧ slotCtx (freezeSlot x slot) slot = none := by
  have hhome' : homedHere (setGranted x slot false) slot = true := (homedHere_setLedger ..).trans hhome
  have hstatus := ledStatus_setStatus (st := 3) hhome' rfl (by decide)
  unfold freezeSlot isDropped
  dsimp only
  rw [(freezeMark_same _ _).ledgerByte, (freezeMark_same _ _).slotCtx, if_neg (ne_true_of_eq_false hadded)]
  refine ⟨?_, slotCtx_filtered ..⟩
  change (ledStatus (ledgerByte (setStatus (setGranted x slot false) slot 3) slot) == 3) = true
  rw [hstatus]
  rfl

/-! ### Rows, each in the state that allows it -/

section
variable {s : State} {c : Nat}

theorem assayRecord_first {r : Bytes} (hst : (s.ctx c).st = .settling) (hstep : (s.ctx c).step = 6) (hassay : (s.ctx c).assay = none) :
    s.assayRecord c r =
      s.updCtx c fun x => { x with assay := some (padTo 32 r), assayMet := assayHolds (s.ctx c) (padTo 32 r) } := by
  unfold State.assayRecord
  dsimp only
  rw [if_pos (by simp [hst, hstep, hassay])]
  exact updCtx_congr rfl

section
variable {slot : Nat} {tally : Option (Nat × Upset)} (hlive : ctxLive (s.ctx c).st = true) (hissued : (addEntry (s.ctx c) slot).issued = true)
  (hctx : (slotCtx (s.ctx c) slot).isSome = true) (hdone : s.allDone c slot = true)
include hlive hissued hctx hdone

theorem addCommit_good (hquad : (s.ctx c).quad = false) (hgood : tallyOk (s.ctx c) slot tally = true) :
    s.addCommit c slot tally = (if tally.any fun e => e.1 / 8 == slot / 8 then s.classCount 0 else s).commitAdd c slot := by
  unfold State.addCommit
  dsimp only
  rw [if_neg (by rw [Option.isSome_iff_ne_none] at hctx; simp [hlive, hissued, hctx, hdone]), tallyRead_good _ hgood, hquad, if_pos (by simp)]

theorem addCommit_bad (hbad : tallyOk (s.ctx c) slot tally = false) : s.addCommit c slot tally = s.fatalVoid c 5 0 slot := by
  unfold State.addCommit
  dsimp only
  rw [if_neg (by rw [Option.isSome_iff_ne_none] at hctx; simp [hlive, hissued, hctx, hdone]), tallyRead_bad _ hbad]

end

theorem addBackout_goes {slot chunk : Nat} {fails : Bool} {e : SlotCtx} (hlive : ctxLive (s.ctx c).st = true)
    (hissued : (addEntry (s.ctx c) slot).issued = true) (hctx : slotCtx (s.ctx c) slot = some e) (hlost : s.chunkLost e chunk = true)
    (hback : ((s.pansOf c).any fun p => (s.pan p).commit.slot == slot && (s.pan p).commit.st == .backout) = true)
    (hheld : s.backoutHeld c slot = false) (hquad : (s.ctx c).quad = false) (hlast : e.last = none) :
    s.addBackout c slot chunk fails =
      if ctxLive ((s.backout c slot fails).ctx c).st = true then
        (s.backout c slot fails).updCtx c fun x => { x with
          slots := x.slots.map fun e => if e.slot == slot then { e with digests := eraseN e.digests chunk } else e }
      else s.backout c slot fails := by
  unfold State.addBackout
  dsimp only
  rw [hctx]
  dsimp only
  rw [if_neg (by simp [hlive, hissued, hlost, hback]), hheld, if_neg Bool.false_ne_true, hlast, hquad]
  cases ctxLive ((s.backout c slot fails).ctx c).st with
  | true => rfl
  | false => rfl

theorem issueSeed_goes {o i : Nat} {z : Bytes} (hst : (s.ctx c).st = .unmasking) (hpause : paused (s.ctx c) = false)
    (hrecon : s.reconstructs c = true) (hsums : s.sumsMerged c = true) (hall : allResolved (s.ctx c) = true) (hroom : s.seedRoom c = true)
    (hnext : nextMask (s.ctx c) = some (o, i, z)) (hlost : i ≠ o → s.rosterLost c i = false) :
    s.issueSeed c =
      let x := s.ctx c
      let t := s.updCtx c fun x => { x with
        nextTag := (s.ctx c).nextTag + 1
        masks := x.masks ++ [{ tag := (s.ctx c).nextTag, owner := o, neighbour := i, sub := i ≤ o, seed := maskSeed (s.ctx c) o i z }]
        issuedCount := x.issuedCount + 1 }
      let u := (if i = o then t else t.count .khdCurve 0 1).seedToPans c x.nextTag (i ≤ o) (maskSeed x o i z)
      if hvMode x = 1
      then u.ctlAll .ledgerSeed (leBytes 4 x.nextTag ++ [BitVec.ofNat 8 (b2n (i ≤ o))] ++ maskSeed x o i z) else u := by
  have hkept : ¬ (i ≠ o ∧ s.rosterLost c i = true) := fun h => by simp [hlost h.1] at h
  unfold State.issueSeed
  dsimp only
  rw [if_neg (by simp [hst, hpause, hrecon, hsums, hall, hroom]), hnext]
  dsimp only
  rw [if_neg hkept]

theorem maskEntryDone_more {p : Nat} {ups : List (Nat × Upset)} {t : State} (h : s.expandEntry p ups = (none, t)) :
    s.maskEntryDone p ups = t := by
  simp only [State.maskEntryDone, h]

theorem maskEntryDone_ends {p k tag : Nat} {ups : List (Nat × Upset)} {t : State} (h : s.expandEntry p ups = (some (k, tag), t))
    (hrecon : ((t.updCtx k fun x => maskDone x tag t.power.pos p).feedSeed k).reconstructs k = true) :
    s.maskEntryDone p ups =
      (((t.updCtx k fun x => maskDone x tag t.power.pos p).feedSeed k).maskRemoved k tag).checkUnmasked k := by
  simp only [State.maskEntryDone, h, hrecon, if_true]

section
variable {o : Nat} (hst : (s.ctx c).st = .unmasking) (hpause : paused (s.ctx c) = false) (hrecon : s.reconstructs c = true)
  (hsums : s.sumsMerged c = true) (ho : o < rosterN (s.ctx c)) (hneeded : isNeeded (s.ctx c) o = true)
  (hresolved : isResolved (s.ctx c) o = false)
  (hbusy : ((s.ctx c).recons.any fun r => r.running.isSome && s.reconRank c r.owner == s.reconRank c o) = false)
include hst hpause hrecon hsums ho hneeded hresolved hbusy

theorem reconStart_next {m : Nat} {l : List Share}
    (hnext : nextAttempt (s.ctx c) o (reconOf (s.ctx c) o).attempts = some (m, l)) :
    s.reconStart c o =
      (s.updCtx c fun x => setRecon x { reconOf (s.ctx c) o with attempts := m, running := some (l.map (·.x)) }).updPan
        (s.reconPan c o) fun q => { q with recon := some { owner := o, set_ := l.map fun e => (e.x, e.y) } } := by
  unfold State.reconStart
  dsimp only
  rw [if_neg (by simp [hst, hpause, hrecon, hsums, ho, hneeded, hresolved, hbusy]), hnext]
  exact congrArg (State.updPan · _ _) (updCtx_congr rfl)

theorem reconStart_none (hnext : nextAttempt (s.ctx c) o (reconOf (s.ctx c) o).attempts = none) :
    s.reconStart c o = (s.recoveryFailed c o).checkUnmasked c := by
  unfold State.reconStart
  dsimp only
  rw [if_neg (by simp [hst, hpause, hrecon, hsums, ho, hneeded, hresolved, hbusy]), hnext]

end

/-- The limbs that a Pan holds for a reconstruction (R319). -/
def State.limbsOf (s : State) (c o : Nat) : List (Nat × Bytes) := match (s.pan (s.reconPan c o)).recon with | some r => r.set_ | none => []

/-- An attempt's work is counted, and its Pan is free for the next (R321). -/
def State.attempted (s : State) (c o : Nat) : State :=
  s.updPan (s.reconPan c o) fun q => { countWork q 2 (reconShakes (hvT (s.ctx c))) with recon := none }

theorem reconDone_eq {o : Nat} {tally : Option (Nat × Upset)} (hst : (s.ctx c).st = .unmasking)
    (hrunning : (reconOf (s.ctx c) o).running.isSome = true) :
    s.reconDone c o tally = (s.attempted c o).tallyRead c o tally fun t => t.reconResult c o (joinLimbs (s.limbsOf c o)) := by
  unfold State.reconDone
  refine (if_neg ?_).trans rfl
  rw [Option.isSome_iff_ne_none] at hrunning
  simp [hst, hrunning]

/-- The curve operation of a check against a public key is counted (R320). -/
def State.reconCounted (s : State) (c o : Nat) (z : Option Bytes) : State :=
  if z.isSome && ledReveal (ledgerByte (s.ctx c) o) == 2 then s.count .khdCurve 0 1 else s

theorem reconCounted_verifies (s : State) (c o : Nat) (z : Option Bytes) : (s.reconCounted c o z).verifies c o = s.verifies c o := by
  unfold State.reconCounted
  split <;> rfl

theorem reconResult_verified {o : Nat} {z : Option Bytes} (hz : z.any (s.verifies c o) = true) :
    s.reconResult c o z = ((s.reconCounted c o z).updCtx c fun x =>
      { setRecon (setLedger x o (setBits (ledgerByte x o) 4 4 1)) { reconOf (s.ctx c) o with running := none, secret := z } with
        shares := x.shares.filter fun e => e.owner != o }).tellByte c o := by
  rw [← reconCounted_verifies s c o z] at hz
  unfold State.reconResult
  exact if_pos hz

theorem reconResult_again {o : Nat} {z : Option Bytes} (hz : z.any (s.verifies c o) = false)
    (hnext : (nextAttempt (s.ctx c) o (reconOf (s.ctx c) o).attempts).isSome = true) :
    s.reconResult c o z = (s.reconCounted c o z).updCtx c fun y => setRecon y { reconOf (s.ctx c) o with running := none } := by
  have hmore : ¬ (nextAttempt (s.ctx c) o (reconOf (s.ctx c) o).attempts).isNone = true := by
    rw [Option.isSome_iff_ne_none] at hnext
    simpa using hnext
  rw [← reconCounted_verifies s c o z] at hz
  unfold State.reconResult
  exact (if_neg (ne_true_of_eq_false hz)).trans (if_neg hmore)


section
variable {o : Nat} {tally : Option (Nat × Upset)} (hst : (s.ctx c).st = .unmasking)
  (hrunning : (reconOf (s.ctx c) o).running.isSome = true)
include hst hrunning

theorem reconDone_good (hgood : tallyOk (s.ctx c) o tally = true) :
    s.reconDone c o tally =
      (if tally.any fun e => e.1 / 8 == o / 8 then (s.attempted c o).classCount 0 else s.attempted c o).reconResult c o
        (joinLimbs (s.limbsOf c o)) := (reconDone_eq hst hrunning).trans (tallyRead_good _ hgood)

theorem reconDone_bad (hbad : tallyOk (s.ctx c) o tally = false) :
    s.reconDone c o tally = (s.attempted c o).fatalVoid c 5 0 o := (reconDone_eq hst hrunning).trans (tallyRead_bad _ hbad)

end

section
variable {slot : Nat} {tally : Option (Nat × Upset)} (hst : (s.ctx c).st = .gathering) (hfreezing : (s.ctx c).freezing = true)
  (hslot : slot < rosterN (s.ctx c)) (hpast : pastFreeze (s.ctx c) slot = false) (hheld : s.flowHeld c slot = false)
  (hitems : s.flowItems (flowId c slot) = [])
include hst hfreezing hslot hpast hheld hitems

theorem freezeServe_eq : s.freezeServe c slot tally = s.tallyRead c slot tally fun t =>
    let u := t.updCtx c fun x => freezeSlot x slot
    if (u.ctx c).frozenUpTo = rosterN (s.ctx c) then u.freezeEnds c else u := by
  unfold State.freezeServe
  exact if_neg (by simp [hst, hfreezing, hslot, hpast, hheld, hitems])

theorem freezeServe_good (hgood : tallyOk (s.ctx c) slot tally = true) :
    s.freezeServe c slot tally =
      let t := (if tally.any fun e => e.1 / 8 == slot / 8 then s.classCount 0 else s).updCtx c fun x => freezeSlot x slot
      if (t.ctx c).frozenUpTo = rosterN (s.ctx c) then t.freezeEnds c else t :=
  (freezeServe_eq hst hfreezing hslot hpast hheld hitems).trans (tallyRead_good _ hgood)

theorem freezeServe_bad (hbad : tallyOk (s.ctx c) slot tally = false) : s.freezeServe c slot tally = s.fatalVoid c 5 0 slot :=
  (freezeServe_eq hst hfreezing hslot hpast hheld hitems).trans (tallyRead_bad _ hbad)

end

/-- A report that its own device's Keyhold collects and takes (R397, R399). -/
theorem reportHere_takes {p : Nat} {r : Bytes} (hst : (s.ctx c).st = .settling) (hhold : (s.ctx c).hold = 0) (hlow : 2 ≤ (s.ctx c).step)
    (hhigh : (s.ctx c).step ≤ 6) (hok : s.reportOk c (padTo 32 r) = true) (hpan : (s.pansOf c).contains p = true)
    (hfits : s.reportFits c p (padTo 32 r) = true)
    (htotal : ((s.ctx c).reports.map fun e => leAt e.2.2 16 4).sum + leAt (padTo 32 r) 16 4 ≤ 2 ^ 31)
    (hnew : ((s.ctx c).reports.any fun e => e.1 == s.power.pos && e.2.1 == p) = false) (hquad : (s.ctx c).quad = false) :
    s.reportHere c p r = (s.updCtx c fun x => { x with
      reports := x.reports ++ [(s.power.pos, p, padTo 32 r)]
      noiseLacks :=
        if !(s.pan p).noiseDone && (s.ctx c).step == 2 && !(s.ctx c).noiseLacks.contains s.power.pos
        then x.noiseLacks ++ [s.power.pos] else x.noiseLacks }).settleAdvance c := by
  have hrecon : s.reconstructs c = true := by simp [State.reconstructs, hquad]
  have hlow' : ¬ (s.ctx c).step < 2 := by omega
  have hhigh' : ¬ 6 < (s.ctx c).step := by omega
  have htotal' : ¬ 2 ^ 31 < ((s.ctx c).reports.map fun e => leAt e.2.2 16 4).sum + leAt (padTo 32 r) 16 4 := by omega
  have hpan' : p ∈ s.pansOf c := List.contains_iff_mem.1 hpan
  have hcollected : s.reportHere c p r = s.stepReport c s.power.pos p (!(s.pan p).noiseDone) (padTo 32 r) := by
    unfold State.reportHere
    exact (if_neg (by simp [hst, hpan', hfits])).trans (if_pos hrecon)
  rw [hcollected]
  unfold State.stepReport
  refine (if_neg ?_).trans (congrArg (State.settleAdvance · c) (updCtx_congr rfl))
  simp only [hst, hhold, hlow', hhigh', hok, hpan, htotal', hnew]
  decide

section
variable {tally : Option (Nat × Upset)} (hsettles : s.settles c = true) (hstep : (s.ctx c).step = 8)
include hsettles hstep

theorem resultSeal_good {data : Bytes} (hquad : (s.ctx c).quad = false)
    (hgood : ((slotList (s.ctx c)).all fun i => tallyOk (s.ctx c) i tally) = true)
    (hdata : (if tally.any fun (e : Nat × Upset) => decide (e.1 < rosterN (s.ctx c)) then s.classCount 0 else s).resultData c = some data) :
    s.resultSeal c tally =
      match (if tally.any fun (e : Nat × Upset) => decide (e.1 < rosterN (s.ctx c)) then s.classCount 0 else s).sealAndSign c data with
      | none => (if tally.any fun (e : Nat × Upset) => decide (e.1 < rosterN (s.ctx c)) then s.classCount 0 else s).noteWait 0
      | some ((r, cert), u) => u.release c r cert := by
  have hlegal : ¬ ((slotList (s.ctx c)).any fun i => !tallyOk (s.ctx c) i tally) = true := by
    rw [List.all_eq_true] at hgood
    simpa using hgood
  unfold State.resultSeal
  refine (if_neg (by simp [hsettles, hstep])).trans ((if_neg hlegal).trans ?_)
  dsimp only
  rw [hdata]
  dsimp only
  cases (if tally.any fun (e : Nat × Upset) => decide (e.1 < rosterN (s.ctx c)) then s.classCount 0 else s).sealAndSign c data with
  | none => rfl
  | some e => exact if_pos (by rw [hquad]; rfl)

theorem resultSeal_bad (hbad : ((slotList (s.ctx c)).all fun i => tallyOk (s.ctx c) i tally) = false) :
    s.resultSeal c tally = s.fatalVoid c 5 0 0 := by
  unfold State.resultSeal
  refine (if_neg (by simp [hsettles, hstep])).trans (if_pos ?_)
  rw [List.all_eq_false] at hbad
  simpa using hbad

end

/-- The sealed result is made with an ephemeral key that the DRBG gave (R401). -/
theorem sealAndSign_drawn {data r cert : Bytes} {u : State} (h : s.sealAndSign c data = some ((r, cert), u)) :
    ∃ eph t, s.draw 0 32 = some (eph, t) ∧ r = sealResult (s.ctx c) c eph data := by
  unfold State.sealAndSign at h
  split at h
  next => cases h
  next eph t hdraw =>
    refine ⟨eph, t, hdraw, ?_⟩
    obtain ⟨x, -, hx⟩ := Option.map_eq_some_iff.1 h
    exact (congrArg (fun e => e.1.1) hx).symm

/-- RELEASED holds the result and its certificate (R374). -/
theorem release_spec {result cert : Bytes} (hc : c < s.ctxs.length) :
    ((s.release c result cert).ctx c).st = .released ∧ ((s.release c result cert).ctx c).result = result ∧
      ((s.release c result cert).ctx c).cert = cert := by
  unfold State.release
  extract_lets t
  have ht : t.ctx c = _ := ctx_updCtx_same hc _
  have hlen : c < t.ctxs.length := (updAt_length ..).symm ▸ hc
  rw [(steady_finishSettle ..).ctx, ctx_enterState hlen, ht]
  exact ⟨rfl, rfl, rfl⟩

end

/-- Settles O51: each row's conditions select its branch, and the lemma about its operation gives what it leaves. -/
theorem harvestRowsRun : Obligations.HarvestRowsRun := by
  unfold Obligations.HarvestRowsRun
  intro c s
  refine ⟨?assay, ?commit, ?backout, ?seed, ?maskMore, ?maskEnds, ?reconStart, ?reconDone, ?reconResult, ?freeze, ?freezeSlot, ?window,
    ?report, ?resultSeal, ?drawn, ?release⟩
  case assay =>
    intro p r hpan hst hstep hassay
    exact answersAfter (i := .assayRecord c p r) rfl ((if_pos hpan).trans (assayRecord_first hst hstep hassay))
  case commit =>
    intro slot tally hlive hissued hctx hdone hquad
    exact ⟨fun hgood => answersAfter (i := .addCommit c slot tally) rfl (addCommit_good hlive hissued hctx hdone hquad hgood),
      fun hbad => answersAfter (i := .addCommit c slot tally) rfl (addCommit_bad hlive hissued hctx hdone hbad),
      fun hc hhome => commitAdd_spec hc hhome⟩
  case backout =>
    intro slot chunk fails e hlive hissued hctx hlost hback hheld hquad hlast
    exact answersAfter (i := .addBackout c slot chunk fails) rfl (addBackout_goes hlive hissued hctx hlost hback hheld hquad hlast)
  case seed =>
    intro o i z hst hpause hrecon hsums hall hroom hnext hlost
    exact answersAfter (i := .ledgerSeedIssue c) rfl (issueSeed_goes hst hpause hrecon hsums hall hroom hnext hlost)
  case maskMore =>
    intro p ups t h
    exact answersAfter (i := .maskEntryDone p ups) rfl (maskEntryDone_more h)
  case maskEnds =>
    intro p ups k tag t h hrecon
    exact answersAfter (i := .maskEntryDone p ups) rfl (maskEntryDone_ends h hrecon)
  case reconStart =>
    intro o m l hst hpause hrecon hsums ho hneeded hresolved hbusy
    exact ⟨fun hnext => answersAfter (i := .reconAttemptStart c o) rfl
        (reconStart_next hst hpause hrecon hsums ho hneeded hresolved hbusy hnext),
      fun hnext => answersAfter (i := .reconAttemptStart c o) rfl
        (reconStart_none hst hpause hrecon hsums ho hneeded hresolved hbusy hnext)⟩
  case reconDone =>
    intro o tally hst hrunning
    exact ⟨fun hgood => answersAfter (i := .reconAttemptDone c o tally) rfl (reconDone_good hst hrunning hgood),
      fun hbad => answersAfter (i := .reconAttemptDone c o tally) rfl (reconDone_bad hst hrunning hbad)⟩
  case reconResult =>
    intro o z
    exact ⟨fun hz => reconResult_verified hz, fun hz hnext => reconResult_again hz hnext⟩
  case freeze =>
    intro slot tally hst hfreezing hslot hpast hheld hitems
    exact ⟨fun hgood => answersAfter (i := .freezeItemServe c slot tally) rfl
        (freezeServe_good hst hfreezing hslot hpast hheld hitems hgood),
      fun hbad => answersAfter (i := .freezeItemServe c slot tally) rfl (freezeServe_bad hst hfreezing hslot hpast hheld hitems hbad)⟩
  case freezeSlot => exact fun x slot => ⟨freezeSlot_added, freezeSlot_dropped⟩
  case window =>
    intro hst hon hleft hpause
    exact answersAfter (i := .shareWindowExpire c) rfl (if_pos (by simp [hst, hon, hleft, hpause]))
  case report =>
    intro p r hst hhold hlow hhigh hok hpan hfits htotal hnew hquad
    exact answersAfter (i := .stepReport c p r) rfl (reportHere_takes hst hhold hlow hhigh hok hpan hfits htotal hnew hquad)
  case resultSeal =>
    intro data tally hsettles hstep hquad
    exact ⟨fun hgood hdata => answersAfter (i := .resultSeal c tally) rfl (resultSeal_good hsettles hstep hquad hgood hdata),
      fun hbad => answersAfter (i := .resultSeal c tally) rfl (resultSeal_bad hsettles hstep hbad)⟩
  case drawn => exact fun data r cert u h => sealAndSign_drawn h
  case release => exact fun result cert hc => release_spec hc

end Sys2Proof.Machine
end

/-! The Inlets: frames received, admitted and served (O52). -/
section
namespace Sys2Proof.Machine

open Sys2Proof

/-! ### A frame received (Table INL-7) -/

/-- A received frame is counted at its port, with the codewords that RS-FEC corrected in it. -/
def State.rxCounted (s : State) (q : Nat) (f : Bytes) (n : Nat) : State :=
  (((s.updPort q (portNow s.second)).count .inlRxFrames q 1).count .inlRxBytes q f.length).retryCredits.bump .inlFec q 31 0 n

/-- A frame within its port's limit takes one of the second's places (R434). -/
def State.rxTaken (s : State) (q : Nat) (f : Bytes) (n : Nat) : State :=
  (s.rxCounted q f n).updPort q fun p => { p with taken := p.taken + 1 }

/-- What becomes of a frame that passed the MAC, by its kind and the answer to it. -/
def State.rxHandled (s : State) (q : Nat) (f : Bytes) (e : EthIn) (k : RxKind × Bytes) : State :=
  match k.1 with
  | .arp | .nd => s.frameOut q k.2
  | .echo => s.direct q k.2
  | .other => s.bump .inlDrop q 47 32 1
  | .vezil =>
    match s.udpIn q e with
    | none => s
    | some (a, v) =>
      if !vfOk [1, 2, 5] v then s.bump .inlDrop q 31 16 1
      else if vfType v = 5 then s.probe q a v
      else s.admitFrame { port := q, ctx := 0, slot := 0, share := false, bytes := v, len := f.length, addr := a } none

section
variable {s : State} {q : Nat} {f : Bytes}

theorem rxFrame_passes {e : EthIn} {n : Nat} {want : RxKind → Bool} (hlink : (s.port q).link = 2) (hl2 : s.l2Ok q f true = some e)
    (htaken : ((s.rxCounted q f n).port q).taken < 100000000) (hwant : want (s.rxKind q e).1 = true) :
    s.rxFrame q f (some n) want = (s.rxTaken q f n).rxHandled q f e (s.rxKind q e) := by
  unfold State.rxFrame
  refine (if_neg (by simp [hlink])).trans ?_
  simp only [Option.isSome_some, hl2]
  refine (if_neg (by simp [hwant])).trans ((if_neg (Nat.not_le_of_lt htaken)).trans ?_)
  unfold State.rxHandled
  cases (s.rxKind q e).1 <;> rfl

theorem rxHandled_vezil {e : EthIn} {r v : Bytes} {a : ReplyAddr} (hudp : s.udpIn q e = some (a, v)) (hok : vfOk [1, 2, 5] v = true) :
    s.rxHandled q f e (.vezil, r) =
      if vfType v = 5 then s.probe q a v
      else s.admitFrame { port := q, ctx := 0, slot := 0, share := false, bytes := v, len := f.length, addr := a } none := by
  simp only [State.rxHandled, hudp]
  exact if_neg (by simp [hok])

/-- A frame with a codeword that RS-FEC could not correct is counted and dropped (R412). -/
theorem rxFrame_uncorrected {want : RxKind → Bool} (hlink : (s.port q).link = 2) (hwant : want .other = true) :
    s.rxFrame q f none want =
      ((((s.updPort q (portNow s.second)).count .inlRxFrames q 1).count .inlRxBytes q f.length).retryCredits.bump .inlFec q
        63 32 1).bump .inlDrop q 63 48 1 := by
  have hl2 : s.l2Ok q f false = none := by
    unfold State.l2Ok
    exact if_pos rfl
  unfold State.rxFrame
  refine (if_neg (by simp [hlink])).trans ?_
  simp only [Option.isSome_none, hl2]
  exact if_neg (by simp [hwant])

end

/-! ### Serving a frame in its flow -/

/-- The state in which a chunk's rows are tried: the ledger byte of its slot has been read (R393). -/
def State.chunkRead (s : State) (f : Frame) (tally : Option (Nat × Upset)) : State :=
  if s.sameHarvest f then s.tallyRead f.ctx f.slot tally fun t => t else s

/-- A chunk served by the row of Table HVS-8 that fits it. -/
def State.chunkAnswered (s : State) (f : Frame) (t : State) : ChunkStep → State
  | .refuse st h => (t.frameRefuse f st h).frameDone f
  | .resend m => ((t.updCtx f.ctx fun x => { x with receiptsSent := satAdd 32 x.receiptsSent 1 }).frameReply f
      (receiptOf (s.ctx f.ctx) f.slot (vfTag f.bytes) m)).frameDone f
  | .setup => t
  | .open_ k n =>
    match Crypto.gcmOpen k (Crypto.hpkeNonce n (vfChunk f.bytes)) (hvId (s.ctx f.ctx) ++ beBytes 4 f.slot ++
        [BitVec.ofNat 8 (partByte (s.ctx f.ctx))] ++ beBytes 4 (vfChunk f.bytes)) (vfCipher f.bytes) with
    | none => (t.frameRefuse f .authFail .none).frameDone f
    | some pt => t.chunkOpened f pt

theorem chunkAnswered_open (s t : State) (f : Frame) (k n : Bytes) :
    s.chunkAnswered f t (.open_ k n) =
      match Crypto.gcmOpen k (Crypto.hpkeNonce n (vfChunk f.bytes)) (hvId (s.ctx f.ctx) ++ beBytes 4 f.slot ++
          [BitVec.ofNat 8 (partByte (s.ctx f.ctx))] ++ beBytes 4 (vfChunk f.bytes)) (vfCipher f.bytes) with
      | none => (t.frameRefuse f .authFail .none).frameDone f
      | some pt => t.chunkOpened f pt := rfl

section
variable {s : State} {f : Frame} {tally : Option (Nat × Upset)}

/-- A chunk's context is set up where its roster entry can be read alone (Table HVS-8). -/
theorem rosterLost_of_setup (h : s.chunkRows f = .setup) : s.rosterLost f.ctx f.slot = false := by
  unfold State.chunkRows at h
  dsimp only at h
  (repeat' split at h) <;> cases h
  exact eq_false_of_ne_true ‹_›

section
variable (hturn : s.frameTurn f = true)
include hturn

/-- A ledger byte that cannot be read voids the harvest, and the chunk is LATE (R393). -/
theorem chunkServe_voids (hsame : s.sameHarvest f = true) (hlive : ctxLive (s.ctx f.ctx).st = true)
    (hbad : tallyOk (s.ctx f.ctx) f.slot tally = false) :
    s.chunkServe f tally = ((s.fatalVoid f.ctx 5 0 f.slot).frameRefuse f .late .none).frameDone f := by
  unfold State.chunkServe
  exact (if_neg (by simp [hturn])).trans (if_pos (by simp [hsame, hlive, hbad]))

theorem chunkServe_eq (hgood : (s.sameHarvest f && ctxLive (s.ctx f.ctx).st && !tallyOk (s.ctx f.ctx) f.slot tally) = false) :
    s.chunkServe f tally = s.chunkAnswered f (s.chunkRead f tally) ((s.chunkRead f tally).chunkRows f) := by
  unfold State.chunkServe
  refine (if_neg (by simp [hturn])).trans ((if_neg (ne_true_of_eq_false hgood)).trans ?_)
  change (match (s.chunkRead f tally).chunkRows f with | .refuse st h => _ | .resend m => _ | .setup => _ | .open_ k n => _) = _
  cases (s.chunkRead f tally).chunkRows f <;> rfl

section
variable {st : Status} {h : Hint}

theorem shareServe_refuses (hfail : s.batchFail f = some (st, h)) :
    s.shareServe f tally = (s.frameRefuse f st h).frameDone f := by
  unfold State.shareServe
  refine (if_neg (by simp [hturn])).trans ?_
  simp only [hfail]

end

section
variable {k n r pt : Bytes} (hfail : s.batchFail f = none) (hhpke : f.hpke = some (k, n, r))
  (hopen : Crypto.gcmOpen k (Crypto.hpkeNonce n 0) [] (vfCipher f.bytes) = some pt) (hwhole : pt.length % 56 = 0)
  (hlow : 56 ≤ pt.length) (hhigh : pt.length ≤ 7168)
include hfail hhpke hopen hwhole hlow hhigh

theorem shareServe_voids (hbad : tallyOk (s.ctx f.ctx) f.slot tally = false) :
    s.shareServe f tally = ((s.fatalVoid f.ctx 5 0 f.slot).frameRefuse f .late .none).frameDone f := by
  unfold State.shareServe
  refine (if_neg (by simp [hturn])).trans ?_
  simp only [hfail, hhpke, hopen]
  exact (if_neg (by simp [hwhole, hlow, hhigh])).trans (if_pos (by rw [hbad]; rfl))

theorem shareServe_takes (hgood : tallyOk (s.ctx f.ctx) f.slot tally = true) :
    s.shareServe f tally =
      let t := s.takeShares f.ctx f.slot tally (chunksOf 56 (pt.length / 56) pt) 0 0
      (t.2.frameReply f (receiptFrame 3 0 f.slot (t.1.1 * 65536 + t.1.2) (vfTag f.bytes) (vfHid f.bytes)
        (List.replicate 16 0))).frameDone f := by
  unfold State.shareServe
  refine (if_neg (by simp [hturn])).trans ?_
  simp only [hfail, hhpke, hopen]
  exact (if_neg (by simp [hwhole, hlow, hhigh])).trans (if_neg (by rw [hgood]; decide))

end

end

/-- A chunk 0 without a context has it set up, where its key and its enc allow it (R425). -/
theorem frameSetup_chunk (hshare : f.share = false) (hrows : s.chunkRows f = .setup) (hfree : s.keyhold.keyreg.holder = none) :
    s.frameSetup f =
      match s.hpkeAuth (vfEnc f.bytes) (rosterAuthPk (s.ctx f.ctx) f.slot) (ascii "VZ contrib" ++ hvId (s.ctx f.ctx) ++
          beBytes 4 f.slot ++ [BitVec.ofNat 8 (partByte (s.ctx f.ctx))] ++ beBytes 4 (partChunks (s.ctx f.ctx))) with
      | none => s
      | some h =>
        { (s.count .khdCurve 0 2) with inlets := { s.inlets with frames := s.inlets.frames.map fun (g : Frame) => if g.id == f.id then
          { g with hpke := some (h.key, h.baseNonce, Crypto.hpkeExport h (ascii "VZ receipt") 32) } else g } } := by
  unfold State.frameSetup
  simp only [hshare, hrows, rosterLost_of_setup hrows, hfree, Option.isSome_none, Bool.false_eq_true, if_false, Bool.not_true,
    Bool.or_self]
  cases s.hpkeAuth (vfEnc f.bytes) (rosterAuthPk (s.ctx f.ctx) f.slot) (ascii "VZ contrib" ++ hvId (s.ctx f.ctx) ++
    beBytes 4 f.slot ++ [BitVec.ofNat 8 (partByte (s.ctx f.ctx))] ++ beBytes 4 (partChunks (s.ctx f.ctx))) <;> rfl

end

/-! ### Link state and statistics -/

theorem inletLink_changes {s : State} {q st : Nat} (hloop : (s.port q).loopbackFail = false) (hon : bitOf (s.reg .inlPctl q) 0 = true)
    (hboot : 9 ≤ s.dev.bootStep) (hst : st ≠ (s.port q).link) :
    s.inletLink q st =
      let t := (s.updPort q fun p => { p with link := st, waiting := if st = 2 then p.waiting else [] }).linkStateEvent 0 q st
      if st = 2 then t.announce q else t := by
  have hallowed : ((s.port q).loopbackFail || !bitOf (s.reg .inlPctl q) 0 || decide (s.dev.bootStep < 9)) = false := by
    simp [hloop, hon, hboot]
  unfold State.inletLink
  simp only [hallowed, Bool.false_eq_true, if_false]
  exact if_neg hst

/-- The report of one context's second (R433). -/
def State.statsOf (s : State) (c : Nat) : State :=
  if !ctxLive (s.ctx c).st then s
  else
    let t := if (s.ctx c).refusals.all (· == 0) then s else s.event c 0x04 c 0 ((s.ctx c).refusals.flatMap (leBytes 4))
    let t := if (s.ctx c).receiptsSent = 0 then t else t.event c 0x03 c 0 (leBytes 4 (s.ctx c).receiptsSent)
    t.updCtx c fun x => { x with refusals := List.replicate 7 0, receiptsSent := 0 }

theorem statsSecond_eq {s : State} (h : s.second ≠ s.inlets.statsAt) :
    s.statsSecond = (List.range 4).foldl State.statsOf { s with inlets := { s.inlets with statsAt := s.second } } := by
  unfold State.statsSecond
  exact if_neg h

/-- A live context of the device. -/
structure liveAt (s : State) (c : Nat) : Prop where
  inRange : c < s.ctxs.length
  live : ctxLive (s.ctx c).st = true

/-- A context whose counts of the second start anew (R433). -/
structure freshCounts (s : State) (c : Nat) : Prop where
  refusals : (s.ctx c).refusals = List.replicate 7 0
  receipts : (s.ctx c).receiptsSent = 0

/-- A report of a live context changes the contexts in its own counts alone. -/
theorem statsOf_ctxs {s : State} {d : Nat} (hlive : ctxLive (s.ctx d).st = true) :
    (s.statsOf d).ctxs = updAt s.ctxs d fun x => { x with refusals := List.replicate 7 0, receiptsSent := 0 } := by
  unfold State.statsOf
  rw [if_neg (by simp [hlive])]
  extract_lets t u
  have ht : steady s t := by
    change steady s (if _ then s else _)
    split
    · exact .refl s
    · exact steady_event ..
  have hu : steady t u := by
    change steady t (if _ then t else _)
    split
    · exact .refl t
    · exact steady_event ..
  exact congrArg (updAt · d _) (ht.trans hu).ctxs

theorem statsOf_dead {s : State} {d : Nat} (hdead : ctxLive (s.ctx d).st = false) : s.statsOf d = s := by
  unfold State.statsOf
  exact if_pos (by rw [hdead]; rfl)

theorem freshCounts_statsOf {s : State} {c : Nat} (h : liveAt s c) : freshCounts (s.statsOf c) c := by
  have hctx : (s.statsOf c).ctx c = _ :=
    (congrArg (·.getD c {}) (statsOf_ctxs h.live)).trans (getD_updAt_same h.inRange _ {})
  constructor <;> rw [hctx]

/-- A context is as it was, or fresh, after the report of any. -/
theorem statsOf_ctx {s : State} {c : Nat} (hc : c < s.ctxs.length) (d : Nat) :
    (s.statsOf d).ctx c = s.ctx c ∨ (s.statsOf d).ctx c = { s.ctx c with refusals := List.replicate 7 0, receiptsSent := 0 } := by
  by_cases hlive : ctxLive (s.ctx d).st = true
  · have hctxs := congrArg (·.getD c {}) (statsOf_ctxs hlive)
    by_cases hd : c = d
    · subst hd
      exact .inr (hctxs.trans (getD_updAt_same hc _ {}))
    · exact .inl (hctxs.trans (getD_updAt_other _ hd _ ({} : Ctx)))
  · rw [statsOf_dead (eq_false_of_ne_true hlive)]
    exact .inl rfl

theorem liveAt_statsOf {s : State} {c : Nat} (h : liveAt s c) (d : Nat) : liveAt (s.statsOf d) c := by
  have hlen : (s.statsOf d).ctxs.length = s.ctxs.length := by
    by_cases hlive : ctxLive (s.ctx d).st = true
    · rw [statsOf_ctxs hlive, updAt_length]
    · rw [statsOf_dead (eq_false_of_ne_true hlive)]
  refine ⟨hlen.symm ▸ h.inRange, ?_⟩
  obtain hctx | hctx := statsOf_ctx h.inRange d <;> rw [hctx] <;> exact h.live

theorem freshCounts.statsOf {s : State} {c : Nat} (h : freshCounts s c) (hc : c < s.ctxs.length) (d : Nat) :
    freshCounts (s.statsOf d) c := by
  obtain hctx | hctx := statsOf_ctx hc d
  · exact ⟨hctx ▸ h.refusals, hctx ▸ h.receipts⟩
  · constructor <;> rw [hctx]

/-- A live context's counts start anew once it has been reported, and stay so. -/
theorem freshCounts_foldl {c : Nat} (l : List Nat) {s : State} (hlive : liveAt s c) (h : c ∈ l ∨ freshCounts s c) :
    freshCounts (l.foldl State.statsOf s) c := by
  induction l generalizing s with
  | nil => exact h.resolve_left List.not_mem_nil
  | cons d l ih =>
    refine ih (liveAt_statsOf hlive d) ?_
    obtain hmem | hfresh := h
    · obtain rfl | hl := List.mem_cons.1 hmem
      · exact .inr (freshCounts_statsOf hlive)
      · exact .inl hl
    · exact .inr (hfresh.statsOf hlive.inRange d)

/-- The frame that has waited longest is refused (R464). -/
theorem waitExpire_refuses {s : State} {q : Nat} {f : Frame} {l : List Frame} (hq : q < 4)
    (hwait : (s.retryCredits.port q).waiting = f :: l) :
    s.waitExpire q =
      ((s.retryCredits.updPort q fun p => { p with waiting := l }).refuseEarly f (some f.ctx) .busy .base).retryCredits := by
  unfold State.waitExpire
  refine (if_pos hq).trans ?_
  rw [hwait]

/-- Settles O52: each row's conditions select its branch of the operation, and the counts of a second follow the fold over the
contexts. -/
theorem inletRowsRun : Obligations.InletRowsRun := by
  unfold Obligations.InletRowsRun
  intro q s
  refine ⟨?received, ?uncorrected, ?voids, ?chunk, ?batch, ?link, ?stats, ?expire⟩
  case received =>
    intro f e n hlink hl2 t u htaken
    refine ⟨fun r hkind => ?arp, fun r hkind => ?nd, fun r hkind => ?echo, fun r a v hkind hudp hok => ?vezil⟩
    case arp =>
      have h := rxFrame_passes (want := fun k => k == RxKind.arp) hlink hl2 htaken (by rw [hkind]; rfl)
      rw [hkind] at h
      exact answersAfter (i := .arpRequest q f (some n)) rfl h
    case nd =>
      have h := rxFrame_passes (want := fun k => k == RxKind.nd) hlink hl2 htaken (by rw [hkind]; rfl)
      rw [hkind] at h
      exact answersAfter (i := .neighborSolicitation q f (some n)) rfl h
    case echo =>
      have h := rxFrame_passes (want := fun k => k == RxKind.echo) hlink hl2 htaken (by rw [hkind]; rfl)
      rw [hkind] at h
      exact answersAfter (i := .echoRequest q f (some n)) rfl h
    case vezil =>
      have h := rxFrame_passes (want := fun k => k == RxKind.vezil || k == RxKind.other) hlink hl2 htaken (by rw [hkind]; rfl)
      rw [hkind] at h
      exact answersAfter (i := .frameReceive q f (some n)) rfl (h.trans (rxHandled_vezil hudp hok))
  case uncorrected =>
    intro f hlink
    exact answersAfter (i := .frameReceive q f none) rfl
      (rxFrame_uncorrected (want := fun k => k == RxKind.vezil || k == RxKind.other) hlink rfl)
  case voids =>
    intro id f tally hf hshare hturn hsame hlive hbad
    refine answersAfter (i := .chunkServe id tally) rfl ?_
    rw [hf]
    exact (if_neg (ne_true_of_eq_false hshare)).trans (chunkServe_voids hturn hsame hlive hbad)
  case chunk =>
    intro id f tally hf hshare hturn hgood s1
    have hserve {k : ChunkStep} {t : State} (hrows : s1.chunkRows f = k) (h : s.chunkAnswered f s1 k = t) :
        exec (.chunkServe id tally) s = .next { t.after with pending := s.pending } := by
      refine answersAfter (i := .chunkServe id tally) rfl ?_
      rw [hf]
      exact (if_neg (ne_true_of_eq_false hshare)).trans
        (((chunkServe_eq hturn hgood).trans (congrArg (s.chunkAnswered f s1) hrows)).trans h)
    refine ⟨fun st h hrows => hserve hrows rfl, fun m hrows => hserve hrows rfl, fun k n hrows => hserve hrows ?opens,
      fun hrows hfree => ?setup⟩
    case opens =>
      refine (chunkAnswered_open ..).trans ?_
      cases Crypto.gcmOpen k (Crypto.hpkeNonce n (vfChunk f.bytes)) (hvId (s.ctx f.ctx) ++ beBytes 4 f.slot ++
        [BitVec.ofNat 8 (partByte (s.ctx f.ctx))] ++ beBytes 4 (vfChunk f.bytes)) (vfCipher f.bytes) <;> rfl
    case setup =>
      refine answersAfter (i := .slotContextSetup id) rfl ?_
      rw [hf]
      refine (if_pos hturn).trans ((frameSetup_chunk hshare hrows hfree).trans ?_)
      cases s.hpkeAuth (vfEnc f.bytes) (rosterAuthPk (s.ctx f.ctx) f.slot) (ascii "VZ contrib" ++ hvId (s.ctx f.ctx) ++
        beBytes 4 f.slot ++ [BitVec.ofNat 8 (partByte (s.ctx f.ctx))] ++ beBytes 4 (partChunks (s.ctx f.ctx))) <;> rfl
  case batch =>
    intro id f tally hf hshare hturn
    have hserve {t : State} (h : s.shareServe f tally = t) :
        exec (.shareBatchServe id tally) s = .next { t.after with pending := s.pending } := by
      refine answersAfter (i := .shareBatchServe id tally) rfl ?_
      rw [hf]
      exact (if_pos (by simp [hshare, hturn])).trans h
    exact ⟨fun st h hfail => hserve (shareServe_refuses hturn hfail), fun k n r pt hfail hhpke hopen hwhole hlow hhigh =>
      ⟨fun hbad => hserve (shareServe_voids hturn hfail hhpke hopen hwhole hlow hhigh hbad),
        fun hgood => hserve (shareServe_takes hturn hfail hhpke hopen hwhole hlow hhigh hgood)⟩⟩
  case link =>
    intro st hloop hon hboot hst
    exact answersAfter (i := .inletLinkState q st) rfl (inletLink_changes hloop hon hboot hst)
  case stats =>
    refine ⟨rfl, fun c hnew hc hlen hlive => ?_⟩
    rw [statsSecond_eq hnew]
    obtain ⟨hrefusals, hreceipts⟩ := freshCounts_foldl (c := c) (s := { s with inlets := { s.inlets with statsAt := s.second } })
      (List.range 4) ⟨hlen, hlive⟩ (.inl (List.mem_range.2 hc))
    exact ⟨hrefusals, hreceipts⟩
  case expire =>
    intro f l hwait
    exact answersAfter (i := .enqueueWaitExpire ⟨q.val, by omega⟩) rfl (waitExpire_refuses q.isLt hwait)

end Sys2Proof.Machine
end

/-! Carillon's links, the formation of a Quad and its membership (O53, O54). -/
section
namespace Sys2Proof.Machine

open Sys2Proof

/-! ### A link that goes DOWN (R560, R564) -/

/-- A link that is DOWN for a cause, with nothing in its buffers. -/
structure downFor (l : CarLink) (cause : Nat) : Prop where
  st : l.st = 0
  replay : l.replay = []
  rx : l.rx = []
  waiting : l.waiting = []
  cause : l.cause = cause

theorem link_updLink_same {s : State} {k : Nat} (hk : k < s.car.links.length) (f : CarLink → CarLink) :
    (s.updLink k f).link k = f (s.link k) := getD_updAt_same hk f {}

/-- What a BATCH's end changes of a link (R574): nothing. -/
theorem batchFrom_links (s : State) (peer : Nat) : (s.batchFrom peer).car.links = s.car.links := by
  unfold State.batchFrom
  split
  · rfl
  · dsimp only
    split
    · rfl
    · split <;> rfl

theorem batchFrom_formed (s : State) (peer : Nat) : (s.batchFrom peer).car.formed = s.car.formed := by
  unfold State.batchFrom
  split
  · rfl
  · dsimp only
    split
    · rfl
    · split <;> rfl

theorem eventsOnly.car {s t : State} (h : eventsOnly s t) : t.car = s.car := by
  obtain ⟨qs, rg, fs, o, tq, al, rfl, -⟩ := h
  rfl

theorem linkStateEvent_car (s : State) (kind index st : Nat) : (s.linkStateEvent kind index st).car = s.car :=
  (eventsOnly_event s 4 0x16 0xFF 0 [BitVec.ofNat 8 kind, BitVec.ofNat 8 index, BitVec.ofNat 8 st]).car

/-- A link that leads to no member of a formed Quad goes DOWN, and no more. -/
theorem carDown_down {s : State} {k cause : Nat} (hst : (s.link k).st ≠ 0) (hformed : s.car.formed = false) (hk : k < s.car.links.length) :
    downFor ((s.carDown k cause).link k) cause := by
  unfold State.carDown
  rw [if_neg hst]
  extract_lets t u v moved w
  have hlinks : w.car.links = t.car.links := by
    change v.car.links = _
    rw [show v.car = u.car from linkStateEvent_car _ 1 k 0]
    exact batchFrom_links t _
  have hnot : w.car.formed = false := by
    change v.car.formed = _
    rw [show v.car = u.car from linkStateEvent_car _ 1 k 0]
    exact (batchFrom_formed t _).trans hformed
  have hdown : w.link k = _ := (congrArg (·.getD k {}) hlinks).trans (link_updLink_same hk _)
  rw [if_neg (by simp [hnot]), hdown]
  exact ⟨rfl, rfl, rfl, rfl, rfl⟩

/-! ### A link that trains -/

section
variable {s : State} {k : Nat} (hrun : s.linksRun = true)
include hrun

theorem linkState_up {peer : Nat} (htraining : (s.link k).st = 1) (hpeer : peer = s.farOf k) :
    s.linkState k 2 peer =
      (((s.updLink k fun l => { l with peer := peer, peerValid := true }).updLink k fun l =>
        { l with st := 2 }).linkStateEvent 1 k 2).linkReturn k := by
  unfold State.linkState
  refine (if_neg (by simp [hrun])).trans ((if_neg (by decide)).trans ((if_neg (by decide)).trans ((if_neg (by simp [htraining])).trans ?_)))
  exact if_neg (not_not_intro hpeer)

theorem linkState_down (peer : Nat) : s.linkState k 0 peer = s.carDown k 0 := by
  unfold State.linkState
  exact (if_neg (by simp [hrun])).trans (if_pos rfl)

end

/-! ### Flits (R561, R562) -/

section
variable {s : State} {k : Nat} {b : Bytes} (hup : (s.link k).st = 2) (hlen : b.length = 200)
include hup hlen

theorem flitIn_damaged (hcrc : bitsOf (leAt b 0 8) 23 0 ≠ crc24 (b.drop 3)) : s.flitIn k b = s.nak k := by
  unfold State.flitIn
  exact (if_neg (by simp [hup, hlen])).trans (if_pos hcrc)

theorem flitIn_data (hcrc : bitsOf (leAt b 0 8) 23 0 = crc24 (b.drop 3)) (hkind : bitsOf (leAt b 0 8) 63 60 = 1)
    (hfill : bitsOf (leAt b 0 8) 35 28 ≤ 192) (hzero : bitsOf (leAt b 0 8) 27 24 = 0)
    (hturn : (bitsOf (leAt b 0 8) 59 48 + 4096 - (s.link k).rxSeq) % 4096 = 0) :
    s.flitIn k b = (((s.ackLink k (bitsOf (leAt b 0 8) 47 36)).updLink k fun l =>
      { l with rxSeq := (l.rxSeq + 1) % 4096, nakSent := false }).sendFlit k 0 []).dataIn k
        ((b.drop 8).take (bitsOf (leAt b 0 8) 35 28)) := by
  unfold State.flitIn
  refine (if_neg (by simp [hup, hlen])).trans ((if_neg (not_not_intro hcrc)).trans ((if_neg (by simp [hkind, hfill, hzero])).trans ?_))
  refine (if_neg (by rw [hkind]; decide)).trans ((if_neg (by rw [hkind]; decide)).trans ((if_pos hturn).trans ?_))
  exact if_pos hkind

end

/-- Settles O53: a link that goes DOWN keeps its emptied buffers through the events and the records of its transfers, and every other
row takes its branch. -/
theorem carillonLinkRowsRun : Obligations.CarillonLinkRowsRun := by
  unfold Obligations.CarillonLinkRowsRun
  intro k s
  refine ⟨?up, ?goesDown, ?down, ?damaged, ?data, ?timers, ?toll⟩
  case up =>
    intro peer hrun htraining hpeer
    exact answers (i := .carillonLinkState k 2 peer) rfl (congrArg State.formAdvance (linkState_up hrun htraining hpeer))
  case goesDown =>
    intro peer hrun
    exact answers (i := .carillonLinkState k 0 peer) rfl (congrArg State.formAdvance (linkState_down hrun peer))
  case down =>
    intro cause hst hformed hk
    obtain ⟨h0, hreplay, hrx, hwaiting, hcause⟩ := carDown_down (cause := cause) hst hformed hk
    exact ⟨h0, hreplay, hrx, hwaiting, hcause⟩
  case damaged =>
    intro b hup hlen hcrc
    exact answers (i := .flitReceive k b) rfl (flitIn_damaged hup hlen hcrc)
  case data =>
    intro b hup hlen hcrc hkind hfill hzero hturn
    exact answers (i := .flitReceive k b) rfl (flitIn_data hup hlen hcrc hkind hfill hzero hturn)
  case timers =>
    intro hup
    refine ⟨answers (i := .replayTimeout k) rfl (if_pos hup), fun hreplay => ?_, answers (i := .tollTimeout k) rfl (if_pos hup),
      answers (i := .alignLoss k) rfl (if_pos hup), fun hsince => ?_⟩
    · exact answers (i := .replayExhausted k) rfl (if_pos (by simp [hup, hreplay]))
    · exact answers (i := .batchTimer k) rfl (if_pos (by simp [hup, hsince]))
  case toll => exact fun htick => answers (i := .tollSend) rfl (if_pos htick)

/-! ### Formation (R567) -/

/-- A formation that fails is over (R567). -/
theorem formFails_forming {s : State} {f : Forming} (hf : s.car.forming = some f) (st : Status) (tell : Bool) :
    (s.formFails st tell).car.forming = none := by
  unfold State.formFails
  rw [hf]
  exact (steady_finishParked ..).forming

theorem formRecord_takes {s : State} {r : Bytes} {f : Forming} (htyp : (recHead r).typ = 0x20) (hturn : s.recordTurn r = true)
    (hf : s.car.forming = some f) (hsrc : bitOf f.mask (recHead r).src = true) :
    s.formRecord r =
      match (s.takeRecord r).assemble (65536 + 256 * (recHead r).src + byteAt (plainBody r) 0) (plainBody r) with
      | (none, t) => t
      | (some m, t) => t.formIn f (recHead r).src (byteAt (plainBody r) 0) m := by
  unfold State.formRecord
  refine (if_neg (by simp [htyp, hturn])).trans ?_
  rw [hf]
  refine (if_neg (by simp [hsrc])).trans ?_
  obtain ⟨_ | m, t⟩ := (s.takeRecord r).assemble (65536 + 256 * (recHead r).src + byteAt (plainBody r) 0) (plainBody r) <;> rfl

/-! ### Membership and dissolution (R568 to R570) -/

section
variable {s : State} {r : Bytes} (hturn : s.recordTurn r = true) (hformed : s.car.formed = true)
  (hsrc : bitOf s.car.members (recHead r).src = true)
include hturn hformed hsrc

theorem membershipRecord_narrows (htyp : (recHead r).typ = 0x21) :
    s.membershipRecord r = (s.takeRecord r).setMembers (Nat.land s.car.members (byteAt (plainBody r) 0)) := by
  unfold State.membershipRecord
  exact (if_neg (by simp [htyp, hturn])).trans (if_neg (by simp [State.takeRecord, hformed, hsrc]))

theorem dissolveRecord_leaves (htyp : (recHead r).typ = 0x22) :
    s.dissolveRecord r = (s.takeRecord r).leaveQuad.membersEvent := by
  unfold State.dissolveRecord
  exact (if_neg (by simp [htyp, hturn])).trans (if_neg (by simp [State.takeRecord, hformed, hsrc]))

end

section
variable {s : State} {pos : Nat} (hformed : s.car.formed = true) (hmember : bitOf s.car.members pos = true)
include hformed hmember

theorem membershipTimeout_removes (htreble : s.isTreble = true) (hother : pos ≠ s.power.pos)
    (hlost : ((s.linkTo pos).any s.linkUp) = false) :
    s.membershipTimeout pos =
      let mask := setBits s.car.members pos pos 0
      let t : State := { s with car := { s.car with transfers := s.car.transfers.filter fun t => t.peer != pos } }
      ((t.peers.filter (· != pos)).foldl (fun (s : State) p => s.sendPlain 0x21 p 0xFF [BitVec.ofNat 8 mask]) t).setMembers mask := by
  unfold State.membershipTimeout
  exact (if_neg (by simp [hformed, hmember])).trans ((if_pos htreble).trans (if_neg (by simp [hother, hlost])))

theorem membershipTimeout_leaves (hmere : s.isTreble = false) (hown : pos = s.power.pos)
    (hlost : ((s.linkTo s.treble).any s.linkUp) = false) : s.membershipTimeout pos = s.leaveQuad.membersEvent := by
  unfold State.membershipTimeout
  exact (if_neg (by simp [hformed, hmember])).trans ((if_neg (by simp [hmere])).trans (if_pos (by simp [← hown, hlost])))

end

/-! ### The job key (R572) -/

section
variable {s : State} {r : Bytes} (htyp : (recHead r).typ = 0x10) (hepoch : (recHead r).epoch = 0) (hturn : s.recordTurn r = true)
  (hformed : s.car.formed = true) (hsrc : bitOf s.car.members (recHead r).src = true)
include htyp hepoch hturn hformed hsrc

theorem exchangeRecord_member (hkind : byteAt (plainBody r) 0 = 0) (htreble : (recHead r).src = s.treble) :
    s.exchangeRecord r =
      match (s.takeRecord r).exchangeMember (recHead r).ctx (recHead r).src (slice (plainBody r) 1 16) ((plainBody r).drop 17) with
      | some t => t
      | none => s.noteWait 0 := by
  unfold State.exchangeRecord
  refine (if_neg (by simp [htyp, hepoch, hturn])).trans ((if_neg (by simp [hformed, hsrc])).trans ((if_pos ⟨hkind, htreble⟩).trans ?_))
  cases (s.takeRecord r).exchangeMember (recHead r).ctx (recHead r).src (slice (plainBody r) 1 16) ((plainBody r).drop 17) <;> rfl

section
variable {j : Job} (hjob : s.car.job = some j) (hctx : j.ctx = (recHead r).ctx)
include hjob hctx

theorem exchangeRecord_treble (hkind : byteAt (plainBody r) 0 = 0) (hother : (recHead r).src ≠ s.treble) (hown : s.isTreble = true) :
    s.exchangeRecord r =
      (s.takeRecord r).exchangeTreble j (recHead r).src (slice (plainBody r) 1 16) ((plainBody r).drop 17) := by
  unfold State.exchangeRecord
  refine (if_neg (by simp [htyp, hepoch, hturn])).trans ((if_neg (by simp [hformed, hsrc])).trans ((if_neg (by simp [hother])).trans ?_))
  rw [hjob]
  exact (if_neg (not_not_intro hctx)).trans ((if_pos hkind).trans (if_pos hown))

theorem exchangeRecord_key (hkind : byteAt (plainBody r) 0 = 1) (htreble : (recHead r).src = s.treble) :
    s.exchangeRecord r =
      (s.takeRecord r).exchangeKey j (recHead r).src (slice (plainBody r) 1 16) ((plainBody r).drop 17) := by
  unfold State.exchangeRecord
  refine (if_neg (by simp [htyp, hepoch, hturn])).trans ((if_neg (by simp [hformed, hsrc])).trans ((if_neg (by simp [hkind])).trans ?_))
  rw [hjob]
  exact (if_neg (not_not_intro hctx)).trans ((if_neg (by simp [hkind])).trans (if_pos ⟨hkind, htreble⟩))

theorem exchangeRecord_refused (hkind : byteAt (plainBody r) 0 = 2) :
    s.exchangeRecord r = (s.takeRecord r).exchangeRefused j (leAt ((plainBody r).drop 17) 0 2) := by
  unfold State.exchangeRecord
  refine (if_neg (by simp [htyp, hepoch, hturn])).trans ((if_neg (by simp [hformed, hsrc])).trans ((if_neg (by simp [hkind])).trans ?_))
  rw [hjob]
  exact (if_neg (not_not_intro hctx)).trans ((if_neg (by simp [hkind])).trans ((if_neg (by simp [hkind])).trans (if_pos hkind)))

end
end

/-- Settles O54: each record or time-out takes its branch, and the end of the formed state and of a formation follow from the frame of
what ends them. -/
theorem membershipRowsRun : Obligations.MembershipRowsRun := by
  unfold Obligations.MembershipRowsRun
  intro s
  refine ⟨?timeout, ?form, ?membership, ?removes, ?leaves, ?dissolve, leaveQuad_car s, ?member, ?others⟩
  case timeout =>
    intro f hf hup
    refine ⟨answers (i := .formLinkTimeout) rfl ?_, formFails_forming hf _ _⟩
    rw [hf]
    exact if_neg (ne_true_of_eq_false hup)
  case form =>
    intro r f htyp hturn hf hsrc
    refine answers (i := .form r) rfl ((formRecord_takes htyp hturn hf hsrc).trans ?_)
    obtain ⟨_ | m, t⟩ := (s.takeRecord r).assemble (65536 + 256 * (recHead r).src + byteAt (plainBody r) 0) (plainBody r) <;> rfl
  case membership =>
    intro r htyp hturn hformed hsrc
    exact answersAfter (i := .membership r) rfl (membershipRecord_narrows hturn hformed hsrc htyp)
  case removes =>
    intro pos hformed hmember htreble hother hlost
    exact answersAfter (i := .membershipTimeout pos) rfl (membershipTimeout_removes hformed hmember htreble hother hlost)
  case leaves =>
    intro pos hformed hmember hmere hown hlost
    exact answersAfter (i := .membershipTimeout pos) rfl (membershipTimeout_leaves hformed hmember hmere hown hlost)
  case dissolve =>
    intro r htyp hturn hformed hsrc
    exact answersAfter (i := .dissolve r) rfl (dissolveRecord_leaves hturn hformed hsrc htyp)
  case member =>
    intro r htyp hepoch hturn hformed hsrc hkind htreble
    refine answersAfter (i := .jobKeyExchange r) rfl ((exchangeRecord_member htyp hepoch hturn hformed hsrc hkind htreble).trans ?_)
    cases (s.takeRecord r).exchangeMember (recHead r).ctx (recHead r).src (slice (plainBody r) 1 16) ((plainBody r).drop 17) <;> rfl
  case others =>
    intro r j htyp hepoch hturn hformed hsrc hjob hctx
    exact ⟨fun hkind hother hown => answersAfter (i := .jobKeyExchange r) rfl
        (exchangeRecord_treble htyp hepoch hturn hformed hsrc hjob hctx hkind hother hown),
      fun hkind htreble => answersAfter (i := .jobKeyExchange r) rfl
        (exchangeRecord_key htyp hepoch hturn hformed hsrc hjob hctx hkind htreble),
      fun hkind => answersAfter (i := .jobKeyExchange r) rfl
        (exchangeRecord_refused htyp hepoch hturn hformed hsrc hjob hctx hkind)⟩

end Sys2Proof.Machine
end

/-! Carillon's transfers and epochs (O55). -/
section
namespace Sys2Proof.Machine

open Sys2Proof

/-! ### Sealed records -/

section
variable {s : State} {r b : Bytes} (hturn : s.recordTurn r = true) (hopen : s.openRecord r = some b)
include hturn hopen

theorem takeSealed_opened {typ : Nat} (htyp : (recHead r).typ = typ) (f : RecHead → Bytes → State → State) :
    s.takeSealed r typ f = f (recHead r) b (s.takeRecord r) := by
  unfold State.takeSealed
  refine (if_neg (by simp [htyp, hturn])).trans ?_
  rw [hopen]

/-- A whole message of a job is taken by its own row. -/
theorem takeCtl_whole {c : Ctl} {m : Bytes} {t : State} (htyp : (recHead r).typ = 0x10) (hepoch : (recHead r).epoch ≠ 0)
    (hcode : byteAt b 0 = ctlCode c) (hwhole : (s.takeRecord r).assemble (256 * (recHead r).src + ctlCode c) b = (some m, t))
    (f : Nat → Nat → Bytes → State → State) : s.takeCtl r c f = f (recHead r).ctx (recHead r).src m t := by
  unfold State.takeCtl
  refine (if_neg (by simp [htyp, hepoch, hturn])).trans ?_
  rw [hopen]
  refine (if_pos hcode).trans ?_
  rw [hwhole]

/-! ### Answers of transfers (R575 to R578) -/

section
variable {u : Transfer}

theorem writeAck_ends (htyp : (recHead r).typ = 0x02) (htransfer : (s.takeRecord r).transferOf 0 (recHead r).src (recHead r).tag = some u) :
    s.writeAck r = (s.takeRecord r).dropTransfer u := by
  refine (takeSealed_opened hturn hopen htyp _).trans ?_
  rw [htransfer]

theorem postedNotice_fails (htyp : (recHead r).typ = 0x03)
    (htransfer : (s.takeRecord r).transferOf 0 (recHead r).src (recHead r).tag = some u) :
    s.postedNotice r =
      ((s.takeRecord r).dropTransfer u).writeFailed (recHead r).ctx (s.failLink u.peer u.link) u.peer u.epoch u.tag := by
  refine (takeSealed_opened hturn hopen htyp _).trans ?_
  rw [htransfer]
  rfl

theorem readData_delivered (htyp : (recHead r).typ = 0x05)
    (htransfer : (s.takeRecord r).transferOf 1 (recHead r).src (recHead r).tag = some u) :
    s.readData r = ((s.takeRecord r).dropTransfer u).portItem (recHead r).ctx u.pan u.rchan false b := by
  refine (takeSealed_opened hturn hopen htyp _).trans ?_
  rw [htransfer]

end

theorem clearRecord_noted {j : Job} (htyp : (recHead r).typ = 0x06) (hjob : s.car.job = some j) (htreble : s.isTreble = true)
    (hdirty : j.dirty = true) (hepoch : leAt b 4 4 = j.epoch) (hnew : j.clears.contains ((recHead r).src, byteAt b 0) = false) :
    s.clearRecord r =
      ((s.takeRecord r).updJob fun j => { j with clears := j.clears ++ [((recHead r).src, byteAt b 0)] }).checkClears := by
  refine (takeSealed_opened hturn hopen htyp _).trans ?_
  change (match s.car.job with | none => _ | some j => _) = _
  rw [hjob]
  have htreble' : (s.takeRecord r).isTreble = true := htreble
  refine if_pos ?_
  rw [htreble', hdirty, hepoch, hnew]
  simp

theorem epochRecord_switches {j : Job} (htyp : (recHead r).typ = 0x11) (hjob : s.car.job = some j) (htreble : (recHead r).src = s.treble)
    (hepoch : leAt b 0 4 = j.epoch + 1) : s.epochRecord r = (s.takeRecord r).switchEpoch (j.epoch + 1) := by
  refine (takeSealed_opened hturn hopen htyp _).trans ?_
  change (match s.car.job with | none => _ | some j => _) = _
  rw [hjob]
  exact if_pos ⟨htreble, hepoch⟩

/-! ### Reads (R577) -/

/-- The answer to a read: a completion item. -/
def State.readAnswer (s : State) (h : RecHead) (b : Bytes) (st : Status) (data : Bytes) : State :=
  s.sendSealed 0x05 h.src h.tag
    (leBytes 2 (statusCode st) ++ [0, 0] ++ leBytes 4 (leAt b 4 4) ++ leBytes 4 data.length ++ List.replicate 20 0 ++ data)

section
variable {ups : List (Nat × Upset)}

omit hturn in
/-- A read of a range that a slice holds waits (R209). -/
theorem readReq_waits (hheld : s.held (byteAt b 1) (leAt b 8 4) (leAt b 12 2) = true) :
    s.readReq r ups = { s with sweep := { s.sweep with held := s.sweep.held ++ [.readReq r ups] } } := by
  unfold State.readReq
  exact if_pos (by rw [hopen]; exact hheld)

theorem readReq_reads (htyp : (recHead r).typ = 0x04) (hfree : s.held (byteAt b 1) (leAt b 8 4) (leAt b 12 2) = false)
    (hdesc : descOk 1 b = true) (hctx : (s.pan (byteAt b 1)).ctx = some (recHead r).ctx)
    (hlive : ctxLive (s.ctx (recHead r).ctx).st = true) (hrange : leAt b 8 4 + leAt b 12 2 ≤ panBytes (s.pan (byteAt b 1))) :
    s.readReq r ups =
      let met := (upsetsIn ups (leAt b 8 4) (leAt b 12 2)).partition fun u => u.2 == Upset.corrected
      let t := met.1.foldl (fun (s : State) u => s.meetUpset (byteAt b 1) 0 u) (s.takeRecord r)
      let n := met.2.length + ((t.pan (byteAt b 1)).bad.filter fun w =>
        decide (8 * w < leAt b 8 4 + leAt b 12 2) && decide (leAt b 8 4 < 8 * w + 8)).length
      if n = 0 then t.readAnswer (recHead r) b .ok (Memory.readN (t.pan (byteAt b 1)).mem (leAt b 8 4) (leAt b 12 2))
      else (t.bump .panEcc (byteAt b 1) 31 16 n).readAnswer (recHead r) b .uncorrectable [] := by
  have hctx' : ((s.takeRecord r).pan (byteAt b 1)).ctx = some (recHead r).ctx := hctx
  have hlive' : ctxLive ((s.takeRecord r).ctx (recHead r).ctx).st = true := hlive
  have hrange' : leAt b 8 4 + leAt b 12 2 ≤ panBytes ((s.takeRecord r).pan (byteAt b 1)) := hrange
  unfold State.readReq
  refine (if_neg ?_).trans ((takeSealed_opened hturn hopen htyp _).trans ?_)
  · rw [hopen]
    exact ne_true_of_eq_false hfree
  · exact if_neg (by simp [hdesc, hctx', hlive', hrange'])

end

/-! ### Posted writes at the target (R575, R576) -/

/-- The item that a posted write of a job is at its target. -/
def postedItem (j : Job) (b : Bytes) : FabItem :=
  { src := 0xFF, srcChan := 0, ctx := some j.ctx, kind := 0, dest := byteAt b 1, dchan := byteAt b 2, rchan := 0, token := false
    data := b.drop 32 }

theorem postedWrite_delivered {j : Job} {t : State} (htyp : (recHead r).typ = 0x01) (hjob : s.car.job = some j) (hkey : j.key ≠ [])
    (hlive : ctxLive (s.ctx j.ctx).st = true) (hdest : byteAt b 1 < 48) (hchan : byteAt b 2 < 64)
    (hstray : s.strayReason (postedItem j b) = none) (hdeliver : (s.takeRecord r).deliverPan (postedItem j b) = some t) :
    s.postedWrite r =
      (t.sendSealed 0x02 (recHead r).src (recHead r).tag []).updJob fun j =>
        { j with owed := j.owed ++ [((recHead r).src, (recHead r).tag, (t.pathTo (recHead r).src).getD 3)] } := by
  unfold State.postedWrite
  refine (if_neg (by simp [htyp, hturn])).trans ?_
  rw [hjob]
  refine (if_neg (by simp [hkey])).trans ?_
  rw [hopen]
  refine (if_neg (by simp [hlive])).trans ((if_neg ?_).trans ?_)
  · change ¬ (48 ≤ byteAt b 1 ∨ 64 ≤ byteAt b 2 ∨ (s.strayReason (postedItem j b)).isSome = true)
    simp [hstray, hdest, hchan]
  · change (match (s.takeRecord r).deliverPan (postedItem j b) with | none => _ | some t => _) = _
    rw [hdeliver]

end

/-! ### The Carillon service (R575 to R578) -/

section
variable {s : State} {p rchan : Nat} {b : Bytes} {j : Job} (hjob : s.jobOf p = some j)
include hjob

theorem serviceItem_write (hdesc : descOk 0 b = true) (htarget : s.isTarget (byteAt b 0) = true) :
    s.serviceItem p 0 rchan b =
      (s.updJob fun j => { j with writes := j.writes + 1 }).sendTransfer 0 0x01 p rchan (byteAt b 0) (leAt b 4 4) j.epoch b := by
  unfold State.serviceItem
  rw [hjob]
  exact (if_pos rfl).trans (if_neg (by simp [hdesc, htarget]))

theorem serviceItem_read (hdesc : descOk 1 b = true) (htarget : s.isTarget (byteAt b 0) = true) :
    s.serviceItem p 1 rchan b = s.sendTransfer 1 0x04 p rchan (byteAt b 0) (leAt b 4 4) j.epoch (b.take 32) := by
  unfold State.serviceItem
  rw [hjob]
  exact (if_neg (by decide)).trans ((if_pos rfl).trans (if_neg (by simp [hdesc, htarget])))

theorem serviceItem_clear (hdesc : descOk 2 b = true) (hdirty : j.dirty = true) (hepoch : leAt b 16 4 = j.epoch)
    (hmere : s.isTreble = false) :
    s.serviceItem p 2 rchan b =
      (s.updJob fun j => { j with clearWait := j.clearWait ++ [(p, rchan)] }).sendSealed 0x06 s.treble 0
        ([BitVec.ofNat 8 p, 0, 0, 0] ++ leBytes 4 j.epoch) := by
  unfold State.serviceItem
  rw [hjob]
  refine (if_neg (by decide)).trans ((if_neg (by decide)).trans ((if_neg (by simp [hdesc, hdirty, hepoch])).trans ?_))
  exact if_neg (ne_true_of_eq_false hmere)

end

/-! ### Epochs (R573, R574) and time-outs (R580) -/

theorem advanceEpoch_advances {s : State} {j : Job} (hjob : s.car.job = some j) (htreble : s.isTreble = true) (hdue : advanceDue j = true)
    (hkey : j.key ≠ []) (hdone : (s.car.transfers.any fun t => t.kind == 0 && t.epoch == j.epoch) = false) :
    s.advanceEpoch =
      (s.peers.foldl (fun (s : State) p => s.sendSealed 0x11 p 0 (leBytes 4 (j.epoch + 1))) s).switchEpoch (j.epoch + 1) := by
  unfold State.advanceEpoch
  rw [hjob]
  refine if_neg ?_
  rw [htreble, hdue, hdone]
  simp [hkey]

section
variable {s : State} {tag : Nat} {u : Transfer}

theorem transferTimeout_write {j : Job}
    (htransfer : (s.car.transfers.find? fun t => t.kind == 0 && t.tag == tag && (t.timing || s.unacked t)) = some u)
    (hjob : s.car.job = some j) :
    s.transferTimeout 0 tag = (s.dropTransfer u).writeFailed j.ctx (s.failLink u.peer u.link) u.peer u.epoch u.tag := by
  unfold State.transferTimeout
  rw [htransfer]
  refine (if_pos rfl).trans ?_
  rw [hjob]

theorem transferTimeout_read
    (htransfer : (s.car.transfers.find? fun t => t.kind == 1 && t.tag == tag && (t.timing || s.unacked t)) = some u) :
    s.transferTimeout 1 tag = (s.dropTransfer u).completionItem u.pan u.rchan .linkDown u.tag [] := by
  unfold State.transferTimeout
  rw [htransfer]
  exact (if_neg (by decide)).trans (if_pos rfl)

theorem transferTimeout_message
    (htransfer : (s.car.transfers.find? fun t => t.kind == 2 && t.tag == tag && (t.timing || s.unacked t)) = some u)
    (hnone : (s.pathBut u.peer u.link).filter (fun _ => !u.resent) = none) :
    s.transferTimeout 2 tag = (s.dropTransfer u).leaveQuad.membersEvent := by
  unfold State.transferTimeout
  rw [htransfer]
  refine (if_neg (by decide)).trans ((if_neg (by decide)).trans ?_)
  rw [hnone]

end

/-- Settles O55: a record in its turn is opened and taken, a descriptor that is well formed goes out, and each time-out ends its
transfer. -/
theorem transferRowsRun : Obligations.TransferRowsRun := by
  unfold Obligations.TransferRowsRun
  intro s
  refine ⟨?service, ?posted, ?answers, ?read, ?held, ?clear, ?epoch, ?advance, ?timeout, ?dirty⟩
  case service =>
    intro p rc b j hjob
    exact ⟨fun hdesc htarget => answers (i := .carillonServiceItem p 0 rc b) rfl (serviceItem_write hjob hdesc htarget),
      fun hdesc htarget => answers (i := .carillonServiceItem p 1 rc b) rfl (serviceItem_read hjob hdesc htarget),
      fun hdesc hdirty hepoch hmere => answers (i := .carillonServiceItem p 2 rc b) rfl
        (serviceItem_clear hjob hdesc hdirty hepoch hmere)⟩
  case posted =>
    intro r b j t htyp hturn hjob hkey hopen it hlive hdest hchan hstray hdeliver
    exact answers (i := .postedWrite r) rfl (postedWrite_delivered hturn hopen htyp hjob hkey hlive hdest hchan hstray hdeliver)
  case answers =>
    intro r b u hturn hopen
    exact ⟨fun htyp h => answers (i := .writeAck r) rfl (writeAck_ends hturn hopen htyp h),
      fun htyp h => answers (i := .postedNotice r) rfl (postedNotice_fails hturn hopen htyp h),
      fun htyp h => answers (i := .readData r) rfl (readData_delivered hturn hopen htyp h)⟩
  case read =>
    intro r b ups htyp hturn hopen hfree hdesc hctx hlive hrange met t d n
    have hread := readReq_reads (ups := ups) hturn hopen htyp hfree hdesc hctx hlive hrange
    exact ⟨fun hn => answers (i := .readReq r ups) rfl (hread.trans (if_pos hn)),
      fun hn => answers (i := .readReq r ups) rfl (hread.trans (if_neg hn))⟩
  case held =>
    intro r b ups hopen hheld
    exact answers (i := .readReq r ups) rfl (readReq_waits hopen hheld)
  case clear =>
    intro r b j htyp hturn hopen hjob htreble hdirty hepoch hnew
    exact answers (i := .clear r) rfl (clearRecord_noted hturn hopen htyp hjob htreble hdirty hepoch hnew)
  case epoch =>
    intro r b j htyp hturn hopen hjob htreble hepoch
    exact answers (i := .epoch r) rfl (epochRecord_switches hturn hopen htyp hjob htreble hepoch)
  case advance =>
    intro j hjob htreble hdue hkey hdone
    exact answers (i := .epochAdvance) rfl (advanceEpoch_advances hjob htreble hdue hkey hdone)
  case timeout =>
    intro kind tag u htransfer
    refine ⟨fun hkind j hjob => ?_, fun hkind => ?_, fun hkind hnone => ?_⟩ <;> rw [hkind] at htransfer
    · refine answersAfter (i := .transferTimeout kind tag) rfl ?_
      rw [hkind]
      exact transferTimeout_write htransfer hjob
    · refine answersAfter (i := .transferTimeout kind tag) rfl ?_
      rw [hkind]
      exact transferTimeout_read htransfer
    · refine answersAfter (i := .transferTimeout kind tag) rfl ?_
      rw [hkind]
      exact transferTimeout_message htransfer hnone
  case dirty =>
    intro r b m t htyp hepoch hturn hopen hcode hwhole
    exact answersAfter (i := .epochDirty r) rfl (takeCtl_whole hturn hopen htyp hepoch hcode hwhole _)

end Sys2Proof.Machine
end

/-! The messages of a job that the members exchange (O56). -/
section
namespace Sys2Proof.Machine

open Sys2Proof

/-- A row takes the messages of one code: its command, the code, and what a whole message does. -/
def takesCtl (r : Bytes) (s : State) (e : Instr × Ctl × (Nat → Nat → Bytes → State → State)) : Prop :=
  exec e.1 s = s.done (s.takeCtl r e.2.1 e.2.2).after

section
variable {s : State} {r : Bytes} {c : Ctl} {f : Nat → Nat → Bytes → State → State} (htyp : (recHead r).typ = 0x10)
  (hepoch : (recHead r).epoch ≠ 0) (hturn : s.recordTurn r = true)
include htyp hepoch hturn

/-- A message whose tag fails is discarded and counted. -/
theorem takeCtl_unopened (hopen : s.openRecord r = none) : s.takeCtl r c f = (s.takeRecord r).discardRecord := by
  unfold State.takeCtl
  refine (if_neg (by simp [htyp, hepoch, hturn])).trans ?_
  rw [hopen]

/-- A message's records are gathered until its last. -/
theorem takeCtl_opened {b : Bytes} (hopen : s.openRecord r = some b) (hcode : byteAt b 0 = ctlCode c) :
    s.takeCtl r c f =
      match (s.takeRecord r).assemble (256 * (recHead r).src + ctlCode c) b with
      | (none, t) => t
      | (some m, t) => f (recHead r).ctx (recHead r).src m t := by
  unfold State.takeCtl
  refine (if_neg (by simp [htyp, hepoch, hturn])).trans ?_
  rw [hopen]
  refine (if_pos hcode).trans ?_
  obtain ⟨_ | m, t⟩ := (s.takeRecord r).assemble (256 * (recHead r).src + ctlCode c) b <;> rfl

end

/-- Settles O56: every row takes the messages of its own code alone, and what becomes of a message is the same for all of them until it
is whole. -/
theorem quadControlRowsRun : Obligations.QuadControlRowsRun := by
  unfold Obligations.QuadControlRowsRun
  intro r tally s htyp hepoch hturn i c f hmem
  have htakes : takesCtl r s (i, c, f) := by
    refine List.forall_iff_forall_mem.1 ?_ (i, c, f) hmem
    exact ⟨rfl, rfl, rfl, rfl, rfl, rfl, rfl, rfl, rfl, rfl, rfl, rfl, rfl, rfl, rfl, rfl, rfl, rfl, rfl, rfl, rfl, rfl, rfl⟩
  refine ⟨fun hopen => answersAfter htakes (takeCtl_unopened htyp hepoch hturn hopen), fun b hopen hcode => ?_⟩
  refine answersAfter htakes ((takeCtl_opened htyp hepoch hturn hopen hcode).trans ?_)
  obtain ⟨_ | m, t⟩ := (s.takeRecord r).assemble (256 * (recHead r).src + ctlCode c) b <;> rfl

end Sys2Proof.Machine
end

/-! Belfry's orders: how they come in, what each does, and how its reply leaves (O57, O58). -/
section
namespace Sys2Proof.Machine

open Sys2Proof

/-! ### How an order comes in (R624) -/

section
variable {s : State} {k q : Nat} {o : BelfryOrder}

section
variable {x : Session} (hsession : (s.belfry.sessions.find? fun x => x.id == k) = some x) (hrun : s.belfry.running = true)
include hsession hrun

/-- A request that was answered before is answered again. -/
theorem order_cached {e : Nat × Bytes} (hcache : (x.cache.find? fun e => e.1 == q) = some e) :
    s.order k q o = s.emit (.belfry k e.2) := by
  unfold State.order
  rw [hsession]
  refine (if_neg (by simp [hrun])).trans ?_
  rw [hcache]

/-- A new request is outstanding, and is served in its turn. -/
theorem order_new (hcache : (x.cache.find? fun e => e.1 == q) = none) (hnew : x.outstanding.contains q = false)
    (hroom : x.outstanding.length < 16) :
    s.order k q o =
      if !s.orderTurn (orderCode o) then
        { s.ordered k q with belfry := { (s.ordered k q).belfry with queue := s.belfry.queue ++ [(k, q, o)] } }
      else (s.ordered k q).serveOrder k q o := by
  unfold State.order
  rw [hsession]
  refine (if_neg (by simp [hrun])).trans ?_
  rw [hcache]
  exact (if_neg (ne_true_of_eq_false hnew)).trans (if_neg (Nat.not_le_of_lt hroom))

end

/-- An order that Belfry serves now runs. -/
theorem order_runs (htakes : s.takesOrder k q (orderCode o) = true) : s.order k q o = (s.ordered k q).runOrder k q o := by
  unfold State.takesOrder at htakes
  obtain ⟨⟨⟨hrun, hturn⟩, hallowed⟩, hnew⟩ := by simpa only [Bool.and_eq_true] using htakes
  split at hnew
  next x hsession =>
    obtain ⟨⟨hcache, hold⟩, hroom⟩ := by simpa only [Bool.and_eq_true] using hnew
    have hcache' : (x.cache.find? fun e => e.1 == q) = none := Option.isNone_iff_eq_none.1 hcache
    rw [order_new hsession hrun hcache' (Bool.not_eq_true' _ ▸ hold) (of_decide_eq_true hroom), hturn]
    exact if_neg (ne_true_of_eq_false (Bool.not_eq_true' _ ▸ hallowed))
  next => cases hnew

theorem order_closed (hclosed : s.sessionOpen k = false) : s.order k q o = s := by
  have hnone : (s.belfry.sessions.find? fun x => x.id == k) = none := by
    rw [List.find?_eq_none]
    exact List.any_eq_false.1 hclosed
  unfold State.order
  rw [hnone]

/-- The first order that waits is served next, while none is in service. -/
theorem nextOrders_first {e : Nat × Nat × BelfryOrder} {l : List (Nat × Nat × BelfryOrder)} (hqueue : s.belfry.queue = e :: l)
    (hfree : s.orderBusy = false) :
    s.nextOrders 1 = ({ s with belfry := { s.belfry with queue := l } } : State).serveOrder e.1 e.2.1 e.2.2 := by
  have hnext : s.nextOrder = some e := by
    unfold State.nextOrder
    rw [if_pos (by rw [hfree]; rfl), hqueue]
    rfl
  simp only [State.nextOrders, hnext, hqueue, List.erase_cons_head]

/-! ### Its reply (R623, R624) -/

/-- A session whose request is answered. -/
def replied (q : Nat) (m : Bytes) (x : Session) : Session :=
  { x with outstanding := x.outstanding.erase q, cache := (x.cache ++ [(q, m)]).drop (x.cache.length + 1 - 64) }

theorem replied_cache (q : Nat) (m : Bytes) (x : Session) : (replied q m x).cache.getLast? = some (q, m) := by
  unfold replied
  rw [List.getLast?_drop, if_neg (by simp), List.getLast?_concat]

theorem belfryReply_open {code : Nat} {st : Status} {body : Bytes} (hk : k < smbusSession) (hopen : s.sessionOpen k = true) :
    s.belfryReply k q code st body =
      (s.updSession k (replied q (belfryMsg q code (statusCode st) body))).emit (.belfry k (belfryMsg q code (statusCode st) body)) := by
  unfold State.belfryReply
  exact (if_neg (Nat.ne_of_lt hk)).trans (if_neg (by simp [hopen]))

/-- A session's reply is the last of its cache. -/
theorem belfryReply_cached {code : Nat} {st : Status} {body : Bytes} (hk : k < smbusSession) (hopen : s.sessionOpen k = true) :
    ∃ x, ((s.belfryReply k q code st body).belfry.sessions.find? fun x => x.id == k) = some x ∧
      x.cache.getLast? = some (q, belfryMsg q code (statusCode st) body) := by
  obtain ⟨x, hx⟩ := Option.isSome_iff_exists.1 (List.find?_isSome.2 (List.any_eq_true.1 hopen))
  have hid : (x.id == k) = true := List.find?_some (p := fun x : Session => x.id == k) hx
  have hsame (m : Bytes) : ((fun x : Session => x.id == k) ∘ fun x : Session => if x.id == k then replied q m x else x) = fun x => x.id == k := by
    funext x
    simp only [Function.comp_apply]
    split <;> rfl
  refine ⟨replied q (belfryMsg q code (statusCode st) body) x, ?_, replied_cache ..⟩
  rw [belfryReply_open hk hopen]
  change List.find? (fun x : Session => x.id == k) (s.belfry.sessions.map _) = _
  rw [List.find?_map, hsame, hx]
  exact congrArg some (if_pos hid)

end

/-- Settles O58: an order is answered from the cache, waits its turn, or is served; its reply is the last that its session keeps. -/
theorem ordersRunOnce : Obligations.OrdersRunOnce := by
  unfold Obligations.OrdersRunOnce
  intro k q code o s
  refine ⟨fun x e hsession hrun hcache => order_cached hsession hrun hcache, fun htakes => order_runs htakes,
    fun x hsession hrun hcache hnew hroom => ⟨fun hturn => ?waits, fun hturn hrefused => ?refused⟩,
    fun e l hqueue hfree => nextOrders_first hqueue hfree, fun hclosed => order_closed hclosed,
    fun st body hk hopen => belfryReply_cached hk hopen⟩
  case waits => exact (order_new hsession hrun hcache hnew hroom).trans (if_pos (by rw [hturn]; rfl))
  case refused =>
    exact (order_new hsession hrun hcache hnew hroom).trans ((if_neg (by rw [hturn]; decide)).trans (if_pos hrefused))

/-! ### What each order does -/

section
variable {s : State} {l : List (Reg × Nat × Nat)}

theorem writeAll_good (h : (l.findSome? fun w => regFault w.1 w.2.2) = none) :
    s.writeAll l =
      (.ok, (l.foldl (fun s w => s.putReg .belfry w.1 w.2.1 0 ((regPlace w.1).width / 8) w.2.2) s).announceMoved s) := by
  simp only [State.writeAll, h]

theorem writeAll_fault {st : Status} (h : (l.findSome? fun w => regFault w.1 w.2.2) = some st) : s.writeAll l = (st, s) := by
  simp only [State.writeAll, h]

end

section
variable (s : State) (k q : Nat)

/-- An order that is done at once, with an empty body. -/
theorem replyNow_empty (code : Nat) (r : Status × State) : State.replyNow k q code r (fun _ => []) = r.2.belfryReply k q code r.1 [] := by
  unfold State.replyNow
  split <;> rfl

/-- An order that is done at once and has a body. -/
theorem replyNow_ok (code : Nat) (body : State → Bytes) :
    State.replyNow k q code (.ok, s) body = s.belfryReply k q code .ok (body s) := by
  unfold State.replyNow
  exact congrArg (s.belfryReply k q code .ok) (if_pos rfl)

variable {s k q}

theorem runOrder_telemetry {n : Nat} (hlow : 1 ≤ n) (hhigh : n ≤ 512) :
    s.runOrder k q (.telemetry n) = s.belfryReply k q 0x02 .ok (s.telemetryBody n) := by
  change State.replyNow k q 0x02 (if 1 ≤ n ∧ n ≤ 512 then .ok else .refused, s) (fun s => s.telemetryBody n) = _
  rw [if_pos ⟨hlow, hhigh⟩, replyNow_ok]

theorem runOrder_powerCap {v : Nat} (hv : v < 2 ^ 32) :
    s.runOrder k q (.powerCap v) = (s.writeAll [(.govCap, 0, v)]).2.belfryReply k q 0x10 (s.writeAll [(.govCap, 0, v)]).1 [] := by
  change State.replyNow k q 0x10 (s.writeAll [(.govCap, 0, v % 2 ^ 32)]) (fun _ => []) = _
  rw [Nat.mod_eq_of_lt hv, replyNow_empty]

theorem runOrder_governor {a b c : Nat} (ha : a < 2 ^ 32) (hb : b < 2 ^ 32) (hc : c < 2 ^ 32) :
    s.runOrder k q (.governor a b c) =
      (s.writeAll [(.govCtl, 0, a), (.govVlimit, 0, b), (.govVfixed, 0, c)]).2.belfryReply k q 0x11
        (s.writeAll [(.govCtl, 0, a), (.govVlimit, 0, b), (.govVfixed, 0, c)]).1 [] := by
  change State.replyNow k q 0x11 (s.writeAll [(.govCtl, 0, a % 2 ^ 32), (.govVlimit, 0, b % 2 ^ 32), (.govVfixed, 0, c % 2 ^ 32)])
    (fun _ => []) = _
  rw [Nat.mod_eq_of_lt ha, Nat.mod_eq_of_lt hb, Nat.mod_eq_of_lt hc, replyNow_empty]

theorem evict_switches (hst : s.dev.st ≠ .untenanted) (hswitch : s.dev.switch = none) :
    s.evict k q = (((s.orderWaits k q 0x13).evictHost.voidAll .preempted).beginSwitch .device) := by
  have hwaiting : (s.orderWaits k q 0x13).dev.switch = none := hswitch
  unfold State.evict
  exact (if_neg (by simp [hst])).trans (if_neg (by simp [hwaiting]))

theorem evict_untenanted (hst : s.dev.st = .untenanted) : s.evict k q = s.belfryReply k q 0x13 .ok [] := by
  unfold State.evict
  exact if_pos (by rw [hst]; rfl)

theorem wakeOrder_begins (hwake : s.dev.wake = none) (hswitch : s.dev.switch = none) :
    s.wakeOrder k q = (s.orderWaits k q 0x16).beginWake (.belfry k q) := by
  unfold State.wakeOrder
  exact if_neg (by simp [hwake, hswitch])

theorem fwStage_writes {off flags : Nat} {data : Bytes} (hflags : flags < 2) (hfits : off + data.length ≤ slotBytes)
    (hlen : data.length ≤ 65528) :
    s.fwStage off flags data = (.ok, { s with belfry := { s.belfry with slots := updAt s.belfry.slots (1 - s.dev.fwSlot) fun x =>
      let x := if bitOf flags 0 then { x with erased := x.erased + 1, writes := [] } else x
      if data = [] then x else { x with writes := x.writes ++ [(off, data)] } } }) := by
  unfold State.fwStage
  exact (if_neg (by omega)).trans (if_neg (by omega))

theorem fwApply_verified (hfree : ∀ pf v, pf < 4 → (s.fn pf).serving = some v → cmdCode v.cmd ≠ 0x04) :
    s.fwApply k q =
      if Config.fwVerifies (1 - s.dev.fwSlot) (s.belfry.slots.getD (1 - s.dev.fwSlot) {}).erased
          (s.belfry.slots.getD (1 - s.dev.fwSlot) {}).writes then
        (({ s with belfry := { s.belfry with active := 1 - s.dev.fwSlot } } : State).belfryReply k q 0x21 .ok []).systemReset 3 false
      else s.belfryReply k q 0x21 .sigFail [] := by
  have hidle : ¬ ((List.range 4).any fun pf => (s.fn pf).serving.any fun v => cmdCode v.cmd == 0x04) = true := by
    rw [List.any_eq_true]
    rintro ⟨pf, hpf, hserving⟩
    rw [Option.any_eq_true_iff_get] at hserving
    obtain ⟨hsome, hcode⟩ := hserving
    exact hfree pf _ (List.mem_range.1 hpf) (Option.some_get hsome).symm (eq_of_beq hcode)
  unfold State.fwApply
  refine (if_neg hidle).trans ?_
  by_cases hverifies : Config.fwVerifies (1 - s.dev.fwSlot) (s.belfry.slots.getD (1 - s.dev.fwSlot) {}).erased
    (s.belfry.slots.getD (1 - s.dev.fwSlot) {}).writes = true
  · exact (if_neg (by rw [hverifies]; decide)).trans (if_pos hverifies).symm
  · exact (if_pos (by rw [eq_false_of_ne_true hverifies]; rfl)).trans (if_neg hverifies).symm

theorem runOrder_calWrite {r : Bytes} :
    s.runOrder k q (.calWrite r) =
      if calOk r then ({ s with belfry := { s.belfry with cal := if erased r then [] else r } } : State).belfryReply k q 0x22 .ok []
      else s.belfryReply k q 0x22 .refused [] := by
  change State.replyNow k q 0x22 (s.putCal r) (fun _ => []) = _
  rw [replyNow_empty]
  unfold State.putCal
  split <;> rfl

theorem runOrder_repairWrite {r : Bytes} :
    s.runOrder k q (.repairWrite r) =
      if (repairMap r).isSome then
        ({ s with belfry := { s.belfry with repair := if erased r then [] else r } } : State).belfryReply k q 0x23 .ok []
      else s.belfryReply k q 0x23 .refused [] := by
  change State.replyNow k q 0x23 (s.putRepair r) (fun _ => []) = _
  rw [replyNow_empty]
  unfold State.putRepair
  split <;> rfl

theorem runOrder_recordRead {w : Nat} (hw : w < 3) :
    s.runOrder k q (.recordRead w) = s.belfryReply k q 0x24 .ok (s.recordBody w) := by
  change State.replyNow k q 0x24 (if w < 3 then .ok else .badEnum, s) (fun s => s.recordBody w) = _
  rw [if_pos hw, replyNow_ok]

theorem unitReturn_pan {i : Nat} (hi : i < 48) (hst : (s.pan i).st = .retired) :
    s.unitReturn k q 1 i =
      let u := s.updPan i fun x => { x with st := .returning, map := [], need := 0 }
      ((List.range 384).foldl (fun (s : State) k => s.addTarget i k)
        (u.unitStateEvent 1 i (panCode .retired) (panCode .returning) (b2n (u.pan i).suspect))).orderWaits k q
        (0x25 + 256 * (1 * 256 + i)) := by
  unfold State.unitReturn
  exact if_pos ⟨hi, hst⟩

theorem unitReturn_pc {i : Nat} (hi : i < 128) (hst : (s.pc i).st = 2) (htenanted : s.tenanted = true) :
    s.unitReturn k q 2 i =
      ({ (s.setPc i 3 (s.pc i).cause) with stores := { (s.setPc i 3 (s.pc i).cause).stores with
        returning := (s.setPc i 3 (s.pc i).cause).stores.returning ++ [i]
        scrub := if (s.setPc i 3 (s.pc i).cause).stores.scrub = 0 then 2 else (s.setPc i 3 (s.pc i).cause).stores.scrub } } :
        State).orderWaits k q (0x25 + 256 * (2 * 256 + i)) := by
  unfold State.unitReturn
  exact if_pos ⟨hi, hst, htenanted⟩

theorem runOrder_addressSet {w : List (Nat × Nat)} {l : List (Reg × Nat × Nat)} (hw : w.mapM addressWrite = some l)
    (hl : (l.findSome? fun w => regFault w.1 w.2.2) = none) :
    s.runOrder k q (.addressSet w) =
      ((l.foldl (fun s w => s.putReg .belfry w.1 w.2.1 0 ((regPlace w.1).width / 8) w.2.2) s).announceMoved s).belfryReply k q
        0x30 .ok [] := by
  change State.replyNow k q 0x30 (s.addressSet w) (fun _ => []) = _
  have hset : s.addressSet w = s.writeAll l := by simp only [State.addressSet, hw]
  rw [replyNow_empty, hset, writeAll_good hl]

end

/-- Settles O57: an order that Belfry serves now is outstanding and runs, and the lemma about its order gives what it does and how it
is answered. -/
theorem belfryOrdersRun : Obligations.BelfryOrdersRun := by
  unfold Obligations.BelfryOrdersRun
  intro k q s t
  have hserve {i : Instr} {o : BelfryOrder} {u : State} (hexec : exec i s = s.done (s.order k q o).after)
      (htakes : s.takesOrder k q (orderCode o) = true) (h : t.runOrder k q o = u) :
      exec i s = .next { u.after with pending := s.pending } := answersAfter hexec ((order_runs htakes).trans h)
  refine ⟨?health, ?telemetry, ?powerCap, ?powerCapFault, ?governor, ?shutdown, ?evict, ?evictUntenanted, ?contextStop, ?reset, ?wake,
    ?fwStage, ?fwApply, ?calWrite, ?repairWrite, ?recordRead, ?returnPan, ?returnPc, ?addressSet, ?installSet⟩
  case health => exact fun htakes => hserve (i := .health k q) (o := .health) rfl htakes (replyNow_ok t k q 0x01 State.healthBody)
  case telemetry =>
    exact fun n htakes hlow hhigh => hserve (i := .telemetry k q n) (o := .telemetry n) rfl htakes (runOrder_telemetry hlow hhigh)
  case powerCap =>
    intro v htakes hv hgood
    have hwritten := writeAll_good (s := t) (l := [(.govCap, 0, v)]) (by simp [hgood])
    exact hserve (i := .powerCap k q v) (o := .powerCap v) rfl htakes ((runOrder_powerCap hv).trans (by rw [hwritten]; rfl))
  case powerCapFault =>
    intro v st htakes hv hfault _
    have hwritten := writeAll_fault (s := t) (l := [(.govCap, 0, v)]) (st := st) (by simp [hfault])
    exact hserve (i := .powerCap k q v) (o := .powerCap v) rfl htakes ((runOrder_powerCap hv).trans (by rw [hwritten]))
  case governor =>
    intro a b c htakes ha hb hc hctl hvlimit hvfixed
    have hwritten := writeAll_good (s := t) (l := [(.govCtl, 0, a), (.govVlimit, 0, b), (.govVfixed, 0, c)])
      (by simp [hctl, hvlimit, hvfixed])
    exact hserve (i := .governor k q a b c) (o := .governor a b c) rfl htakes
      ((runOrder_governor ha hb hc).trans (by rw [hwritten]; rfl))
  case shutdown => exact fun htakes => hserve (i := .shutdown k q) (o := .shutdown) rfl htakes rfl
  case evict =>
    exact fun htakes hst hswitch => hserve (i := .evict k q) (o := .evict) rfl htakes (evict_switches (s := t) hst hswitch)
  case evictUntenanted => exact fun htakes hst => hserve (i := .evict k q) (o := .evict) rfl htakes (evict_untenanted (s := t) hst)
  case contextStop =>
    exact fun c htakes hc => hserve (i := .contextStop k q c) (o := .contextStop c) rfl htakes (if_neg (Nat.not_le_of_lt hc))
  case reset => exact fun htakes => hserve (i := .reset k q) (o := .reset) rfl htakes rfl
  case wake =>
    exact fun htakes hwake hswitch => hserve (i := .wakeOrder k q) (o := .wake) rfl htakes (wakeOrder_begins (s := t) hwake hswitch)
  case fwStage =>
    intro off flags data htakes hflags hfits hlen
    have hwritten := fwStage_writes (s := t) hflags hfits hlen
    exact hserve (i := .fwStage k q off flags data) (o := .fwStage off flags data) rfl htakes
      ((replyNow_empty k q 0x20 (t.fwStage off flags data)).trans (by rw [hwritten]; rfl))
  case fwApply => exact fun htakes hfree => hserve (i := .fwApply k q) (o := .fwApply) rfl htakes (fwApply_verified (s := t) hfree)
  case calWrite => exact fun r htakes => hserve (i := .calWrite k q r) (o := .calWrite r) rfl htakes runOrder_calWrite
  case repairWrite => exact fun r htakes => hserve (i := .repairWrite k q r) (o := .repairWrite r) rfl htakes runOrder_repairWrite
  case recordRead =>
    exact fun w htakes hw => hserve (i := .recordRead k q w) (o := .recordRead w) rfl htakes (runOrder_recordRead hw)
  case returnPan =>
    exact fun i htakes hi hst => hserve (i := .unitReturn k q 1 i) (o := .unitReturn 1 i) rfl htakes (unitReturn_pan (s := t) hi hst)
  case returnPc =>
    exact fun i htakes hi hst htenanted => hserve (i := .unitReturn k q 2 i) (o := .unitReturn 2 i) rfl htakes
      (unitReturn_pc (s := t) hi hst htenanted)
  case addressSet =>
    exact fun w l htakes hw hl => hserve (i := .addressSet k q w) (o := .addressSet w) rfl htakes (runOrder_addressSet hw hl)
  case installSet => exact fun r htakes => hserve (i := .installSet k q r) (o := .installSet r) rfl htakes rfl

end Sys2Proof.Machine
end

/-! Belfry's other rows: sessions, SMBus, MCTP and SPDM, the record of repairs, the management port (O59). -/
section
namespace Sys2Proof.Machine

open Sys2Proof

/-- A row whose effect leaves the queue of commands as it stands answers with that effect. -/
theorem answersWith {i : Instr} {s t u : State} (hexec : exec i s = s.done t) (h : t = u) (hqueue : u.pending = s.pending) :
    exec i s = .next u := by
  refine (answers hexec h).trans ?_
  rw [← hqueue]

/-! ### Sessions and local orders (R619 to R622, R636, R638) -/

section
variable {s : State}

theorem handshake_opens {k : Nat} {a : Bytes} (hup : s.tlsUp = true) (hk : k < smbusSession)
    (hanchor : s.belfry.install.anchors.contains a = true) (hroom : s.belfry.sessions.length < 4) (hnew : s.sessionOpen k = false)
    (hidle : (s.belfry.waiting.any fun w => w.1 == k) = false) :
    s.handshake k a true true true = { s with belfry := { s.belfry with sessions := s.belfry.sessions ++ [{ id := k }] } } := by
  unfold State.handshake
  refine (if_neg ?_).trans (if_neg ?_)
  · simp [hup, hk]
  · have hroom' : ¬ 4 ≤ s.belfry.sessions.length := Nat.not_le_of_lt hroom
    rw [hanchor, hnew, hidle, decide_eq_false hroom']
    decide

theorem meetTamper_none (hclean : s.dev.muffledTamper = false) : s.meetTamper = s := by
  unfold State.meetTamper
  exact if_neg (by simp [hclean])

theorem belfryReply_smbus (q code : Nat) (st : Status) (body : Bytes) :
    s.belfryReply smbusSession q code st body = s.emit (.smbus (beBytes 2 (statusCode st) ++ body)) := by
  unfold State.belfryReply
  exact if_pos rfl

section
variable (hrun : s.belfry.running = true) (hclean : s.dev.muffledTamper = false)
include hrun hclean

theorem localHealth_answers :
    s.localHealth = { (s.belfryReply smbusSession 0 0x01 .ok s.healthBody) with power := { s.power with smbAlertN := true } } := by
  unfold State.localHealth
  refine (if_neg (by simp [hrun])).trans ?_
  simp only [meetTamper_none hclean, belfryReply_smbus]
  rfl

theorem installLocal_installs {r : Install} (htenant : s.tenanted = false) (hswitch : s.dev.switch = none) (hst : s.dev.st ≠ .locked)
    (hok : installOk r = true) : s.installLocal r = (s.putInstall r).closeSessions.belfryReply smbusSession 0 0x31 .ok [] := by
  unfold State.installLocal
  refine (if_neg (by simp [hrun])).trans ?_
  rw [meetTamper_none hclean]
  exact if_neg (by simp [htenant, hswitch, hst, hok])

theorem powerDown_shuts (hidle : (s.belfry.waiting.any fun w => w.1 == smbusSession) = false) (hlocked : s.dev.st ≠ .locked)
    (hheld : s.dev.st ≠ .held) (hup : s.dev.shutDown = false) (hshutting : s.dev.shutting = none) :
    s.powerDown = s.shutdownOrder smbusSession 0 := by
  have hwait : ¬ (!s.belfry.running || s.belfry.waiting.any fun w => w.1 == smbusSession) = true := by
    rw [hidle, hrun]
    decide
  unfold State.powerDown
  refine (if_neg hwait).trans ((if_neg (ne_true_of_eq_false hclean)).trans ((if_neg ?_).trans (if_neg ?_)))
  · simp [hlocked, hheld]
  · simp [hup, hshutting]

end

/-! ### The record of repairs (R633) -/

/-- The entries of the user repair record, where it is one. -/
def State.repairEntries (s : State) : List Bytes := if (repairMap s.belfry.repair).isSome then recordEntries 8 s.belfry.repair else []

theorem repairAppend_fits {e : Bytes} {rest : List Bytes} (hpending : s.belfry.pendingRepairs = e :: rest)
    (hrun : s.belfry.running = true) (hroom : s.repairEntries.length + 1 ≤ 131070) :
    s.repairAppend =
      { s with belfry := { s.belfry with pendingRepairs := rest, repair := repairRecord (s.repairEntries ++ [e]) } } := by
  have hl : (if 131070 < s.repairEntries.length + 1 then compact (s.repairEntries ++ [e]) else s.repairEntries ++ [e]) =
    s.repairEntries ++ [e] := if_neg (Nat.not_lt_of_le hroom)
  have hfits : ¬ 131070 < (s.repairEntries ++ [e]).length := by
    rw [List.length_append]
    exact Nat.not_lt_of_le hroom
  unfold State.repairAppend
  rw [hpending]
  refine (if_neg (by simp [hrun])).trans ?_
  unfold State.repairEntries at hl hfits
  dsimp only
  rw [hl]
  exact if_neg hfits

/-! ### SPDM (R637) -/

/-- A request that Belfry answers in its negotiation is run. -/
theorem spdm_runs {msg : Bytes} {code version len need : Nat} (htakes : s.spdmTakes msg code version len need = true)
    (hversion : version = if code = 0x84 then 0x10 else 0x12) (run : State → State) : s.spdm msg code len need run = run s := by
  unfold State.spdmTakes at htakes
  obtain ⟨⟨⟨⟨hrun, hcode⟩, hver⟩, hlen⟩, hneed⟩ := by simpa only [Bool.and_eq_true] using htakes
  unfold State.spdm
  refine (if_neg ?_).trans ((if_neg ?_).trans ((if_neg ?_).trans (if_neg ?_)))
  · simp [hrun, eq_of_beq hcode]
  · exact not_not_intro ((eq_of_beq hver).trans hversion)
  · exact Nat.not_lt_of_le (of_decide_eq_true hlen)
  · exact Nat.not_lt_of_le (of_decide_eq_true hneed)

/-- The answer to GET_CAPABILITIES: certificates, challenge, signed measurements. -/
def capabilities : Bytes :=
  [0x12, 0x61, 0, 0, 0, BitVec.ofNat 8 (Config.spdmLimit 0), 0, 0] ++ leBytes 4 0x16 ++ leBytes 4 (Config.spdmLimit 1) ++
    leBytes 4 (Config.spdmLimit 2)

theorem capabilities_spec : capabilities.take 4 = [0x12, 0x61, 0, 0] ∧ leAt capabilities 8 4 = 0x16 := ⟨rfl, rfl⟩

/-- A choice of NEGOTIATE_ALGORITHMS: the bit that Belfry has, where the request offers it. -/
def spdmPick (msg : Bytes) (off bit : Nat) : Nat := if bitOf (leAt msg off 4) bit then 2 ^ bit else 0

/-- The answer to NEGOTIATE_ALGORITHMS: ECDSA P-384 and SHA-384. -/
def algorithms (msg : Bytes) : Bytes :=
  [0x12, 0x63, 0, 0] ++ leBytes 2 36 ++ [BitVec.ofNat 8 (byteAt msg 6 % 2), 0] ++ leBytes 4 4 ++ leBytes 4 (spdmPick msg 8 7) ++
    leBytes 4 (spdmPick msg 12 1) ++ List.replicate 12 0 ++ [0, 0, 0, 0]

theorem algorithms_length (msg : Bytes) : (algorithms msg).length = 36 := rfl

theorem algorithms_version (msg : Bytes) : leAt (algorithms msg) 8 4 = 4 := by
  change leAt (leBytes 4 4) 0 4 = 4
  decide

theorem algorithms_signature (msg : Bytes) : leAt (algorithms msg) 12 4 = if bitOf (leAt msg 8 4) 7 then 128 else 0 := by
  change leAt (leBytes 4 (spdmPick msg 8 7)) 0 4 = _
  unfold spdmPick
  split <;> rfl

/-- The answer to GET_CERTIFICATE: a part of the chain of slot 0. -/
def certificatePart (msg : Bytes) : Bytes :=
  [0x12, 0x02, 0, 0] ++ leBytes 2 ((certChain.drop (leAt msg 4 2)).take (leAt msg 6 2)).length ++
    leBytes 2 (certChain.length - leAt msg 4 2 - ((certChain.drop (leAt msg 4 2)).take (leAt msg 6 2)).length) ++
    (certChain.drop (leAt msg 4 2)).take (leAt msg 6 2)

theorem certificatePart_drop (msg : Bytes) : (certificatePart msg).drop 8 = (certChain.drop (leAt msg 4 2)).take (leAt msg 6 2) := rfl

end

/-- Settles O59: each row's conditions select its branch; a repair that fits is appended as it is. -/
theorem belfryLocalRowsRun : Obligations.BelfryLocalRowsRun := by
  unfold Obligations.BelfryLocalRowsRun
  intro s
  refine ⟨?handshake, ?localOrders, ?alert, ?mctp, ?mctpSet, ?version, ?capabilities, ?algorithms, ?digests, ?certificate, ?challenge,
    ?measurements, ?repair, ?link, ?frame, ?unlisted, ?broken⟩
  case handshake =>
    intro k a hup hk hanchor hroom hnew hidle
    exact answers (i := .tlsHandshake k a true true true) rfl (handshake_opens hup hk hanchor hroom hnew hidle)
  case localOrders =>
    intro hrun hclean
    refine ⟨?health, fun r htenant hswitch hst hok => ?install, fun hidle hlocked hheld hup hshutting => ?down⟩
    case health =>
      rw [belfryReply_smbus]
      exact answers (i := .localHealth) rfl ((localHealth_answers hrun hclean).trans (by rw [belfryReply_smbus]))
    case install => exact answers (i := .install r) rfl (installLocal_installs hrun hclean htenant hswitch hst hok)
    case down =>
      exact answersAfter (i := .powerDown) rfl (powerDown_shuts hrun hclean hidle hlocked hheld hup hshutting)
  case alert =>
    intro hrun halert
    exact answers (i := .smbusAlertResponse) rfl (if_pos (by simp [hrun, halert]))
  case mctp =>
    intro msg hrun hzero hrequest hcode
    have hrequest' : ¬ byteAt msg 1 < 128 := Nat.not_lt_of_le hrequest
    refine answersWith (s := s) (i := .mctpControl msg) rfl ((if_neg (by simp [hrun, hzero, hrequest'])).trans ?_) rfl
    exact congrArg (fun t : State => t.emit (.smbus (mctpAnswer t.belfry.eid msg))) (if_neg (by simp [hcode]))
  case mctpSet =>
    intro msg hrun hzero hrequest hcode hop hlow hhigh
    have hrequest' : ¬ byteAt msg 1 < 128 := Nat.not_lt_of_le hrequest
    refine answersWith (s := s) (i := .mctpControl msg) rfl ((if_neg (by simp [hrun, hzero, hrequest'])).trans ?_) rfl
    exact congrArg (fun t : State => t.emit (.smbus (mctpAnswer t.belfry.eid msg))) (if_pos (by simp [hcode, hop, hlow, hhigh]))
  case version => exact fun msg htakes => answers (i := .getVersion msg) rfl (spdm_runs htakes rfl _)
  case capabilities =>
    intro msg htakes hstate
    exact ⟨capabilities, answers (i := .getCapabilities msg) rfl ((spdm_runs htakes rfl _).trans (if_neg (not_not_intro hstate))),
      capabilities_spec⟩
  case algorithms =>
    intro msg htakes hstate
    exact ⟨algorithms msg,
      answers (i := .negotiateAlgorithms msg) rfl ((spdm_runs htakes rfl _).trans (if_neg (not_not_intro hstate))),
      algorithms_length msg, algorithms_version msg, algorithms_signature msg⟩
  case digests => exact fun msg htakes => answers (i := .getDigests msg) rfl (spdm_runs htakes rfl _)
  case certificate =>
    intro msg htakes hslot hoff
    refine ⟨certificatePart msg, answers (i := .getCertificate msg) rfl ((spdm_runs htakes rfl _).trans (if_neg ?_)),
      certificatePart_drop msg⟩
    exact not_or.2 ⟨not_not_intro hslot, Nat.not_le_of_lt hoff⟩
  case challenge =>
    intro msg htakes hslot hkind
    refine answers (i := .challenge msg) rfl ((spdm_runs htakes rfl _).trans ((if_neg (by simp [hslot, hkind])).trans ?_))
    simp only [hkind, if_true]
  case measurements =>
    intro msg htakes hsigned hop
    refine answers (i := .getMeasurements msg) rfl ((spdm_runs htakes rfl _).trans ((if_neg (by simp [hsigned, hop])).trans ?_))
    refine (if_neg (ne_true_of_eq_false hsigned)).trans ?_
    cases s.draw 0 32 <;> simp only [hop] <;> rfl
  case repair =>
    intro e rest hpending hrun old hroom
    exact answers (s := s) (i := .repairAppend) rfl (repairAppend_fits hpending hrun hroom)
  case link =>
    intro st hrun hst
    exact answers (i := .belfryPortLink st) rfl (if_neg (by simp [hrun, hst]))
  case frame =>
    intro f hrun hport hlen hfcs hmine
    have hlen' : ¬ f.length < 64 := Nat.not_lt_of_le hlen
    refine Eq.trans (answers (s := s) (i := .managementPortFrame f) rfl (if_neg ?_)) ?_
    · obtain hmac | hall := hmine <;> simp [*]
    · cases s.mgmtAnswer f <;> rfl
  case unlisted =>
    intro k h hopen hlen hmagic hbody hzero hcode
    have hbody' : ¬ 65536 < beAt h 8 4 := Nat.not_lt_of_le hbody
    refine answers (i := .unlistedOrder k h) rfl ((if_neg (by simp [hopen])).trans ((if_neg ?_).trans ((if_neg ?_).trans ?_)))
    · simp [hlen, hmagic, hbody', hzero]
    · rw [hcode]
      decide
    · rw [hcode]
  case broken =>
    intro k h hopen hlen
    exact answers (i := .unlistedOrder k h) rfl ((if_neg (by simp [hopen])).trans (if_pos (by simp [hlen])))

end Sys2Proof.Machine
end

/-! Debug operations, Sweep slices, self-tests, scrubs, returns and the end of a wake (O60). -/
section
namespace Sys2Proof.Machine

open Sys2Proof

/-! ### Debug operations (R528, R535) -/

section
variable {s : State} {op entry : Nat} {ups : List (Nat × Upset)}

/-- An operation outside its scope does nothing but say so. -/
theorem dbgCmd_forbidden (hreach : s.reaches (.host 0) .bar2 = true) (hscope : s.dbg.scope = 0) :
    s.dbgCmd op entry ups = { s with dbg := { s.dbg with status := statusCode .policyForbids } } := by
  have hclosed : ¬ bitOf s.dbg.scope (dbgScope op) = true := by simp [hscope, bitOf]
  unfold State.dbgCmd State.dbgOp
  exact (if_pos hreach).trans (if_pos (by rw [eq_false_of_ne_true hclosed]; rfl))

/-- An operation in its scope. -/
def State.dbgServed (s : State) (op entry : Nat) (ups : List (Nat × Upset)) : State :=
  match op with
  | 1 => s.dbgRead ups
  | 2 => s.dbgHalt
  | 3 => s.dbgStep
  | 4 => s.dbgResume
  | 5 => s.dbgRouteWrite entry
  | _ => s

theorem dbgCmd_allowed (hreach : s.reaches (.host 0) .bar2 = true) (hscope : bitOf s.dbg.scope (dbgScope op) = true) :
    s.dbgCmd op entry ups = s.dbgServed op entry ups := by
  have hopen : ¬ (!bitOf s.dbg.scope (dbgScope op)) = true := by
    rw [hscope]
    decide
  clear hscope
  unfold State.dbgCmd State.dbgOp
  exact (if_pos hreach).trans ((if_neg hopen).trans rfl)

end

section
variable {s : State} (hst : (s.pan s.dbgPan).st ≠ .retired)
include hst

theorem dbgRead_sequencer {ups : List (Nat × Upset)} (hsel : bitOf (s.reg .dbgSel 0) 8 = true) (haddr : s.reg .dbgAddr 0 ≤ 34) :
    s.dbgRead ups =
      { s with dbg := { s.dbg with data := seqState (s.pan s.dbgPan) (s.reg .dbgAddr 0), status := statusCode .ok } } := by
  unfold State.dbgRead
  exact (if_neg (by simp [hst])).trans ((if_pos hsel).trans (if_neg (Nat.not_lt_of_le haddr)))

section
variable {ups : List (Nat × Upset)} (hsel : bitOf (s.reg .dbgSel 0) 8 = false) (hrange : s.reg .dbgAddr 0 < panBytes (s.pan s.dbgPan))
  (halign : s.reg .dbgAddr 0 % 8 = 0)
include hsel hrange halign

theorem dbgRead_memory :
    s.dbgRead ups =
      if s.held s.dbgPan (s.reg .dbgAddr 0) 8 then
        { s with sweep := { s.sweep with held := s.sweep.held ++ [.debugRead s.dbgPan (s.reg .dbgAddr 0) ups] } }
      else s.dbgWord s.dbgPan (s.reg .dbgAddr 0) ups := by
  unfold State.dbgRead
  refine (if_neg (by simp [hst])).trans ((if_neg (ne_true_of_eq_false hsel)).trans (if_neg ?_))
  exact not_or.2 ⟨Nat.not_le_of_lt hrange, not_not_intro halign⟩

end

theorem dbgStep_issues (hhalt : (s.pan s.dbgPan).debugHalt = true) :
    s.dbgStep = (s.issueAny s.dbgPan ((fetched (s.pan s.dbgPan)).headD 0) true).dbgEnd .ok := by
  unfold State.dbgStep
  exact if_neg (by simp [hst, hhalt])

theorem dbgResume_resumes :
    s.dbgResume =
      { s.updPan s.dbgPan (fun q => { q with debugHalt := false }) with dbg := { s.dbg with status := statusCode .ok } } := by
  unfold State.dbgResume
  exact if_neg (by simp [hst])

theorem dbgRouteWrite_writes {n : Nat} (hgood : routeBad (List.range 48) (s.reg .dbgRoute 0) = false) (hroute : s.reg .dbgRoute 0 ≠ 0) :
    s.dbgRouteWrite n =
      { s.updPan s.dbgPan (fun q => { q with
        routes := insertN q.routes n (s.reg .dbgRoute 0), routePending := (q.routePending.filter (· != n)) ++ [n] }) with
        dbg := { s.dbg with status := statusCode .ok } } := by
  unfold State.dbgRouteWrite
  refine (if_neg (by simp [hst, hgood])).trans ?_
  simp only [hroute, if_false]
  rfl

end

theorem dbgHalt_running {s : State} (hrun : (s.pan s.dbgPan).st = .running) :
    s.dbgHalt = { s.updPan s.dbgPan (fun q => { q with debugHalt := true }) with dbg := { s.dbg with status := statusCode .ok } } := by
  unfold State.dbgHalt
  dsimp only
  rw [hrun]
  rfl

section
variable {s : State} {p a : Nat} {ups : List (Nat × Upset)}

theorem dbgWord_reads (hgood : failingIn (s.pan p) ups a 8 = []) :
    s.dbgWord p a ups =
      let t := (upsetsIn ups a 8).foldl (fun (t : State) u => t.meetUpset p 0 u) s
      { t with dbg := { t.dbg with data := leNat (Memory.readN (t.pan p).mem a 8), status := statusCode .ok } } := by
  unfold State.dbgWord
  rw [hgood]
  rfl

theorem dbgWord_fails {w : Nat} {ws : List Nat} (hbad : failingIn (s.pan p) ups a 8 = w :: ws) :
    s.dbgWord p a ups = (s.panLost p (w :: ws) none 0).dbgEnd .uncorrectable := by
  unfold State.dbgWord
  rw [hbad]

end

/-! ### Sweep slices (R651 to R654) -/

section
variable {s : State} (hruns : s.sweepRuns = true) (hfree : s.sweep.slice = none)
include hruns hfree

theorem sweepSliceStart_target {t : Nat × Nat} (htarget : (s.sweep.targets.find? fun t => !s.beingWritten t.1) = some t) :
    exec .sweepSliceStart s =
      s.done (({ s with sweep := { s.sweep with targets := s.sweep.targets.filter (· != t) } } : State).beginSlice t.1 t.2 true) := by
  change execSweepSliceStart s = _
  unfold execSweepSliceStart
  refine (if_neg (by simp [hruns, hfree])).trans ?_
  rw [htarget]

theorem sweepSliceStart_next {k : Nat} (htarget : (s.sweep.targets.find? fun t => !s.beingWritten t.1) = none)
    (hnext : s.nextPos s.sweep.pos (18432 - s.sweep.pos) = some k) (hidle : s.beingWritten (k % 48) = false) (hmore : k + 1 < 18432) :
    exec .sweepSliceStart s =
      s.done (({ s with sweep := { s.sweep with pos := k + 1 } } : State).beginSlice (k % 48) (k / 48) false) := by
  change execSweepSliceStart s = _
  unfold execSweepSliceStart
  refine (if_neg (by simp [hruns, hfree])).trans ?_
  rw [htarget]
  dsimp only
  rw [hnext]
  refine (if_neg (ne_true_of_eq_false hidle)).trans ?_
  simp only [Nat.ne_of_lt hmore, if_false]
  rfl

end

theorem sliceEnds_ends {s : State} {l : Slice} {fails : List RowFail} {lost : List Nat} {n : Nat} {scratch : Bool}
    (hslice : s.sweep.slice = some l) (hgood : s.power.vddc = .good) :
    s.sliceEnds fails lost n scratch = (s.endSlice l fails lost n scratch).returnSwept l.pan := by
  unfold State.sliceEnds
  rw [hslice]
  exact if_neg (by simp [hgood])

/-! ### Self-tests (R659) -/

theorem settlePan_dev (s : State) (p : Nat) : (s.settlePan p).dev = s.dev := by
  unfold State.settlePan
  dsimp only
  split <;> rfl

section
variable {s : State} {p : Nat} (htesting : s.sweep.testing.contains p = true) (hfirst : s.sweep.failedOnce = [])
include htesting hfirst

theorem selfTestDone_again : s.selfTestDone p false = { s with sweep := { s.sweep with failedOnce := [p] } } := by
  unfold State.selfTestDone
  refine (if_neg (by rw [htesting]; decide)).trans ((if_pos (by rw [hfirst]; rfl)).trans ?_)
  rw [hfirst]
  rfl

theorem selfTestDone_passes (hswitch : s.dev.switch = none) :
    s.selfTestDone p true =
      (({ s with sweep := { s.sweep with testing := s.sweep.testing.filter (· != p) } } : State).updPan p fun q =>
        { q with retriedTest := false }).settlePan p := by
  have hagain : s.sweep.failedOnce.contains p = false := by
    rw [hfirst]
    rfl
  have hfilter : s.sweep.failedOnce.filter (· != p) = s.sweep.failedOnce := by
    rw [hfirst]
    rfl
  unfold State.selfTestDone
  refine (if_neg (by rw [htesting]; decide)).trans ((if_neg (by simp)).trans ?_)
  dsimp only
  rw [hagain, hfilter]
  refine if_neg ?_
  have hidle (t : State) (ht : t.dev = s.dev) : ¬ (t.sweep.testing == [] && t.dev.switch.any fun w => w.step == 5) = true := by
    rw [ht, hswitch]
    simp
  exact hidle _ (settlePan_dev ..)

end

/-! ### Scrubs and returns (R549, R550) -/

theorem steady_setPc (s : State) (i new cause : Nat) : steady s (s.setPc i new cause) := by
  unfold State.setPc
  extract_lets old t
  have ht : steady s t := steady_of_same rfl rfl rfl rfl rfl rfl ⟨rfl, rfl, rfl, rfl⟩
  split
  · exact ht
  · exact ht.trans (steady_unitStateEvent ..)

theorem endScrub_dev {s : State} (m : List Nat) (hst : s.dev.st = .untenanted) : (s.endScrub m).dev = s.dev := by
  have hfence (s : State) (i : Nat) : steady s (if (s.pc i).st = 0 ∧ i < 128 then s.setPc i 1 3 else s) := by
    split
    · exact steady_setPc ..
    · exact .refl s
  exact (steady_foldl hfence m s).dev (by rw [hst]; decide) (by rw [hst]; decide)

theorem scrubComplete_untenanted {s : State} (m : List Nat) (hscrub : s.stores.scrub = 1) (hclean : s.dev.muffledTamper = false)
    (hst : s.dev.st = .untenanted) (hswitch : s.dev.switch = none) (hshutting : s.dev.shutting = none) :
    s.scrubComplete m = s.endScrub m := by
  have hdev := endScrub_dev m hst
  unfold State.scrubComplete
  refine (if_neg (not_not_intro hscrub)).trans ((if_neg ?_).trans ((if_neg ?_).trans ?_))
  · rw [hdev, hclean]
    decide
  · rw [hdev, hst]
    decide
  · rw [hdev, hswitch]
    exact if_neg (by simp [hshutting])

theorem setPc_belfry (s : State) (i new cause : Nat) : (s.setPc i new cause).belfry.waiting = s.belfry.waiting := by
  unfold State.setPc
  extract_lets old t
  split
  · rfl
  · obtain ⟨qs, rg, fs, o, tq, al, heq, -⟩ := eventsOnly_unitStateEvent t 2 i old new 0
    rw [heq]
    rfl

theorem pcReturnDone_passes {s : State} {i : Nat} (hreturning : s.stores.returning.contains i = true) (hwaiting : s.belfry.waiting = []) :
    s.pcReturnDone i true =
      (({ s with stores := { s.stores with
        returning := s.stores.returning.filter (· != i)
        scrub := if s.stores.scrub = 2 ∧ s.stores.returning.filter (· != i) = [] then 0 else s.stores.scrub } } :
        State).setPc i 0 0).persist (repairEntry 7 i 0 0 0) := by
  unfold State.pcReturnDone
  refine (if_neg (by rw [hreturning]; decide)).trans ?_
  dsimp only
  rw [if_pos rfl]
  have hnone (t : State) (ht : t.belfry.waiting = []) :
      (match t.belfry.waiting.find? fun w => w.2.2 == 0x25 + 256 * (2 * 256 + i) with
        | some w => t.belfryAnswer w.1 w.2.1 (if true then .ok else .lastingFault) []
        | none => t) = t := by
    rw [ht]
    rfl
  refine Eq.trans ?_ (hnone _ ((setPc_belfry ..).trans hwaiting))
  rfl

/-! ### The end of a wake (R149) -/

theorem wakeComplete_ends {s : State} {w : Wake} (hwake : s.dev.wake = some w) (hstep : w.step = 3) (hgood : s.power.vddc = .good)
    (htested : s.sweep.testing = []) (hst : s.dev.st = .muffled) :
    s.wakeComplete =
      ({ s with dev := { s.dev with wake := none, st := .tenantedIdle }, stores := { s.stores with selfRefresh := false } } :
        State).answer w.by_ .ok [BitVec.ofNat 8 (devCode .tenantedIdle)] := by
  unfold State.wakeComplete
  rw [hwake]
  exact if_neg (by simp [hstep, hgood, htested, hst])

/-- Settles O60: an operation in its scope runs, one outside it only says so; each other row's conditions select its branch, and the end of
a scrub, of a test or of a return leaves the state of the device as the branch needs it. -/
theorem maintenanceRowsRun : Obligations.MaintenanceRowsRun := by
  unfold Obligations.MaintenanceRowsRun
  intro s
  refine ⟨?debug, ?forbidden, ?sliceStart, ?sliceEnd, ?selfTest, ?scrub, ?returns, ?wake⟩
  case debug =>
    intro hreach hst
    refine ⟨?sequencer, ?memory, ?halt, ?step, ?resume, ?route⟩
    case sequencer =>
      intro ups hscope hsel haddr
      exact answersWith (i := .dbgRead ups) rfl ((dbgCmd_allowed (op := 1) hreach hscope).trans (dbgRead_sequencer hst hsel haddr)) rfl
    case memory =>
      intro ups hscope hsel hrange halign
      have hread := (dbgCmd_allowed (entry := 0) (ups := ups) (op := 1) hreach hscope).trans (dbgRead_memory hst hsel hrange halign)
      exact ⟨fun hheld => answersWith (i := .dbgRead ups) rfl (hread.trans (if_pos hheld)) rfl,
        fun hfree hgood => answers (i := .dbgRead ups) rfl (hread.trans ((if_neg (ne_true_of_eq_false hfree)).trans (dbgWord_reads hgood))),
        fun w ws hfree hbad =>
          answers (i := .dbgRead ups) rfl (hread.trans ((if_neg (ne_true_of_eq_false hfree)).trans (dbgWord_fails hbad)))⟩
    case halt =>
      exact fun hscope hrun => answersWith (i := .dbgHalt) rfl ((dbgCmd_allowed (op := 2) hreach hscope).trans (dbgHalt_running hrun)) rfl
    case step =>
      exact fun hscope hhalt => answersAfter (i := .dbgStep) rfl ((dbgCmd_allowed (op := 3) hreach hscope).trans (dbgStep_issues hst hhalt))
    case resume =>
      exact fun hscope => answersWith (i := .dbgResume) rfl ((dbgCmd_allowed (op := 4) hreach hscope).trans (dbgResume_resumes hst)) rfl
    case route =>
      exact fun n hscope hgood hroute => answersWith (i := .dbgRouteWrite n) rfl
        ((dbgCmd_allowed (op := 5) hreach hscope).trans (dbgRouteWrite_writes hst hgood hroute)) rfl
  case forbidden =>
    intro hreach hscope ups i hmem
    refine (List.forall_iff_forall_mem
      (p := fun i => exec i s = .next { s with dbg := { s.dbg with status := statusCode .policyForbids } })).1 ?_ i hmem
    exact ⟨answersWith (i := .dbgRead ups) rfl (dbgCmd_forbidden hreach hscope) rfl,
      answersWith (i := .dbgHalt) rfl (dbgCmd_forbidden hreach hscope) rfl,
      answersWith (i := .dbgResume) rfl (dbgCmd_forbidden hreach hscope) rfl,
      answersWith (i := .dbgRouteWrite 0) rfl (dbgCmd_forbidden hreach hscope) rfl⟩
  case sliceStart =>
    intro hruns hfree
    exact ⟨fun t htarget => sweepSliceStart_target hruns hfree htarget,
      fun k htarget hnext hidle hmore => sweepSliceStart_next hruns hfree htarget hnext hidle hmore⟩
  case sliceEnd =>
    intro l fails lost n scratch hslice hgood
    exact answersAfter (i := .sweepSliceEnd fails lost n scratch) rfl (congrArg State.runHeld (sliceEnds_ends hslice hgood))
  case selfTest =>
    intro p htesting hfirst hswitch
    exact ⟨answersAfter (i := .logicSelfTestDone p false) rfl (selfTestDone_again htesting hfirst),
      answersAfter (i := .logicSelfTestDone p true) rfl (selfTestDone_passes htesting hfirst hswitch)⟩
  case scrub =>
    intro m hscrub hclean hst hswitch hshutting
    exact ⟨answersAfter (i := .scrubComplete m) rfl (scrubComplete_untenanted m hscrub hclean hst hswitch hshutting), rfl, rfl⟩
  case returns =>
    intro i hreturning hwaiting
    exact answersAfter (i := .pcReturnDone i true) rfl (pcReturnDone_passes hreturning hwaiting)
  case wake =>
    intro w hwake hstep hgood htested hst
    exact answersAfter (i := .wakeComplete) rfl (wakeComplete_ends hwake hstep hgood htested hst)

end Sys2Proof.Machine
end
